-- ==== Sys2Proof/Word.lean ====
section
/-! DEFINITION. The word types of the rig link and of the run clock. -/

namespace Sys2Proof

/-- One byte of the rig link (R196). -/
abbrev Byte := BitVec 8

/-- A two-byte number of the rig link (R196). -/
abbrev Half := BitVec 16

/-- A four-byte number of the rig link (R196). -/
abbrev Word := BitVec 32

/-- A value of the 32-bit run clock, which goes round after 4,294,967,295 (R186). -/
abbrev Tick := BitVec 32

/-- Ticks from `start` to `now`, taken modulo 2³² (R186). -/
def ticksSince (now start : Tick) : Nat := (now - start).toNat

end Sys2Proof
end

