-- ==== Sys2Proof/Syntax.lean ====
section
/-! DEFINITION. The commands of the part: one constructor of `Instr` for each row of spec/opcode_table.json, and the
requests of the rig link as the payload bytes carry them. -/

namespace Sys2Proof

/-- The four boom slots, numbered 1..4 on the link. -/
inductive Slot where
  | s1 | s2 | s3 | s4
  deriving DecidableEq, Repr

/-- One thing for each boom slot. -/
structure Four (α : Type) where
  b1 : α
  b2 : α
  b3 : α
  b4 : α
  deriving DecidableEq, Repr

/-- The slots in slot order, lowest first. -/
def Slot.all : List Slot := [.s1, .s2, .s3, .s4]

/-- What `f` holds for slot `b`. -/
def Four.get {α : Type} (f : Four α) (b : Slot) : α :=
  match b with
  | .s1 => f.b1
  | .s2 => f.b2
  | .s3 => f.b3
  | .s4 => f.b4

/-- `f` with `x` for slot `b`. -/
def Four.set {α : Type} (f : Four α) (b : Slot) (x : α) : Four α :=
  match b with
  | .s1 => { f with b1 := x }
  | .s2 => { f with b2 := x }
  | .s3 => { f with b3 := x }
  | .s4 => { f with b4 := x }

/-- The same thing for every slot. -/
def Four.fill {α : Type} (x : α) : Four α := { b1 := x, b2 := x, b3 := x, b4 := x }

/-- One thing for each of a boom's four channels, in the order the spec lists them. -/
structure Quad (α : Type) where
  thrust : α
  torque : α
  speed : α
  position : α
  deriving DecidableEq, Repr

/-- The same thing for every channel. -/
def Quad.fill {α : Type} (x : α) : Quad α := { thrust := x, torque := x, speed := x, position := x }

/-- A raw reading of one channel: a number, or the flag that the transducer is outside its live band (R49). -/
inductive Reading where
  | value (n : Nat)
  | low
  | high
  deriving DecidableEq, Repr

/-- A request of the rig link, split into its arguments but not yet checked: an argument's encoding is checked where
the owning rule checks that argument (R197). The rows are R199's, in code order. -/
inductive Request where
  | getStatus
  | setMode (mode : Byte)
  | restart
  | setParam (id : Byte) (value : Word)
  | getParam (id : Byte)
  | loadRecipe (slot : Byte) (fields : List Half)
  | clearRecipe (slot : Byte)
  | getRecipe (slot : Byte)
  | queueHole (boom : Byte) (holeId : Half) (slot : Byte) (posTag : Half) (presence : Byte) (override : Option Half)
  | cancelHole (holeId : Half)
  | flushQueue (boom : Byte)
  | getQueue (boom : Byte)
  | go (boom : Byte)
  | abandon (boom : Byte)
  | setEnables (boom : Byte) (set : Word)
  | resolve (boom action : Byte) (value : Option Byte)
  | getFrame (boom : Byte)
  | getProfile (boom : Byte)
  | takeover (boom : Byte)
  | manualDrive (boom : Byte) (feed rotation : Half) (chuck : Byte)
  | handback (boom : Byte)
  | safeRetract (boom : Byte)
  | retractClear (boom : Byte)
  | reserveFlow (amount : Half)
  | releaseFlow
  | getFlow
  | fetchRecord
  | dropRecord
  | markStart (boom : Byte) (holeId : Half) (slot : Byte) (posTag : Half)
  | markEnd (boom : Byte)
  deriving DecidableEq, Repr

/-- The commands: the rows of spec/opcode_table.json in the table's order. A request row carries its frame's tag (R190)
and its arguments as the frame carries them. An event row that concerns one boom carries the boom's slot. -/
inductive Instr where
  /-- POWER_ON (R185). -/
  | powerOn
  /-- SAMPLE_TICK (R49): the drive-enable and retract line levels read at the tick, and the raw readings of each slot. -/
  | sampleTick (drive line : Bool) (readings : Four (Quad Reading))
  /-- DRIVE_ENABLE_FALL (R57): of the input, or, when the input has fallen already, its reading (log entry 3). -/
  | driveEnableFall
  /-- DRIVE_ENABLE_RETURN (R57): of the input, or, when the input is back already, its reading (log entry 3). -/
  | driveEnableReturn
  /-- RETRACT_LINE_ASSERT (R160). -/
  | retractLineAssert
  /-- RETRACT_LINE_RELEASE (R160). -/
  | retractLineRelease
  /-- LOADER_DONE (R59). -/
  | loaderDone (b : Slot)
  /-- LOADER_FAULT (R60). -/
  | loaderFault (b : Slot)
  /-- LOAD_TIMEOUT (R61). -/
  | loadTimeout (b : Slot)
  /-- FEED_STALL (R37). -/
  | feedStall (b : Slot)
  /-- RETRACT_TIMEOUT (R38). -/
  | retractTimeout (b : Slot)
  /-- ABANDON_RETRACT_OVERDUE (R47). -/
  | abandonRetractOverdue (b : Slot)
  /-- SAFE_RETRACT_OVERDUE (R162). -/
  | safeRetractOverdue (b : Slot)
  /-- MIX_SHORT (R95). -/
  | mixShort (b : Slot)
  /-- HOLD_TIMER_ELAPSED (R40). -/
  | holdTimerElapsed (b : Slot)
  /-- TORQUE_TIMEOUT (R102). -/
  | torqueTimeout (b : Slot)
  /-- GEL_LIMIT_REACHED (R96). -/
  | gelLimitReached (b : Slot)
  /-- POSITION_LOST (R52). -/
  | positionLost (b : Slot)
  /-- FLOW_STARVED (R122). -/
  | flowStarved (b : Slot)
  /-- MANUAL_HOLD_EXPIRY (R156). -/
  | manualHoldExpiry (b : Slot)
  /-- INTERVAL_FORCED_CLOSE (R69). -/
  | intervalForcedClose (b : Slot)
  /-- LINK_SILENT (R194). -/
  | linkSilent
  /-- FRAME_RECEIVED (R189): a whole frame comes in over the link without a gap, its CRC as sent. -/
  | frameReceived (kind tag : Byte) (payload : List Byte) (crc : Half)
  /-- FRAME_GAP_TIMEOUT (R187). -/
  | frameGapTimeout
  /-- UNKNOWN_KIND (R190): a valid frame whose kind is no request kind. -/
  | unknownKind (kind tag : Byte) (payload : List Byte)
  /-- FRAME_TRANSMIT_END (R193). -/
  | frameTransmitEnd
  /-- GET_STATUS (R186). -/
  | getStatus (tag : Byte)
  /-- SET_MODE (R178). -/
  | setMode (tag mode : Byte)
  /-- RESTART (R185). -/
  | restart (tag : Byte)
  /-- WARM_RESTART (R185). -/
  | warmRestart
  /-- SET_PARAM (R184). -/
  | setParam (tag id : Byte) (value : Word)
  /-- GET_PARAM (R184). -/
  | getParam (tag id : Byte)
  /-- LOAD_RECIPE (R5, R6): the fields in the order of R4's table. -/
  | loadRecipe (tag slot : Byte) (fields : List Half)
  /-- CLEAR_RECIPE (R7). -/
  | clearRecipe (tag slot : Byte)
  /-- GET_RECIPE (R8). -/
  | getRecipe (tag slot : Byte)
  /-- QUEUE_HOLE (R11). -/
  | queueHole (tag boom : Byte) (holeId : Half) (slot : Byte) (posTag : Half) (override : Option Half)
  /-- CANCEL_HOLE (R14). -/
  | cancelHole (tag : Byte) (holeId : Half)
  /-- FLUSH_QUEUE (R15). -/
  | flushQueue (tag boom : Byte)
  /-- GET_QUEUE (R16). -/
  | getQueue (tag boom : Byte)
  /-- GO (R35, R36). -/
  | go (tag boom : Byte)
  /-- ABANDON (R45, R46). -/
  | abandon (tag boom : Byte)
  /-- SET_ENABLES (R130). -/
  | setEnables (tag boom : Byte) (set : Word)
  /-- RESOLVE with action CONTINUE (R144, R145); a value present is a fault of the request (R143). -/
  | resolveContinue (tag boom : Byte) (value : Option Byte)
  /-- RESOLVE with action RETRY (R147). -/
  | resolveRetry (tag boom : Byte) (value : Option Byte)
  /-- RESOLVE with action SET_CARTRIDGES (R148); a value absent is a fault of the request (R143). -/
  | resolveSetCartridges (tag boom : Byte) (value : Option Byte)
  /-- RESOLVE with action ABANDON (R149). -/
  | resolveAbandon (tag boom : Byte) (value : Option Byte)
  /-- GET_FRAME (R140). -/
  | getFrame (tag boom : Byte)
  /-- GET_PROFILE (R86). -/
  | getProfile (tag boom : Byte)
  /-- TAKEOVER (R154). -/
  | takeover (tag boom : Byte)
  /-- MANUAL_DRIVE (R156): feed and rotation in two's complement. -/
  | manualDrive (tag boom : Byte) (feed rotation : Half) (chuck : Byte)
  /-- HANDBACK (R158). -/
  | handback (tag boom : Byte)
  /-- SAFE_RETRACT (R159). -/
  | safeRetract (tag boom : Byte)
  /-- RETRACT_CLEAR (R163). -/
  | retractClear (tag boom : Byte)
  /-- RESERVE_FLOW (R123). -/
  | reserveFlow (tag : Byte) (amount : Half)
  /-- RELEASE_FLOW (R124). -/
  | releaseFlow (tag : Byte)
  /-- GET_FLOW (R126). -/
  | getFlow (tag : Byte)
  /-- FETCH_RECORD (R173). -/
  | fetchRecord (tag : Byte)
  /-- DROP_RECORD (R174). -/
  | dropRecord (tag : Byte)
  /-- MARK_START (R181). -/
  | markStart (tag boom : Byte) (holeId : Half) (slot : Byte) (posTag : Half)
  /-- MARK_END (R183). -/
  | markEnd (tag boom : Byte)
  /-- BYTE_RECEIVED (R187, R188). -/
  | byteReceived (byte : Byte)
  deriving DecidableEq, Repr

end Sys2Proof
end

