-- ==== Sys2Proof/WellFormed.lean ====
section
/-! DEFINITION. Which commands can reach the part at all: readings in their channel's range (R49), a recipe of
twenty-eight fields (R4), a payload a frame's length field can hold (R198), and an UNKNOWN_KIND frame whose kind is no
request kind (R199). -/

namespace Sys2Proof

/-- A number is in the channel's range, or the reading is a flag (R49). -/
def Reading.inRange (top : Nat) : Reading → Bool
  | .value n => decide (n ≤ top)
  | .low => true
  | .high => true

/-- The four channels' readings are in the ranges R49 gives. -/
def readingsInRange (r : Quad Reading) : Bool :=
  r.thrust.inRange 60000 && r.torque.inRange 5000 && r.speed.inRange 1200 && r.position.inRange 30000

/-- Requests use the codes 0x01..0x1E (R199). -/
def isRequestKind (k : Byte) : Bool := decide (1 ≤ k.toNat) && decide (k.toNat ≤ 30)

/-- The length field of a frame is two bytes (R198). -/
def payloadFits (p : List Byte) : Bool := decide (p.length < 65536)

/-- The command is one the outside world can send. -/
def Instr.wellFormed : Instr → Bool
  | .powerOn => true
  | .sampleTick _ _ rs => readingsInRange rs.b1 && readingsInRange rs.b2 && readingsInRange rs.b3 && readingsInRange rs.b4
  | .driveEnableFall => true
  | .driveEnableReturn => true
  | .retractLineAssert => true
  | .retractLineRelease => true
  | .loaderDone _ => true
  | .loaderFault _ => true
  | .loadTimeout _ => true
  | .feedStall _ => true
  | .retractTimeout _ => true
  | .abandonRetractOverdue _ => true
  | .safeRetractOverdue _ => true
  | .mixShort _ => true
  | .holdTimerElapsed _ => true
  | .torqueTimeout _ => true
  | .gelLimitReached _ => true
  | .positionLost _ => true
  | .flowStarved _ => true
  | .manualHoldExpiry _ => true
  | .intervalForcedClose _ => true
  | .linkSilent => true
  | .frameReceived _ _ payload _ => payloadFits payload
  | .frameGapTimeout => true
  | .unknownKind kind _ payload => !isRequestKind kind && payloadFits payload
  | .frameTransmitEnd => true
  | .getStatus _ => true
  | .setMode _ _ => true
  | .restart _ => true
  | .warmRestart => true
  | .setParam _ _ _ => true
  | .getParam _ _ => true
  | .loadRecipe _ _ fields => decide (fields.length = 28)
  | .clearRecipe _ _ => true
  | .getRecipe _ _ => true
  | .queueHole _ _ _ _ _ _ => true
  | .cancelHole _ _ => true
  | .flushQueue _ _ => true
  | .getQueue _ _ => true
  | .go _ _ => true
  | .abandon _ _ => true
  | .setEnables _ _ _ => true
  | .resolveContinue _ _ _ => true
  | .resolveRetry _ _ _ => true
  | .resolveSetCartridges _ _ _ => true
  | .resolveAbandon _ _ _ => true
  | .getFrame _ _ => true
  | .getProfile _ _ => true
  | .takeover _ _ => true
  | .manualDrive _ _ _ _ _ => true
  | .handback _ _ => true
  | .safeRetract _ _ => true
  | .retractClear _ _ => true
  | .reserveFlow _ _ => true
  | .releaseFlow _ => true
  | .getFlow _ => true
  | .fetchRecord _ => true
  | .dropRecord _ => true
  | .markStart _ _ _ _ _ => true
  | .markEnd _ _ => true
  | .byteReceived _ => true

/-- The request could have come out of a frame of an allowed length (R199): a LOAD_RECIPE has twenty-eight fields. -/
def Request.wellFormed : Request → Bool
  | .loadRecipe _ fields => decide (fields.length = 28)
  | _ => true

end Sys2Proof
end

