-- ==== Sys2Proof/Decode.lean ====
section
/-! DEFINITION. The wire: byte order (R196), the CRC of a frame (R189), a request's kind and payload bytes (R199, R201),
the reading of a request from them (R190), and what the opcode table's words spell. No row of spec/opcode_table.json gives
bits, so no word spells a command. -/

namespace Sys2Proof

/-- One byte. -/
def le1 (n : Nat) : List Byte := [BitVec.ofNat 8 n]

/-- Two bytes, little-endian (R196). -/
def le2 (n : Nat) : List Byte := [BitVec.ofNat 8 n, BitVec.ofNat 8 (n / 256)]

/-- Four bytes, little-endian (R196). -/
def le4 (n : Nat) : List Byte :=
  [BitVec.ofNat 8 n, BitVec.ofNat 8 (n / 256), BitVec.ofNat 8 (n / 65536), BitVec.ofNat 8 (n / 16777216)]

/-- Four bytes that saturate at the largest value the field can hold: a figure held in ticks and shown in ms (R196). -/
def le4Saturating (n : Nat) : List Byte := le4 (min n 4294967295)

/-- The bytes of a two-byte number, low byte first. -/
def halfBytes (h : Half) : List Byte := [h.extractLsb' 0 8, h.extractLsb' 8 8]

/-- The bytes of a four-byte number, low byte first. -/
def wordBytes (w : Word) : List Byte :=
  [w.extractLsb' 0 8, w.extractLsb' 8 8, w.extractLsb' 16 8, w.extractLsb' 24 8]

/-- The two-byte number whose bytes came low byte first. -/
def halfOf (lo hi : Byte) : Half := hi ++ lo

/-- The four-byte number whose bytes came low byte first. -/
def wordOf (a b c d : Byte) : Word := d ++ (c ++ (b ++ a))

/-- One step of the CRC register for one bit, most significant bit first, with polynomial x¹⁶ + x¹² + x⁵ + 1 (R189). -/
def crcBit (r : Half) : Half := if r.getLsbD 15 then (r <<< 1) ^^^ 0x1021#16 else r <<< 1

/-- The CRC register after one more byte (R189). -/
def crcByte (r : Half) (b : Byte) : Half :=
  crcBit (crcBit (crcBit (crcBit (crcBit (crcBit (crcBit (crcBit (r ^^^ (b.setWidth 16 <<< 8)))))))))

/-- The CRC of a run of bytes: register at all ones, result not inverted (R189). -/
def crc16 (bytes : List Byte) : Half := bytes.foldl crcByte 0xFFFF#16

/-- The two-byte numbers in a run of bytes; an odd byte over is dropped. -/
def halvesOf : List Byte → List Half
  | lo :: hi :: rest => halfOf lo hi :: halvesOf rest
  | _ => []

/-- The bytes of a list of two-byte numbers. -/
def halvesBytes : List Half → List Byte
  | [] => []
  | h :: hs => halfBytes h ++ halvesBytes hs

/-- A request's kind code (R199). -/
def Request.kind : Request → Byte
  | .getStatus => 0x01
  | .setMode _ => 0x02
  | .restart => 0x03
  | .setParam _ _ => 0x04
  | .getParam _ => 0x05
  | .loadRecipe _ _ => 0x06
  | .clearRecipe _ => 0x07
  | .getRecipe _ => 0x08
  | .queueHole _ _ _ _ _ _ => 0x09
  | .cancelHole _ => 0x0A
  | .flushQueue _ => 0x0B
  | .getQueue _ => 0x0C
  | .go _ => 0x0D
  | .abandon _ => 0x0E
  | .setEnables _ _ => 0x0F
  | .resolve _ _ _ => 0x10
  | .getFrame _ => 0x11
  | .getProfile _ => 0x12
  | .takeover _ => 0x13
  | .manualDrive _ _ _ _ => 0x14
  | .handback _ => 0x15
  | .safeRetract _ => 0x16
  | .retractClear _ => 0x17
  | .reserveFlow _ => 0x18
  | .releaseFlow => 0x19
  | .getFlow => 0x1A
  | .fetchRecord => 0x1B
  | .dropRecord => 0x1C
  | .markStart _ _ _ _ => 0x1D
  | .markEnd _ => 0x1E

/-- The bytes of an optional last argument. -/
def optHalf : Option Half → List Byte
  | none => []
  | some h => halfBytes h

/-- A request's payload (R199, R201). -/
def Request.payload : Request → List Byte
  | .getStatus => []
  | .setMode m => [m]
  | .restart => []
  | .setParam id v => id :: wordBytes v
  | .getParam id => [id]
  | .loadRecipe slot fields => slot :: halvesBytes fields
  | .clearRecipe slot => [slot]
  | .getRecipe slot => [slot]
  | .queueHole b id slot tag presence ov => b :: (halfBytes id ++ slot :: (halfBytes tag ++ presence :: optHalf ov))
  | .cancelHole id => halfBytes id
  | .flushQueue b => [b]
  | .getQueue b => [b]
  | .go b => [b]
  | .abandon b => [b]
  | .setEnables b w => b :: wordBytes w
  | .resolve b a v => b :: a :: v.toList
  | .getFrame b => [b]
  | .getProfile b => [b]
  | .takeover b => [b]
  | .manualDrive b f r c => b :: (halfBytes f ++ (halfBytes r ++ [c]))
  | .handback b => [b]
  | .safeRetract b => [b]
  | .retractClear b => [b]
  | .reserveFlow n => halfBytes n
  | .releaseFlow => []
  | .getFlow => []
  | .fetchRecord => []
  | .dropRecord => []
  | .markStart b id slot tag => b :: (halfBytes id ++ slot :: halfBytes tag)
  | .markEnd b => [b]

/-- What a taken frame's kind and payload make of it, before any block sees it (R190). -/
inductive Taken where
  /-- The kind is not a request kind: answered UNKNOWN_KIND. -/
  | unknownKind
  /-- The payload length is not one R199 allows for the kind: answered BAD_ARG. -/
  | badLength
  /-- The request handed to the block that owns it. -/
  | request (r : Request)
  deriving DecidableEq, Repr

/-- A request without arguments. -/
def takeNone (r : Request) : List Byte → Taken
  | [] => .request r
  | _ => .badLength

/-- A request with one byte. -/
def takeByte (f : Byte → Request) : List Byte → Taken
  | [b] => .request (f b)
  | _ => .badLength

/-- A request with one two-byte number. -/
def takeHalf (f : Half → Request) : List Byte → Taken
  | [a, b] => .request (f (halfOf a b))
  | _ => .badLength

/-- A request with a byte and a four-byte number. -/
def takeByteWord (f : Byte → Word → Request) : List Byte → Taken
  | [x, a, b, c, d] => .request (f x (wordOf a b c d))
  | _ => .badLength

/-- LOAD_RECIPE's 57 bytes (R199). -/
def takeRecipe : List Byte → Taken
  | slot :: rest => if rest.length = 56 then .request (.loadRecipe slot (halvesOf rest)) else .badLength
  | [] => .badLength

/-- QUEUE_HOLE's 7 or 9 bytes (R199, R201). -/
def takeQueueHole : List Byte → Taken
  | [b, i0, i1, slot, t0, t1, p] => .request (.queueHole b (halfOf i0 i1) slot (halfOf t0 t1) p none)
  | [b, i0, i1, slot, t0, t1, p, o0, o1] =>
    .request (.queueHole b (halfOf i0 i1) slot (halfOf t0 t1) p (some (halfOf o0 o1)))
  | _ => .badLength

/-- RESOLVE's 2 or 3 bytes (R199). -/
def takeResolve : List Byte → Taken
  | [b, a] => .request (.resolve b a none)
  | [b, a, v] => .request (.resolve b a (some v))
  | _ => .badLength

/-- MANUAL_DRIVE's 6 bytes (R199). -/
def takeManualDrive : List Byte → Taken
  | [b, f0, f1, r0, r1, c] => .request (.manualDrive b (halfOf f0 f1) (halfOf r0 r1) c)
  | _ => .badLength

/-- MARK_START's 6 bytes (R199). -/
def takeMarkStart : List Byte → Taken
  | [b, i0, i1, slot, t0, t1] => .request (.markStart b (halfOf i0 i1) slot (halfOf t0 t1))
  | _ => .badLength

/-- The checks a taken frame meets before its request is handed on (R190), over R199's table. -/
def decodeRequest (kind : Byte) (payload : List Byte) : Taken :=
  match kind.toNat with
  | 0x01 => takeNone .getStatus payload
  | 0x02 => takeByte .setMode payload
  | 0x03 => takeNone .restart payload
  | 0x04 => takeByteWord .setParam payload
  | 0x05 => takeByte .getParam payload
  | 0x06 => takeRecipe payload
  | 0x07 => takeByte .clearRecipe payload
  | 0x08 => takeByte .getRecipe payload
  | 0x09 => takeQueueHole payload
  | 0x0A => takeHalf .cancelHole payload
  | 0x0B => takeByte .flushQueue payload
  | 0x0C => takeByte .getQueue payload
  | 0x0D => takeByte .go payload
  | 0x0E => takeByte .abandon payload
  | 0x0F => takeByteWord .setEnables payload
  | 0x10 => takeResolve payload
  | 0x11 => takeByte .getFrame payload
  | 0x12 => takeByte .getProfile payload
  | 0x13 => takeByte .takeover payload
  | 0x14 => takeManualDrive payload
  | 0x15 => takeByte .handback payload
  | 0x16 => takeByte .safeRetract payload
  | 0x17 => takeByte .retractClear payload
  | 0x18 => takeHalf .reserveFlow payload
  | 0x19 => takeNone .releaseFlow payload
  | 0x1A => takeNone .getFlow payload
  | 0x1B => takeNone .fetchRecord payload
  | 0x1C => takeNone .dropRecord payload
  | 0x1D => takeMarkStart payload
  | 0x1E => takeByte .markEnd payload
  | _ => .unknownKind

/-- The command that a word spells by the opcode table's bits. No row of the table gives bits, so a word spells none. -/
def decodeTableWord (_nbits _w : Nat) : Option Instr := none

end Sys2Proof
end

