-- ==== Sys2Proof/Config.lean ====
section
/-! DEFINITION. Fixed sizes the spec gives the part, and the free values: constants without a body, which no proof
can look into. -/

namespace Sys2Proof.Config

/-- The receive buffer's size in bytes (R188). -/
def receiveBytes : Nat := 512

/-- The longest payload a frame may have (R188, R198). -/
def maxPayload : Nat := 1024

/-- Records the log holds (R172). -/
def logSize : Nat := 48

/-- Entries a hole queue holds (R9). -/
def queueSize : Nat := 8

/-- Bands a profile holds (R77). -/
def maxBands : Nat := 32

/-- The most samples an open interval takes before it closes as FORCED (R69). -/
def maxSamples : Nat := 4095

/-- The upper end of a band's interval count and SE count (R77). -/
def maxBandCount : Nat := 4095

/-- FREE VALUE (log entry 12): what a band's interval count or SE count, whose range ends at 4095 (R77), holds when one
more interval is closed into the band. R78 only says that it increases by 1. -/
opaque bandCountPast : Nat → Nat

/-- FREE VALUE (log entry 12): what a band's SE sum, whose range ends at 268,365,825 (R77), holds when it grows past
that end. -/
opaque bandSumPast : Nat → Nat

end Sys2Proof.Config
end

