-- ==== Sys2Proof/Machine/Params.lean ====
section
/-! DEFINITION. The device parameter set (R18): the parameters of R205's table with their identifiers, ranges and
defaults, and the recipe fields of R4's table with their ranges. -/

namespace Sys2Proof.Machine

/-- The parameters, in the order of their identifiers (R205). -/
inductive ParamId where
  | fittedBooms
  | pumpCapacity
  | demandCollaring
  | demandDrilling
  | demandRetractDrill
  | demandResinLoad
  | demandBoltLoad
  | demandInserting
  | demandMixing
  | demandHolding
  | demandTorquing
  | demandReleasing
  | manualDemand
  | waitLimit
  | stallWindow
  | retractFeed
  | holdFeed
  | homeTolerance
  | retractTimeout
  | loadTimeout
  | mixStroke
  | seatTolerance
  | profileInterval
  | voidPct
  | softPct
  | hardPct
  | anchorGoodPct
  | anchorFairPct
  | voidLimit
  | thrustPolicy
  | torquePolicy
  | speedPolicy
  | reentryTolerance
  | manualHold
  | linkSilence
  deriving DecidableEq, Repr

/-- The parameters in identifier order: the first has identifier 0x01 (R205). -/
def ParamId.all : List ParamId :=
  [.fittedBooms, .pumpCapacity, .demandCollaring, .demandDrilling, .demandRetractDrill,
   .demandResinLoad, .demandBoltLoad, .demandInserting, .demandMixing, .demandHolding,
   .demandTorquing, .demandReleasing, .manualDemand, .waitLimit, .stallWindow,
   .retractFeed, .holdFeed, .homeTolerance, .retractTimeout, .loadTimeout,
   .mixStroke, .seatTolerance, .profileInterval, .voidPct, .softPct,
   .hardPct, .anchorGoodPct, .anchorFairPct, .voidLimit, .thrustPolicy,
   .torquePolicy, .speedPolicy, .reentryTolerance, .manualHold, .linkSilence]

/-- The parameter an identifier names, if it names one (R205). -/
def ParamId.ofCode (n : Nat) : Option ParamId := if n = 0 then none else ParamId.all[n - 1]?

/-- The value of every parameter in force (R18). -/
structure Params where
  /-- FITTED_BOOMS: the fitted slots as a bit set, bit 0 for slot 1 (R19). -/
  fittedBooms : Nat
  /-- PUMP_CAPACITY: L/min; the capacity in force, C (R110). -/
  pumpCapacity : Nat
  /-- DEMAND_COLLARING: L/min (R111). -/
  demandCollaring : Nat
  /-- DEMAND_DRILLING: L/min (R111). -/
  demandDrilling : Nat
  /-- DEMAND_RETRACT_DRILL: L/min (R111). -/
  demandRetractDrill : Nat
  /-- DEMAND_RESIN_LOAD: L/min (R111). -/
  demandResinLoad : Nat
  /-- DEMAND_BOLT_LOAD: L/min (R111). -/
  demandBoltLoad : Nat
  /-- DEMAND_INSERTING: L/min (R111). -/
  demandInserting : Nat
  /-- DEMAND_MIXING: L/min (R111). -/
  demandMixing : Nat
  /-- DEMAND_HOLDING: L/min (R111). -/
  demandHolding : Nat
  /-- DEMAND_TORQUING: L/min (R111). -/
  demandTorquing : Nat
  /-- DEMAND_RELEASING: L/min (R111). -/
  demandReleasing : Nat
  /-- MANUAL_DEMAND: L/min (R111). -/
  manualDemand : Nat
  /-- WAIT_LIMIT: ms (R122). -/
  waitLimit : Nat
  /-- STALL_WINDOW: ms (R37). -/
  stallWindow : Nat
  /-- RETRACT_FEED: per-mille (R23). -/
  retractFeed : Nat
  /-- HOLD_FEED: per-mille (R23). -/
  holdFeed : Nat
  /-- HOME_TOLERANCE: mm (R22). -/
  homeTolerance : Nat
  /-- RETRACT_TIMEOUT: ms (R38). -/
  retractTimeout : Nat
  /-- LOAD_TIMEOUT: ms (R58). -/
  loadTimeout : Nat
  /-- MIX_STROKE: mm (R22). -/
  mixStroke : Nat
  /-- SEAT_TOLERANCE: mm (R22). -/
  seatTolerance : Nat
  /-- PROFILE_INTERVAL: mm (R85). -/
  profileInterval : Nat
  /-- VOID_PCT: per cent (R85). -/
  voidPct : Nat
  /-- SOFT_PCT: per cent (R85). -/
  softPct : Nat
  /-- HARD_PCT: per cent (R85). -/
  hardPct : Nat
  /-- ANCHOR_GOOD_PCT: per cent (R85). -/
  anchorGoodPct : Nat
  /-- ANCHOR_FAIR_PCT: per cent (R85). -/
  anchorFairPct : Nat
  /-- VOID_LIMIT: mm (R85). -/
  voidLimit : Nat
  /-- THRUST_POLICY: policy code: 0 CLAMP, 1 HOLD, 2 DROP (R50, R200). -/
  thrustPolicy : Nat
  /-- TORQUE_POLICY: policy code (R50). -/
  torquePolicy : Nat
  /-- SPEED_POLICY: policy code (R50). -/
  speedPolicy : Nat
  /-- REENTRY_TOLERANCE: mm (R166). -/
  reentryTolerance : Nat
  /-- MANUAL_HOLD: ms (R156). -/
  manualHold : Nat
  /-- LINK_SILENCE: ms, or 0 for never (R194). -/
  linkSilence : Nat
  deriving DecidableEq, Repr

/-- The defaults, taken at power-on (R18, R205). -/
def Params.default : Params :=
  { fittedBooms := 15, pumpCapacity := 160, demandCollaring := 30, demandDrilling := 45,
    demandRetractDrill := 25, demandResinLoad := 10, demandBoltLoad := 10, demandInserting := 20,
    demandMixing := 45, demandHolding := 5, demandTorquing := 35, demandReleasing := 25,
    manualDemand := 40, waitLimit := 20000, stallWindow := 1500, retractFeed := 600,
    holdFeed := 80, homeTolerance := 20, retractTimeout := 10000, loadTimeout := 3000,
    mixStroke := 100, seatTolerance := 5, profileInterval := 20, voidPct := 15,
    softPct := 60, hardPct := 180, anchorGoodPct := 80, anchorFairPct := 50,
    voidLimit := 40, thrustPolicy := 0, torquePolicy := 1, speedPolicy := 1,
    reentryTolerance := 10, manualHold := 300, linkSilence := 1000 }

/-- A parameter's value in force. -/
def Params.get (ps : Params) : ParamId → Nat
  | .fittedBooms => ps.fittedBooms
  | .pumpCapacity => ps.pumpCapacity
  | .demandCollaring => ps.demandCollaring
  | .demandDrilling => ps.demandDrilling
  | .demandRetractDrill => ps.demandRetractDrill
  | .demandResinLoad => ps.demandResinLoad
  | .demandBoltLoad => ps.demandBoltLoad
  | .demandInserting => ps.demandInserting
  | .demandMixing => ps.demandMixing
  | .demandHolding => ps.demandHolding
  | .demandTorquing => ps.demandTorquing
  | .demandReleasing => ps.demandReleasing
  | .manualDemand => ps.manualDemand
  | .waitLimit => ps.waitLimit
  | .stallWindow => ps.stallWindow
  | .retractFeed => ps.retractFeed
  | .holdFeed => ps.holdFeed
  | .homeTolerance => ps.homeTolerance
  | .retractTimeout => ps.retractTimeout
  | .loadTimeout => ps.loadTimeout
  | .mixStroke => ps.mixStroke
  | .seatTolerance => ps.seatTolerance
  | .profileInterval => ps.profileInterval
  | .voidPct => ps.voidPct
  | .softPct => ps.softPct
  | .hardPct => ps.hardPct
  | .anchorGoodPct => ps.anchorGoodPct
  | .anchorFairPct => ps.anchorFairPct
  | .voidLimit => ps.voidLimit
  | .thrustPolicy => ps.thrustPolicy
  | .torquePolicy => ps.torquePolicy
  | .speedPolicy => ps.speedPolicy
  | .reentryTolerance => ps.reentryTolerance
  | .manualHold => ps.manualHold
  | .linkSilence => ps.linkSilence

/-- The parameter set with one value stored. -/
def Params.set (ps : Params) (p : ParamId) (v : Nat) : Params :=
  match p with
  | .fittedBooms => { ps with fittedBooms := v }
  | .pumpCapacity => { ps with pumpCapacity := v }
  | .demandCollaring => { ps with demandCollaring := v }
  | .demandDrilling => { ps with demandDrilling := v }
  | .demandRetractDrill => { ps with demandRetractDrill := v }
  | .demandResinLoad => { ps with demandResinLoad := v }
  | .demandBoltLoad => { ps with demandBoltLoad := v }
  | .demandInserting => { ps with demandInserting := v }
  | .demandMixing => { ps with demandMixing := v }
  | .demandHolding => { ps with demandHolding := v }
  | .demandTorquing => { ps with demandTorquing := v }
  | .demandReleasing => { ps with demandReleasing := v }
  | .manualDemand => { ps with manualDemand := v }
  | .waitLimit => { ps with waitLimit := v }
  | .stallWindow => { ps with stallWindow := v }
  | .retractFeed => { ps with retractFeed := v }
  | .holdFeed => { ps with holdFeed := v }
  | .homeTolerance => { ps with homeTolerance := v }
  | .retractTimeout => { ps with retractTimeout := v }
  | .loadTimeout => { ps with loadTimeout := v }
  | .mixStroke => { ps with mixStroke := v }
  | .seatTolerance => { ps with seatTolerance := v }
  | .profileInterval => { ps with profileInterval := v }
  | .voidPct => { ps with voidPct := v }
  | .softPct => { ps with softPct := v }
  | .hardPct => { ps with hardPct := v }
  | .anchorGoodPct => { ps with anchorGoodPct := v }
  | .anchorFairPct => { ps with anchorFairPct := v }
  | .voidLimit => { ps with voidLimit := v }
  | .thrustPolicy => { ps with thrustPolicy := v }
  | .torquePolicy => { ps with torquePolicy := v }
  | .speedPolicy => { ps with speedPolicy := v }
  | .reentryTolerance => { ps with reentryTolerance := v }
  | .manualHold => { ps with manualHold := v }
  | .linkSilence => { ps with linkSilence := v }

/-- How SET_PARAM treats a value that is out of range (R184). -/
inductive ParamKind where
  /-- Brought to the nearer end of the range. -/
  | numeric (lo hi : Nat)
  /-- The nearest of 10, 20, 25 and 50; halfway values go to the larger. -/
  | stepped
  /-- 0, or a range: below 0 becomes 0, a value from 1 up to the range becomes its lower end. -/
  | zeroOrRange (lo hi : Nat)
  /-- A policy code; any other value is refused. -/
  | policy
  /-- A non-empty set of slots; bits 4..31 set are refused. -/
  | slots
  deriving DecidableEq, Repr

/-- Each parameter's kind and range (R184, R205). -/
def ParamId.kind : ParamId → ParamKind
  | .fittedBooms => .slots
  | .pumpCapacity => .numeric 40 400
  | .demandCollaring => .numeric 0 200
  | .demandDrilling => .numeric 0 200
  | .demandRetractDrill => .numeric 0 200
  | .demandResinLoad => .numeric 0 200
  | .demandBoltLoad => .numeric 0 200
  | .demandInserting => .numeric 0 200
  | .demandMixing => .numeric 0 200
  | .demandHolding => .numeric 0 200
  | .demandTorquing => .numeric 0 200
  | .demandReleasing => .numeric 0 200
  | .manualDemand => .numeric 0 200
  | .waitLimit => .numeric 1000 120000
  | .stallWindow => .numeric 500 10000
  | .retractFeed => .numeric 100 1000
  | .holdFeed => .numeric 0 300
  | .homeTolerance => .numeric 5 100
  | .retractTimeout => .numeric 2000 30000
  | .loadTimeout => .numeric 500 10000
  | .mixStroke => .numeric 0 200
  | .seatTolerance => .numeric 1 20
  | .profileInterval => .stepped
  | .voidPct => .numeric 1 1000
  | .softPct => .numeric 1 1000
  | .hardPct => .numeric 1 1000
  | .anchorGoodPct => .numeric 0 100
  | .anchorFairPct => .numeric 0 100
  | .voidLimit => .numeric 5 200
  | .thrustPolicy => .policy
  | .torquePolicy => .policy
  | .speedPolicy => .policy
  | .reentryTolerance => .numeric 1 50
  | .manualHold => .numeric 100 1000
  | .linkSilence => .zeroOrRange 200 5000

/-- A recipe's twenty-eight fields (R4), in the order of R4's table. -/
structure Recipe where
  /-- Bit diameter, mm (22..45). -/
  bitDiameter : Nat
  /-- Bolt diameter, mm (12..32). -/
  boltDiameter : Nat
  /-- Encapsulation length E, mm (300..2400). -/
  encapsulation : Nat
  /-- Target depth, mm (600..3000). -/
  targetDepth : Nat
  /-- Collar depth, mm (20..200). -/
  collarDepth : Nat
  /-- Expected SE, MJ/m³ (10..2000). -/
  expectedSE : Nat
  /-- Collar feed, per-mille (0..1000). -/
  collarFeed : Nat
  /-- Collar rotation, per-mille (0..1000). -/
  collarRotation : Nat
  /-- Drill feed, per-mille (0..1000). -/
  drillFeed : Nat
  /-- Drill rotation, per-mille (0..1000). -/
  drillRotation : Nat
  /-- Insert feed, per-mille (0..1000). -/
  insertFeed : Nat
  /-- Mix feed, per-mille (0..1000). -/
  mixFeed : Nat
  /-- Mix rotation, per-mille (0..1000). -/
  mixRotation : Nat
  /-- Torque rotation, per-mille (0..1000). -/
  torqueRotation : Nat
  /-- Thrust ceiling, N (5000..60000). -/
  thrustCeiling : Nat
  /-- Cartridge diameter, mm (18..30). -/
  cartDiameter : Nat
  /-- Cartridge length, mm (300..1200). -/
  cartLength : Nat
  /-- Waste, per cent (0..50). -/
  waste : Nat
  /-- Max cartridges (1..6). -/
  maxCartridges : Nat
  /-- Mix revolutions (10..60). -/
  mixRevs : Nat
  /-- Mix time max, ms (2000..20000). -/
  mixTimeMax : Nat
  /-- Gel limit, ms (5000..60000). -/
  gelLimit : Nat
  /-- Gel hold, ms (3000..60000). -/
  gelHold : Nat
  /-- Target torque, 0.1 N·m (500..5000). -/
  targetTorque : Nat
  /-- Torque timeout, ms (1000..15000). -/
  torqueTimeout : Nat
  /-- Nut factor K×1000 (100..400). -/
  nutFactor : Nat
  /-- Tension min, 0.1 kN (0..3000). -/
  tensionMin : Nat
  /-- Tension max, 0.1 kN (0..3000). -/
  tensionMax : Nat
  deriving DecidableEq, Repr

/-- The fields' ranges, in the table's order (R4). -/
def Recipe.ranges : List (Nat × Nat) :=
  [(22, 45), (12, 32), (300, 2400), (600, 3000), (20, 200), (10, 2000), (0, 1000),
   (0, 1000), (0, 1000), (0, 1000), (0, 1000), (0, 1000), (0, 1000), (0, 1000),
   (5000, 60000), (18, 30), (300, 1200), (0, 50), (1, 6), (10, 60), (2000, 20000),
   (5000, 60000), (3000, 60000), (500, 5000), (1000, 15000), (100, 400), (0, 3000), (0, 3000)]

/-- The fields in the table's order. -/
def Recipe.toList (r : Recipe) : List Nat :=
  [r.bitDiameter, r.boltDiameter, r.encapsulation, r.targetDepth, r.collarDepth, r.expectedSE,
   r.collarFeed, r.collarRotation, r.drillFeed, r.drillRotation, r.insertFeed, r.mixFeed,
   r.mixRotation, r.torqueRotation, r.thrustCeiling, r.cartDiameter, r.cartLength, r.waste,
   r.maxCartridges, r.mixRevs, r.mixTimeMax, r.gelLimit, r.gelHold, r.targetTorque,
   r.torqueTimeout, r.nutFactor, r.tensionMin, r.tensionMax]

/-- The recipe with these fields, when there are twenty-eight. -/
def Recipe.ofList : List Nat → Option Recipe
  | [f1, f2, f3, f4, f5, f6, f7, f8, f9, f10, f11, f12, f13, f14,
     f15, f16, f17, f18, f19, f20, f21, f22, f23, f24, f25, f26, f27, f28] =>
    some
      { bitDiameter := f1, boltDiameter := f2, encapsulation := f3, targetDepth := f4,
        collarDepth := f5, expectedSE := f6, collarFeed := f7, collarRotation := f8,
        drillFeed := f9, drillRotation := f10, insertFeed := f11, mixFeed := f12,
        mixRotation := f13, torqueRotation := f14, thrustCeiling := f15, cartDiameter := f16,
        cartLength := f17, waste := f18, maxCartridges := f19, mixRevs := f20,
        mixTimeMax := f21, gelLimit := f22, gelHold := f23, targetTorque := f24,
        torqueTimeout := f25, nutFactor := f26, tensionMin := f27, tensionMax := f28 }
  | _ => none

/-- `v` brought into `lo..hi`. -/
def clampTo (lo hi v : Nat) : Nat := if v < lo then lo else if hi < v then hi else v

/-- Each field brought into its own range, one at a time (R5). -/
def Recipe.clampFields (fields : List Nat) : List Nat :=
  List.zipWith (fun range v => clampTo range.1 range.2 v) Recipe.ranges fields

/-- The four relations every stored recipe keeps (R4). -/
def Recipe.related (r : Recipe) : Bool :=
  decide (r.boltDiameter + 3 ≤ r.bitDiameter) && decide (r.encapsulation ≤ r.targetDepth) &&
    decide (r.mixTimeMax ≤ r.gelLimit) && decide (r.tensionMin < r.tensionMax)

end Sys2Proof.Machine
end

