-- ==== Sys2Proof/Machine/State.lean ====
section
/-! DEFINITION. The state of the part: every block's state (00_scope.md, The blocks) as plain data, the reasons a step
can stop, and the state after power-on. -/

namespace Sys2Proof.Machine

/-- No command of the part stops it with a fault: the spec answers every request and takes every event. The type is
closed and empty, so no step of the model can answer a fault. -/
inductive Fault : Type
  deriving DecidableEq, Repr

/-- Why the model has no meaning for a command. -/
inductive Refusal where
  /-- Raised by an arm of exec whose command has no meaning yet, by its mnemonic. No arm raises it. Safe: nothing can be
  proved of such a command. -/
  | notModelled (mnemonic : String)
  deriving DecidableEq, Repr

/-! ## Names -/

/-- The three modes (R177). -/
inductive Mode where
  | config | run | observe
  deriving DecidableEq, Repr

/-- What a MODE report gives as its cause (R200); POWER and RESTART are the restart causes (R177). -/
inductive ModeCause where
  | power | restart | change
  deriving DecidableEq, Repr

/-- The ten phases of the cycle, in order (R23). -/
inductive Phase where
  | collaring | drilling | retractDrill | resinLoad | boltLoad | inserting | mixing | holding | torquing | releasing
  deriving DecidableEq, Repr

/-- The seventeen conditions, by priority (07_conditions_and_exceptions.md, 7.1). -/
inductive Cond where
  | driveLost | linkSilent | positionLost | overThrust | retractTimeout | feedStall | loaderJam | mixShort | movedWhileAway
  | flowStarved | torqueTimeout | poorAnchor | shortResin | underTension | overTension | voidStruck | sensorRange
  deriving DecidableEq, Repr

/-- A set of conditions: bit n−1 stands for the condition of priority n (R196). -/
abbrev CondSet := BitVec 17

/-- The actions of RESOLVE (R143, R200). -/
inductive Action where
  | resume | retry | setCartridges | abandon
  deriving DecidableEq, Repr

/-- A flow request's class (R111). -/
inductive FlowClass where
  | urgent | curing | normal
  deriving DecidableEq, Repr

/-- Who can hold flow: a boom slot or the rig reserve (R113). -/
inductive Requester where
  | boom (b : Slot)
  | reserve
  deriving DecidableEq, Repr

/-- A boom's last chuck command; none after a reset (R21, R56). -/
inductive Chuck where
  | none | opened | closed
  deriving DecidableEq, Repr

/-- A command on the LOADER output (R56, R58). -/
inductive LoaderCmd where
  | push | index
  deriving DecidableEq, Repr

/-- The loader handshake of a boom (03_sensing_outputs_and_the_loader.md, 3.5). -/
inductive Handshake where
  | none
  /-- A command issued and not answered: its kind, its attempt (1 or 2) and its issue tick. -/
  | outstanding (cmd : LoaderCmd) (attempt : Nat) (issued : Tick)
  /-- The first attempt was answered FAULT and the second has not gone out. -/
  | reissueDue (cmd : LoaderCmd)
  deriving DecidableEq, Repr

/-! ## The strata profile -/

/-- A profile's condition (R64). -/
inductive ProfileCond where
  | empty | opened | closed
  deriving DecidableEq, Repr

/-- A band's class (R77, R200). -/
inductive BandClass where
  | collar | void | soft | competent | hard | unknown | unlogged
  deriving DecidableEq, Repr

/-- The anchor grade (R83). -/
inductive Grade where
  | good | fair | poor
  deriving DecidableEq, Repr

/-- The open interval (R64). -/
structure Interval where
  /-- Start depth, 0.1 mm. -/
  start : Nat
  /-- n, the sample count. -/
  samples : Nat
  /-- ΣF, N. -/
  sumForce : Nat
  /-- n_F. -/
  forceCount : Nat
  /-- W_r, 0.1 N·m × rpm. -/
  sumWork : Nat
  /-- n_r. -/
  workCount : Nat
  /-- The drop count. -/
  drops : Nat
  deriving DecidableEq, Repr

/-- A band (R77); its mean SE is worked out from the sum and the count. -/
structure Band where
  cls : BandClass
  /-- Depth at which the band begins, 0.1 mm. -/
  top : Nat
  /-- Depth at which it ends, 0.1 mm. -/
  bottom : Nat
  /-- Interval count. -/
  count : Nat
  /-- SE count. -/
  seCount : Nat
  /-- Minimum SE, absent while no interval had one. -/
  seMin : Option Nat
  /-- Maximum SE. -/
  seMax : Option Nat
  /-- SE sum. -/
  seSum : Nat
  isPartial : Bool
  isForced : Bool
  isSuspect : Bool
  isMerged : Bool
  deriving DecidableEq, Repr

/-- The anchor assessment (R83). -/
structure Anchor where
  percent : Nat
  grade : Grade
  deriving DecidableEq, Repr

/-- A boom's hole profile (R64). -/
structure Profile where
  cond : ProfileCond
  frontier : Nat
  interval : Option Interval
  refSE : Nat
  lastSE : Nat
  bands : List Band
  truncated : Bool
  collarLimit : Nat
  anchor : Option Anchor
  deriving DecidableEq, Repr

/-! ## Contexts -/

/-- What GO or MARK_START gives a hole (R17, R21, R181). -/
structure Plan where
  holeId : Nat
  recipeSlot : Nat
  posTag : Nat
  recipe : Recipe
  /-- Target depth, 0.1 mm. -/
  target : Nat
  start : Tick
  deriving DecidableEq, Repr

/-- The kinds of exception frame (R137). -/
inductive FrameKind where
  | inPhase | prePhase
  deriving DecidableEq, Repr

/-- An exception frame (R137). -/
structure ExFrame where
  slot : Slot
  holeId : Nat
  kind : FrameKind
  cause : Cond
  current : CondSet
  posted : CondSet
  raisedIn : Phase
  phase : Phase
  depth : Nat
  thrust : Nat
  torque : Nat
  speed : Nat
  lastSE : Nat
  refSE : Nat
  time : Tick
  operand : Nat
  deriving DecidableEq, Repr

/-- The figures of a started hole, which its CYCLE, EXCEPTION or ABANDONING context holds (R21, R88). -/
structure Hole where
  plan : Plan
  phase : Phase
  /-- Drilled depth, 0.1 mm; absent before DRILLING ends (R26). -/
  drilled : Option Nat
  chuckReleased : Bool
  moved : Bool
  /-- The stall mark, 0.1 mm, and the stall window in ticks (R37). -/
  stallMark : Nat
  stallTicks : Nat
  /-- The retract timer in ticks (R38). -/
  retractTicks : Nat
  /-- RELEASING has commanded the chuck OPEN, and feeds (R23, R31). -/
  releaseOpened : Bool
  releaseFeeding : Bool
  /-- The INDEX of BOLT_LOAD has been answered DONE (R59). -/
  indexDone : Bool
  /-- Start of the mix window, of the resin age, of the torque timer; MIXING end, from which the hold timer counts;
  HOLDING end (R39 to R41, R88). -/
  mixStart : Option Tick
  resinStart : Option Tick
  torqueStart : Option Tick
  mixEnd : Option Tick
  holdEnd : Option Tick
  /-- Ticks (R99). -/
  resinAgeAtTorque : Option Nat
  /-- A tick has reached the gel limit (R96). -/
  gelReached : Bool
  /-- ΣN (R93). -/
  mixSum : Nat
  torqueRun : List Nat
  peak : Nat
  finalTorque : Option Nat
  tension : Option Nat
  computed : Option Nat
  planned : Option Nat
  loaded : Nat
  retorques : Nat
  exceptions : Nat
  resolveCount : Nat
  resolves : List (Cond × Action)
  takeovers : Nat
  retracts : Nat
  /-- Moved distance, 0.1 mm (R165). -/
  movedDistance : Nat
  starves : Nat
  /-- The abandon mark. -/
  abandoned : Bool
  /-- The retract-overdue flag (R47). -/
  overdue : Bool
  /-- RESIN_LOAD, TORQUING has been entered in the hole (R170). -/
  resinEntered : Bool
  torqueEntered : Bool
  deriving DecidableEq, Repr

/-- A record's verdict (R171). -/
inductive Verdict where
  | accepted | flagged | rejected | logged
  deriving DecidableEq, Repr

/-- The resin section of a record (R107); times in ms. -/
structure ResinSection where
  planned : Nat
  loaded : Nat
  mixRevs : Nat
  mixTime : Nat
  holdTime : Nat
  ageAtTorque : Nat
  deriving DecidableEq, Repr

/-- The tension section of a record (R107). -/
structure TensionSection where
  peak : Nat
  final : Nat
  tension : Nat
  retorques : Nat
  deriving DecidableEq, Repr

/-- A bolt record (R169). The sequence number is 0 until the record is written to the log. -/
structure BoltRecord where
  seq : Nat
  holeId : Nat
  slot : Slot
  recipeSlot : Nat
  posTag : Nat
  verdict : Verdict
  start : Tick
  finish : Tick
  endPhase : Option Phase
  target : Nat
  drilled : Nat
  bands : List Band
  truncated : Bool
  anchor : Option Anchor
  resin : Option ResinSection
  tension : Option TensionSection
  accrued : CondSet
  exceptions : Nat
  resolveCount : Nat
  resolves : List (Cond × Action)
  takeovers : Nat
  retracts : Nat
  movedDistance : Nat
  starves : Nat
  outOfRange : Quad Nat
  deriving DecidableEq, Repr

/-- The sub-states of CYCLE (R20). -/
inductive CycleSub where
  | waitFlow | active | backedOff | reEngage
  deriving DecidableEq, Repr

/-- The sub-states of ABANDONING (R20). -/
inductive AbandonSub where
  | waitFlow | active | driveHeld
  deriving DecidableEq, Repr

/-- The sub-states of MANUAL (R155). -/
inductive ManualSub where
  | waitFlow | ready
  deriving DecidableEq, Repr

/-- The sub-states of SAFE_RETRACT (R161). -/
inductive RetractSub where
  | waitFlow | active | driveHeld | retracted
  deriving DecidableEq, Repr

/-- A boom's level-0 context (R20), active at level 0 and on the stack at levels 1 and 2. -/
inductive Auto where
  | idle
  | cycle (sub : CycleSub) (h : Hole)
  | exception (f : ExFrame) (h : Hole)
  | abandoning (sub : AbandonSub) (h : Hole)
  | logWait (r : BoltRecord)
  | observing (p : Plan)
  deriving DecidableEq, Repr

/-- A MANUAL context (R155). Its feed and rotation command and its chuck command are the boom's while it is active. -/
structure ManualCtx where
  sub : ManualSub
  /-- The manual hold timer in ticks, absent while it is stopped (R156). -/
  hold : Option Nat
  /-- Its away depth, stored when a retract is pushed over it (R153) and not used (R165). -/
  away : Nat
  deriving DecidableEq, Repr

/-- A SAFE_RETRACT context (R161). -/
structure RetractCtx where
  sub : RetractSub
  ticks : Nat
  overdue : Bool
  deriving DecidableEq, Repr

/-! ## A boom -/

/-- What the part holds for one boom slot: the Front End's, the sequencer's, the Intervention Unit's, the Strata
Monitor's and the Condition Unit's state. The active context is the retract when there is one, else the takeover when
there is one, else the level-0 context; what lies below the active one is the context stack (R152), so a stack never
holds more than two and is empty exactly at level 0. -/
structure Boom where
  /-- Latest raw readings; none until the first tick (R49, R63). -/
  raw : Option (Quad Reading)
  /-- Last good values (R51). -/
  lastGood : Quad Nat
  /-- Values in force at the latest sample; none where the channel was dropped (R50), and none before the first tick after a
  reset (log entry 21). -/
  inForce : Quad (Option Nat)
  /-- Position-loss run count, 0..20 (R52). -/
  posLoss : Nat
  /-- Out-of-range counts (R53). -/
  outOfRange : Quad Nat
  /-- SENSOR_RANGE seen marks (R54). -/
  seen : Quad Bool
  handshake : Handshake
  /-- The command the LOADER output shows this tick (R56). -/
  loaderOut : Option LoaderCmd
  /-- FEED and ROTATION asked for by the active context, per-mille (R56). -/
  feed : Int
  rotation : Int
  /-- The active context's last chuck command (R21, R155, R161). -/
  chuck : Chuck
  /-- The command the CHUCK output last showed (R164). -/
  chuckShown : Chuck
  /-- P0, 0.1 mm (R21, R22). -/
  p0 : Nat
  auto : Auto
  /-- The level-1 context, active or stacked. -/
  manual : Option ManualCtx
  /-- The level-2 context. -/
  retract : Option RetractCtx
  /-- The away depth of the level-0 context while it is set aside (R153). -/
  awayDepth : Nat
  profile : Profile
  /-- The boom's previous sample was eligible (R66; R81, third event). -/
  wasEligible : Bool
  enabled : CondSet
  current : CondSet
  posted : CondSet
  accrued : CondSet
  deriving DecidableEq, Repr

/-- A queued hole (R9). -/
structure QueueEntry where
  holeId : Nat
  recipeSlot : Nat
  posTag : Nat
  /-- Depth override, mm. -/
  depth : Option Nat
  deriving DecidableEq, Repr

/-! ## The Flow Arbiter -/

/-- A wait-list entry (R113). -/
structure WaitEntry where
  requester : Requester
  cls : FlowClass
  demand : Nat
  join : Tick
  waitStart : Tick
  backedOff : Bool
  /-- The MODEL's own mark: a timer row has placed the entry at the tick now falling due, which has not come yet (log
  entry 2). -/
  joinAhead : Bool := false
  /-- The MODEL's own mark: the entry's wait starts at the tick now falling due (log entry 2). -/
  waitAhead : Bool := false
  deriving DecidableEq, Repr

/-- The Flow Arbiter's state (R109). The capacity in force is the parameter PUMP_CAPACITY (R110). -/
structure Arbiter where
  grants : Four Nat
  reserve : Nat
  /-- Oldest increase first (R112). -/
  grantList : List Requester
  /-- Head first (R114). -/
  waitList : List WaitEntry
  deriving DecidableEq, Repr

/-! ## The Link Unit -/

/-- A frame without its envelope (R198). -/
structure Frame where
  kind : Byte
  tag : Byte
  payload : List Byte
  deriving DecidableEq, Repr

/-- The frame assembler (R187, R188). -/
inductive Assembler where
  | hunt
  /-- The bytes taken after the marker: the length bytes, the kind and the tag. -/
  | header (got : List Byte)
  /-- The four header bytes, the payload and CRC bytes taken, and how many are still to come. -/
  | body (header got : List Byte) (left : Nat)
  /-- Bytes of a frame that found no room, still to be counted through. -/
  | skip (left : Nat)
  deriving DecidableEq, Repr

/-- The Link Unit's state (R187 to R195). -/
structure Link where
  assembler : Assembler
  /-- Complete request frames waiting in the receive buffer, oldest first. -/
  waiting : List Frame
  reply : Option Frame
  /-- The frame being transmitted; none while the transmitter is idle. -/
  sending : Option Frame
  /-- RESTART has been taken and its reply has not gone out (R185). -/
  restarting : Bool
  /-- Link-silence timer in ticks. -/
  silenceTicks : Nat
  silent : Bool
  boomStatus : Four Bool
  exceptionReport : Four (Option ExFrame)
  modeReport : Option ModeCause
  flowGranted : Bool
  recordReady : Bool
  deriving DecidableEq, Repr

/-! ## The part -/

/-- The whole part, and the queue of commands waiting for it. -/
structure State where
  /-- The MODEL's own field: commands waiting, first in, first out. -/
  pending : List Instr
  /-- The run clock (R186). -/
  clock : Tick
  mode : Mode
  requested : Option Mode
  restartCause : ModeCause
  params : Params
  /-- The recipe table, slots 0..15 (R3). -/
  recipes : Vector (Option Recipe) 16
  /-- The four hole queues (R9). -/
  queues : Four (List QueueEntry)
  booms : Four Boom
  arbiter : Arbiter
  /-- The record log, oldest first (R172). -/
  log : List BoltRecord
  nextSeq : Nat
  /-- Waiting writers (R175). -/
  writers : List Slot
  /-- Drive-enable as last read; none before the first tick (R57, R63). -/
  drive : Option Bool
  /-- The drive-enable input itself, which the hardware holds the outputs by (R57); none until a command since the reset has
  told it (log entry 5). -/
  driveLine : Option Bool
  /-- The retract line as last read; none before the first tick (R160). -/
  retractLine : Option Bool
  link : Link
  deriving DecidableEq, Repr

/-! ## After a reset -/

/-- An EMPTY profile (R87). -/
def Profile.vacant : Profile :=
  { cond := .empty, frontier := 0, interval := Option.none, refSE := 0, lastSE := 0, bands := [], truncated := false,
    collarLimit := 0, anchor := Option.none }

/-- The enable set after a reset: POOR_ANCHOR, SHORT_RESIN, UNDER_TENSION and OVER_TENSION (R129). -/
def CondSet.defaultEnabled : CondSet := 0x07800#17

/-- A boom after a reset, and a boom in a slot added to FITTED_BOOMS (R19, R48, R63, R87, R151, R167). -/
def Boom.fresh : Boom :=
  { raw := Option.none, lastGood := Quad.fill 0, inForce := Quad.fill Option.none, posLoss := 0, outOfRange := Quad.fill 0,
    seen := Quad.fill false, handshake := .none, loaderOut := Option.none, feed := 0, rotation := 0, chuck := .none,
    chuckShown := .none, p0 := 0, auto := .idle, manual := Option.none, retract := Option.none, awayDepth := 0,
    profile := Profile.vacant, wasEligible := false, enabled := CondSet.defaultEnabled, current := 0, posted := 0, accrued := 0 }

/-- The arbiter after a reset (R127). -/
def Arbiter.empty : Arbiter := { grants := Four.fill 0, reserve := 0, grantList := [], waitList := [] }

/-- The Link Unit after a reset: MODE is the one full report slot (R195). -/
def Link.fresh (cause : ModeCause) : Link :=
  { assembler := .hunt, waiting := [], reply := Option.none, sending := Option.none, restarting := false, silenceTicks := 0,
    silent := false, boomStatus := Four.fill false, exceptionReport := Four.fill Option.none, modeReport := some cause,
    flowGranted := false, recordReady := false }

/-- The part after a reset with this cause, parameter set and recipe table (R185). -/
def State.afterReset (cause : ModeCause) (ps : Params) (recipes : Vector (Option Recipe) 16) : State :=
  { pending := [], clock := 0, mode := .config, requested := Option.none, restartCause := cause, params := ps,
    recipes := recipes, queues := Four.fill [], booms := Four.fill Boom.fresh, arbiter := Arbiter.empty, log := [],
    nextSeq := 1, writers := [], drive := Option.none, driveLine := Option.none,
    retractLine := Option.none, link := Link.fresh cause }

/-- The part right after power-on: every parameter at its default, every recipe slot empty, mode CONFIG, and MODE queued
with cause POWER (R3, R18, R177, R185). -/
def State.reset : State := State.afterReset .power Params.default (Vector.replicate 16 Option.none)

end Sys2Proof.Machine
end

