-- ==== Sys2Proof/Machine/Flags.lean ====
section
/-! DEFINITION. The conditions: their priority, their kind, and the sets that hold them (07_conditions_and_exceptions.md). -/

namespace Sys2Proof.Machine

/-- The conditions by priority, highest first. -/
def Cond.all : List Cond :=
  [.driveLost, .linkSilent, .positionLost, .overThrust, .retractTimeout, .feedStall, .loaderJam, .mixShort, .movedWhileAway,
   .flowStarved, .torqueTimeout, .poorAnchor, .shortResin, .underTension, .overTension, .voidStruck, .sensorRange]

/-- A condition's priority, 1 the highest, which is also its code (R200). -/
def Cond.priority : Cond → Nat
  | .driveLost => 1
  | .linkSilent => 2
  | .positionLost => 3
  | .overThrust => 4
  | .retractTimeout => 5
  | .feedStall => 6
  | .loaderJam => 7
  | .mixShort => 8
  | .movedWhileAway => 9
  | .flowStarved => 10
  | .torqueTimeout => 11
  | .poorAnchor => 12
  | .shortResin => 13
  | .underTension => 14
  | .overTension => 15
  | .voidStruck => 16
  | .sensorRange => 17

/-- The eight maskable conditions are those of priority 10 and below (R129). -/
def Cond.maskable (c : Cond) : Bool := decide (10 ≤ c.priority)

/-- The posted conditions are the maskable ones but FLOW_STARVED, which is immediate (7.1). -/
def Cond.isPosted (c : Cond) : Bool := decide (11 ≤ c.priority)

/-- The set holding one condition. -/
def Cond.bit (c : Cond) : CondSet := 1#17 <<< (c.priority - 1)

/-- The condition is in the set. -/
def CondSet.has (s : CondSet) (c : Cond) : Bool := s.getLsbD (c.priority - 1)

/-- The set with the condition put into it; a condition already there leaves it as it was (R131). -/
def CondSet.put (s : CondSet) (c : Cond) : CondSet := s ||| c.bit

/-- The set with each of the conditions put into it. -/
def CondSet.putAll (s : CondSet) (cs : List Cond) : CondSet := cs.foldl CondSet.put s

/-- The highest-priority member of a set (R136). -/
def CondSet.top (s : CondSet) : Option Cond := Cond.all.find? (fun c => CondSet.has s c)

/-- Raised under an enable set, the condition stops the boom where it stands: it is immediate, and nonmaskable or enabled
(R131). -/
def Cond.stops (enabled : CondSet) (c : Cond) : Bool := !c.isPosted && (!c.maskable || CondSet.has enabled c)

/-- Raised under an enable set, the condition waits for a boundary: it is posted and enabled (R131). -/
def Cond.posts (enabled : CondSet) (c : Cond) : Bool := c.isPosted && CondSet.has enabled c

/-- The cause of an immediate exception among the conditions of one moment: the highest-priority one that stops the boom
(R133). -/
def stoppingCause (enabled : CondSet) (cs : List Cond) : Option Cond :=
  Cond.all.find? (fun c => cs.contains c && c.stops enabled)

/-- The conditions whose place in the accrued set makes a record FLAGGED (R171). -/
def flaggingConds : List Cond :=
  [.mixShort, .torqueTimeout, .poorAnchor, .shortResin, .underTension, .overTension, .movedWhileAway]

/-- A condition set as the four-byte word the link carries (R196). -/
def CondSet.word (s : CondSet) : Nat := s.toNat

end Sys2Proof.Machine
end

