-- ==== Sys2Proof/Machine/Operands.lean ====
section
/-! DEFINITION. The figures the rules are worked on: rounding and saturation (R2), timers (R1), what a reading is worth
(R49, R50), a phase's figures (R23, R111), and the slots, policies and codes a request names. -/

namespace Sys2Proof.Machine

/-! ## Arithmetic (R2) -/

/-- `a / b` rounded to the nearest integer, halves upward. -/
def roundDiv (a b : Nat) : Nat := (2 * a + b) / (2 * b)

/-- The smallest integer at least as large as `a / b`. -/
def ceilDiv (a b : Nat) : Nat := (a + (b - 1)) / b

/-- One more, stopping at 65535. -/
def countUp16 (n : Nat) : Nat := min (n + 1) 65535

/-- The distance between two depths. -/
def distance (a b : Nat) : Nat := (a - b) + (b - a)

/-- A count of ticks meets a time in ms at the first tick at or after it (R1). -/
def ticksReach (ticks ms : Nat) : Bool := decide (ms ≤ 10 * ticks)

/-- A wall-time timer started at `start` meets a time in ms. A timer that has not started meets none. -/
def timerReaches (now : Tick) (start : Option Tick) (ms : Nat) : Bool :=
  match start with
  | none => false
  | some t => ticksReach (ticksSince now t) ms

/-- Ticks from an optional start, 0 when it is absent. -/
def ticksFrom (now : Tick) (start : Option Tick) : Nat :=
  match start with
  | none => 0
  | some t => ticksSince now t

/-- The ticks a wait-list entry has waited, modulo 2³² (R186): 0 for one that a timer event of the tick falling due has placed
or timed, since that tick has not come (log entry 2). -/
def ticksWaited (now : Tick) (e : WaitEntry) : Nat := if e.waitAhead then 0 else ticksSince now e.waitStart

/-- A duration between two optional ticks in ms, 0 when either is absent (R107). -/
def spanMs (start finish : Option Tick) : Nat :=
  match start, finish with
  | some a, some b => 10 * ticksSince b a
  | _, _ => 0

/-! ## Slots -/

/-- A slot's number on the link, 1..4. -/
def slotNum : Slot → Nat
  | .s1 => 1
  | .s2 => 2
  | .s3 => 3
  | .s4 => 4

/-- The slot a boom byte names. -/
def slotOfNum (n : Nat) : Option Slot :=
  match n with
  | 1 => some .s1
  | 2 => some .s2
  | 3 => some .s3
  | 4 => some .s4
  | _ => none

/-- The slot is in FITTED_BOOMS: bit 0 is slot 1 (R19, R196). -/
def Params.fits (ps : Params) (b : Slot) : Bool := ps.fittedBooms.testBit (slotNum b - 1)

/-- A requester's place among equals: slot order, the reserve last (R114); also its code (R200). -/
def Requester.num : Requester → Nat
  | .boom b => slotNum b
  | .reserve => 5

/-! ## Readings -/

/-- The out-of-range policies (R50). -/
inductive Policy where
  | clamp | hold | drop
  deriving DecidableEq, Repr

/-- A policy parameter's value as a policy (R200). -/
def Policy.ofCode (n : Nat) : Policy :=
  match n with
  | 0 => .clamp
  | 1 => .hold
  | _ => .drop

/-- A number above its channel's range cannot be delivered; if it is, it reads as the HIGH flag (log entry 9). -/
def normReading (top : Nat) : Reading → Reading
  | .value n => if n ≤ top then .value n else .high
  | .low => .low
  | .high => .high

/-- The reading is LOW or HIGH. -/
def isOut : Reading → Bool
  | .value _ => false
  | .low => true
  | .high => true

/-- The four readings with numbers above the ranges of R49 read as HIGH. -/
def normReadings (r : Quad Reading) : Quad Reading :=
  { thrust := normReading 60000 r.thrust, torque := normReading 5000 r.torque, speed := normReading 1200 r.speed,
    position := normReading 30000 r.position }

/-- A channel's last good value after a reading (R51). -/
def nextGood (good : Nat) : Reading → Nat
  | .value n => n
  | .low => good
  | .high => good

/-- A channel's value in force, none when dropped (R50). `good` is the last good value. -/
def valueInForce (p : Policy) (top good : Nat) : Reading → Option Nat
  | .value n => some n
  | .low =>
    match p with
    | .clamp => some 0
    | .hold => some good
    | .drop => none
  | .high =>
    match p with
    | .clamp => some top
    | .hold => some good
    | .drop => none

/-- One more for an out-of-range reading, stopping at 65535 (R53). -/
def countOut (n : Nat) (r : Reading) : Nat := if isOut r then countUp16 n else n

/-! ## Phases -/

/-- The phase's number in cycle order, 1..10, which is its code (R23, R200). -/
def Phase.num : Phase → Nat
  | .collaring => 1
  | .drilling => 2
  | .retractDrill => 3
  | .resinLoad => 4
  | .boltLoad => 5
  | .inserting => 6
  | .mixing => 7
  | .holding => 8
  | .torquing => 9
  | .releasing => 10

/-- The next phase in the table; RELEASING has none (R26). -/
def Phase.next : Phase → Option Phase
  | .collaring => some .drilling
  | .drilling => some .retractDrill
  | .retractDrill => some .resinLoad
  | .resinLoad => some .boltLoad
  | .boltLoad => some .inserting
  | .inserting => some .mixing
  | .mixing => some .holding
  | .holding => some .torquing
  | .torquing => some .releasing
  | .releasing => none

/-- The class of the phase's flow requests (R23). -/
def Phase.flowClass : Phase → FlowClass
  | .mixing => .curing
  | .holding => .curing
  | .torquing => .curing
  | _ => .normal

/-- The phase's demand parameter (R111). -/
def Params.demand (ps : Params) : Phase → Nat
  | .collaring => ps.demandCollaring
  | .drilling => ps.demandDrilling
  | .retractDrill => ps.demandRetractDrill
  | .resinLoad => ps.demandResinLoad
  | .boltLoad => ps.demandBoltLoad
  | .inserting => ps.demandInserting
  | .mixing => ps.demandMixing
  | .holding => ps.demandHolding
  | .torquing => ps.demandTorquing
  | .releasing => ps.demandReleasing

/-- The demand limited to the pump capacity in force (R111). -/
def Params.effective (ps : Params) (demand : Nat) : Nat := min demand ps.pumpCapacity

/-- COLLARING or DRILLING, the phases that feed the profile (R66). -/
def Phase.drills : Phase → Bool
  | .collaring => true
  | .drilling => true
  | _ => false

/-- The phases in which the thrust ceiling is tested (R55). -/
def Phase.testsThrust : Phase → Bool
  | .collaring => true
  | .drilling => true
  | .inserting => true
  | .mixing => true
  | _ => false

/-- The phases the stall window watches (R37). -/
def Phase.stalls : Phase → Bool
  | .collaring => true
  | .drilling => true
  | .inserting => true
  | _ => false

/-- BOLT_LOAD to TORQUING, the phases whose chuck holds or receives a bolt (R164, R166). -/
def Phase.holdsBolt : Phase → Bool
  | .boltLoad => true
  | .inserting => true
  | .mixing => true
  | .holding => true
  | .torquing => true
  | _ => false

/-- INSERTING to TORQUING, the phases in which an exception keeps the HOLDING demand (R134). -/
def Phase.keepsFlow : Phase → Bool
  | .inserting => true
  | .mixing => true
  | .holding => true
  | .torquing => true
  | _ => false

/-- HOLDING or TORQUING, the phases with RE_ENGAGE (R32). -/
def Phase.reEngages : Phase → Bool
  | .holding => true
  | .torquing => true
  | _ => false

/-- The phase table gives the chuck command CLOSED while the phase is ACTIVE (R23). -/
def Phase.closesChuck : Phase → Bool
  | .resinLoad => false
  | .boltLoad => false
  | .releasing => false
  | _ => true

/-- The phase's feed while ACTIVE (R23); RELEASING's first ACTIVE sample is the sequencer's own. -/
def phaseFeed (ps : Params) (r : Recipe) : Phase → Int
  | .collaring => r.collarFeed
  | .drilling => r.drillFeed
  | .retractDrill => -(ps.retractFeed : Int)
  | .resinLoad => 0
  | .boltLoad => 0
  | .inserting => r.insertFeed
  | .mixing => r.mixFeed
  | .holding => ps.holdFeed
  | .torquing => ps.holdFeed
  | .releasing => 0

/-- The phase's rotation while ACTIVE (R23). -/
def phaseRotation (r : Recipe) : Phase → Int
  | .collaring => r.collarRotation
  | .drilling => r.drillRotation
  | .mixing => r.mixRotation
  | .torquing => r.torqueRotation
  | _ => 0

/-! ## Codes of requests -/

/-- The mode a code names (R200). -/
def Mode.ofCode (n : Nat) : Option Mode :=
  match n with
  | 0 => some .config
  | 1 => some .run
  | 2 => some .observe
  | _ => none

/-- The RESOLVE action a code names (R200). -/
def Action.ofCode (n : Nat) : Option Action :=
  match n with
  | 0 => some .resume
  | 1 => some .retry
  | 2 => some .setCartridges
  | 3 => some .abandon
  | _ => none

/-- The reply statuses (R191). -/
inductive Status where
  | ok | clamped | waiting | already | unknownKind | badArg | refusedMode | refusedState | full | empty | duplicate | inUse
  | notFound | causePresent | tooLate | pendingMode
  deriving DecidableEq, Repr

/-- A status's code (R191). -/
def Status.code : Status → Nat
  | .ok => 0
  | .clamped => 1
  | .waiting => 2
  | .already => 3
  | .unknownKind => 8
  | .badArg => 9
  | .refusedMode => 10
  | .refusedState => 11
  | .full => 12
  | .empty => 13
  | .duplicate => 14
  | .inUse => 15
  | .notFound => 16
  | .causePresent => 17
  | .tooLate => 18
  | .pendingMode => 19

/-- What a block answers to a request: a status, and the figures its rule names (R190). -/
structure Reply where
  status : Status
  figures : List Byte
  deriving DecidableEq, Repr

/-- A reply that carries its status alone. -/
def Reply.plain (st : Status) : Reply := { status := st, figures := [] }

end Sys2Proof.Machine
end

