-- ==== Sys2Proof/Machine/Ops.lean ====
section
/-! DEFINITION. The named operations on the part's state that every block shares: a boom and its active context, its
valve outputs, the report slots, and the raising of conditions. -/

namespace Sys2Proof.Machine

/-! ## A boom -/

/-- The boom of a slot. -/
def State.boom (s : State) (b : Slot) : Boom := s.booms.get b

/-- The state with slot `b` holding `x`. -/
def State.setBoom (s : State) (b : Slot) (x : Boom) : State := { s with booms := s.booms.set b x }

/-- The slot is fitted (R19). -/
def State.fits (s : State) (b : Slot) : Bool := s.params.fits b

/-- Drive-enable was present at the last tick that read it (R57). Before the first tick it is taken as absent (log
entry 5). -/
def State.driveOn (s : State) : Bool :=
  match s.drive with
  | some true => true
  | _ => false

/-- The drive-enable input is present at the line (R57). Until a command has told it, it is taken as absent (log entry 5). -/
def State.lineDrive (s : State) : Bool :=
  match s.driveLine with
  | some true => true
  | _ => false

/-- The retract line was asserted at the last tick that read it (R160). -/
def State.lineOn (s : State) : Bool :=
  match s.retractLine with
  | some true => true
  | _ => false

/-- The in-service level (R152). -/
def Boom.level (x : Boom) : Nat :=
  match x.retract, x.manual with
  | some _, _ => 2
  | none, some _ => 1
  | none, none => 0

/-- The boom's depth: the POSITION value in force, which is always the last good one (R52), minus P0, and 0 when that is
negative (R22). -/
def Boom.depth (x : Boom) : Nat := x.lastGood.position - x.p0

/-- The boom's depth at the latest sample. -/
def State.depth (s : State) (b : Slot) : Nat := (s.boom b).depth

/-- The active context is CYCLE: its sub-state and its hole. -/
def Boom.running (x : Boom) : Option (CycleSub × Hole) :=
  match x.level, x.auto with
  | 0, .cycle sub h => some (sub, h)
  | _, _ => none

/-- The hole of a level-0 context that is CYCLE, EXCEPTION or ABANDONING. -/
def Auto.hole : Auto → Option Hole
  | .cycle _ h => some h
  | .exception _ h => some h
  | .abandoning _ h => some h
  | _ => none

/-- The level-0 context with its hole replaced; a context without a hole stays as it is. -/
def Auto.withHole (a : Auto) (h : Hole) : Auto :=
  match a with
  | .cycle sub _ => .cycle sub h
  | .exception f _ => .exception f h
  | .abandoning sub _ => .abandoning sub h
  | .idle => .idle
  | .logWait r => .logWait r
  | .observing p => .observing p

/-- The hole id the level-0 context holds (R13). -/
def Auto.holeId : Auto → Option Nat
  | .idle => none
  | .cycle _ h => some h.plan.holeId
  | .exception _ h => some h.plan.holeId
  | .abandoning _ h => some h.plan.holeId
  | .logWait r => some r.holeId
  | .observing p => some p.holeId

/-- The boom's hole has not yet had its record assembled, so its out-of-range counts run (R53). -/
def Auto.counts : Auto → Bool
  | .cycle _ _ => true
  | .exception _ _ => true
  | .abandoning _ _ => true
  | .observing _ => true
  | .idle => false
  | .logWait _ => false

/-- The value shown outside the part for a channel: the value in force, or the last good value of a dropped channel
(R49). Before the first tick after a reset there is neither, and the last good value, 0, is shown (log entry 21). -/
def shownValue (inForce : Option Nat) (good : Nat) : Nat := inForce.getD good

/-! ## What BOOM_STATUS shows -/

/-- The state, phase, sub-state and level that BOOM_STATUS shows, as codes (R192, R200). -/
structure View where
  state : Nat
  phase : Nat
  sub : Nat
  level : Nat
  deriving DecidableEq, Repr

/-- CYCLE sub-state codes (R200). -/
def CycleSub.code : CycleSub → Nat
  | .waitFlow => 1
  | .active => 2
  | .backedOff => 3
  | .reEngage => 4

/-- ABANDONING sub-state codes (R200). -/
def AbandonSub.code : AbandonSub → Nat
  | .waitFlow => 1
  | .active => 2
  | .driveHeld => 5

/-- SAFE_RETRACT sub-state codes (R200). -/
def RetractSub.code : RetractSub → Nat
  | .waitFlow => 1
  | .active => 2
  | .driveHeld => 5
  | .retracted => 6

/-- MANUAL sub-state codes (R200). -/
def ManualSub.code : ManualSub → Nat
  | .waitFlow => 1
  | .ready => 7

/-- What a level-0 context shows while it is active (R20, R192). DEDUCED: LOG_WAIT and OBSERVING show phase none, since R20
gives a phase to CYCLE, EXCEPTION and ABANDONING alone (log entry 17). -/
def Auto.view : Auto → View
  | .idle => { state := 0, phase := 0, sub := 0, level := 0 }
  | .cycle sub h => { state := 1, phase := h.phase.num, sub := sub.code, level := 0 }
  | .exception _ h => { state := 2, phase := h.phase.num, sub := 0, level := 0 }
  | .abandoning sub h => { state := 3, phase := h.phase.num, sub := sub.code, level := 0 }
  | .logWait _ => { state := 4, phase := 0, sub := 0, level := 0 }
  | .observing _ => { state := 5, phase := 0, sub := 0, level := 0 }

/-- What the boom shows: the active context's, and phase none for a MANUAL or SAFE_RETRACT context (R192). -/
def Boom.view (x : Boom) : View :=
  match x.retract, x.manual with
  | some r, _ => { state := 7, phase := 0, sub := r.sub.code, level := 2 }
  | none, some m => { state := 6, phase := 0, sub := m.sub.code, level := 1 }
  | none, none => x.auto.view

/-- The retract-overdue flag shown: the active context's (R192). -/
def Boom.overdueShown (x : Boom) : Bool :=
  match x.retract, x.manual, x.auto with
  | some r, _, _ => r.overdue
  | none, none, .abandoning _ h => h.overdue
  | _, _, _ => false

/-! ## Report slots (R192) -/

/-- The boom's BOOM_STATUS slot is queued; an unfitted slot is never queued. -/
def State.queueStatus (s : State) (b : Slot) : State :=
  if s.fits b then { s with link := { s.link with boomStatus := s.link.boomStatus.set b true } } else s

/-- The boom's EXCEPTION slot is queued with a frame, which replaces an older one (R139). -/
def State.queueException (s : State) (b : Slot) (f : ExFrame) : State :=
  if s.fits b then { s with link := { s.link with exceptionReport := s.link.exceptionReport.set b (some f) } } else s

/-- The FLOW_GRANTED slot is queued (R125). -/
def State.queueFlowGranted (s : State) : State := { s with link := { s.link with flowGranted := true } }

/-- The RECORD_READY slot is queued (R172). -/
def State.queueRecordReady (s : State) : State := { s with link := { s.link with recordReady := true } }

/-- The MODE slot is queued for a mode change: a reset cause still unsent is kept (R179). -/
def State.queueModeChange (s : State) : State :=
  { s with
    link :=
      { s.link with
        modeReport :=
          match s.link.modeReport with
          | some .power => some .power
          | some .restart => some .restart
          | _ => some .change } }

/-- Slot `b` holds `x` from now on, and its BOOM_STATUS is queued when its state, phase, sub-state or level has changed
(R20, R192). -/
def State.changeBoom (s : State) (b : Slot) (x : Boom) : State :=
  if x.view = (s.boom b).view then s.setBoom b x else (s.setBoom b x).queueStatus b

/-! ## Outputs -/

/-- A boom's four valve outputs (R56). -/
structure Outputs where
  feed : Int
  rotation : Int
  chuck : Chuck
  loader : Option LoaderCmd
  deriving DecidableEq, Repr

/-- The outputs at rest (R56). -/
def Outputs.rest : Outputs := { feed := 0, rotation := 0, chuck := .none, loader := none }

/-- What a slot's outputs show: the values the active context asks for; at rest in CONFIG and for an unfitted slot (R56),
and zero while the drive-enable input is absent at the line, read or not (R57). -/
def State.outputs (s : State) (b : Slot) : Outputs :=
  if s.mode = .config ∨ s.fits b = false ∨ s.lineDrive = false then Outputs.rest
  else
    { feed := (s.boom b).feed, rotation := (s.boom b).rotation, chuck := (s.boom b).chuck,
      loader := (s.boom b).loaderOut }

/-- The boom with feed, rotation and loader at rest; the chuck stays as it was. -/
def Boom.still (x : Boom) : Boom := { x with feed := 0, rotation := 0, loaderOut := none }

/-- The boom with its loader handshake cancelled (R62). -/
def Boom.cancelLoader (x : Boom) : Boom := { x with handshake := .none }

/-- The boom remembers the command its CHUCK output shows (R164). -/
def State.noteChuck (s : State) (b : Slot) : State :=
  match (s.outputs b).chuck with
  | .none => s
  | c => s.setBoom b { s.boom b with chuckShown := c }

/-- `f` for every slot, lowest first. -/
def forSlots (f : Slot → State → State) (s : State) : State := f .s4 (f .s3 (f .s2 (f .s1 s)))

/-- `f` for every fitted slot, lowest first. -/
def forFitted (f : Slot → State → State) (s : State) : State :=
  forSlots (fun b t => if t.fits b then f b t else t) s

/-! ## Conditions -/

/-- Conditions raised for a boom in CYCLE: each goes into the current and accrued sets, and an enabled posted one into the
posted set (R131). -/
def Boom.raise (x : Boom) (cs : List Cond) : Boom :=
  { x with
    current := CondSet.putAll x.current cs
    accrued := CondSet.putAll x.accrued cs
    posted := CondSet.putAll x.posted (cs.filter (Cond.posts x.enabled)) }

/-- Conditions raised for the boom of a slot. -/
def State.raise (s : State) (b : Slot) (cs : List Cond) : State := s.setBoom b ((s.boom b).raise cs)

/-- The cause among conditions of one moment that stops the boom of a slot (R133). -/
def State.stopCause (s : State) (b : Slot) (cs : List Cond) : Option Cond := stoppingCause (s.boom b).enabled cs

/-! ## The tick an event belongs to -/

/-- The entry stood in this wait list: an entry is known by its requester and its join tick. -/
def WaitEntry.stoodIn (e : WaitEntry) (old : List WaitEntry) : Bool :=
  old.any (fun o => decide (o.requester = e.requester) && decide (o.join = e.join))

/-- An entry after an event of the tick falling due, marked as ahead of it when that event has placed it (log entry 2). -/
def WaitEntry.markAhead (old : List WaitEntry) (e : WaitEntry) : WaitEntry :=
  if e.stoodIn old then e else { e with joinAhead := true, waitAhead := true }

/-- The wait list after an event of the tick falling due (log entry 2). -/
def Arbiter.markAhead (old : List WaitEntry) (a : Arbiter) : Arbiter :=
  { a with waitList := a.waitList.map (WaitEntry.markAhead old) }

/-- The tick an entry was ahead of has come: no entry is ahead any longer (log entry 2). -/
def Arbiter.tickComes (a : Arbiter) : Arbiter :=
  { a with waitList := a.waitList.map (fun e => { e with joinAhead := false, waitAhead := false }) }

/-- An event commanded on its own belongs to the tick now falling due: `f` runs with the run clock at that tick, the entries it
places are marked as ahead, and the clock is then as it was, since the tick itself has not come (log entry 2). -/
def atDueTick (f : State → State) (s : State) : State :=
  let t := f { s with clock := s.clock + 1 }
  { t with clock := s.clock, arbiter := t.arbiter.markAhead s.arbiter.waitList }

end Sys2Proof.Machine
end

