-- ==== Sys2Proof/Machine/Arbiter.lean ====
section
/-! DEFINITION. The Flow Arbiter's grants and its two lists (06_hydraulic_flow_arbitration.md): what a reduction, a
top-up, a withdrawal, a grant and a backoff do to them, without the evaluation that follows. -/

namespace Sys2Proof.Machine

/-- A requester's grant (R109). -/
def Arbiter.grantOf (a : Arbiter) : Requester → Nat
  | .boom b => a.grants.get b
  | .reserve => a.reserve

/-- The arbiter with a requester's grant replaced. -/
def Arbiter.setGrant (a : Arbiter) (r : Requester) (n : Nat) : Arbiter :=
  match r with
  | .boom b => { a with grants := a.grants.set b n }
  | .reserve => { a with reserve := n }

/-- The sum of the five grants (R109). -/
def Arbiter.total (a : Arbiter) : Nat := a.grants.b1 + a.grants.b2 + a.grants.b3 + a.grants.b4 + a.reserve

/-- The requester's wait-list entry, if it has one (R113). -/
def Arbiter.entryOf (a : Arbiter) (r : Requester) : Option WaitEntry := a.waitList.find? (fun e => e.requester = r)

/-- The demand of the requester's entry, 0 for none. -/
def Arbiter.entryDemand (a : Arbiter) (r : Requester) : Nat :=
  match a.entryOf r with
  | some e => e.demand
  | none => 0

/-- A withdrawal: the requester's entry leaves the wait list (R117). -/
def Arbiter.withdraw (a : Arbiter) (r : Requester) : Arbiter :=
  { a with waitList := a.waitList.filter (fun e => e.requester ≠ r) }

/-- A reduction: the grant becomes `n`, or stays when it is already at or below `n`; the entry is withdrawn; a grant of 0
leaves the grant list (R115). -/
def Arbiter.reduce (a : Arbiter) (r : Requester) (n : Nat) : Arbiter :=
  let g := min n (a.grantOf r)
  let a' := (a.setGrant r g).withdraw r
  if g = 0 then { a' with grantList := a'.grantList.filter (fun q => q ≠ r) } else a'

/-- A class's rank in the wait list (R114). -/
def FlowClass.rank : FlowClass → Nat
  | .urgent => 0
  | .curing => 1
  | .normal => 2


/-- A new entry, joining now, goes behind entry `e` (R114), which joined at this tick or an earlier one, or at the tick falling
due, when a timer event of that tick has placed it (log entry 2). Marked entries stand in the order they were backed off, also
when that was at one tick (log entry 23). -/
def goesBehind (new e : WaitEntry) : Bool :=
  if e.cls.rank ≠ new.cls.rank then decide (e.cls.rank < new.cls.rank)
  else
    match e.backedOff, new.backedOff with
    | true, _ => true
    | false, true => false
    | false, false =>
      if e.join = new.join then decide (e.requester.num ≤ new.requester.num) else !e.joinAhead

/-- The wait list with a new entry behind every entry that ranks before or equal to it (R114). -/
def placeEntry (new : WaitEntry) : List WaitEntry → List WaitEntry
  | [] => [new]
  | e :: es => if goesBehind new e then e :: placeEntry new es else new :: e :: es

/-- The entry of a top-up made at a tick (R116). -/
def newEntry (now : Tick) (r : Requester) (cls : FlowClass) (demand : Nat) : WaitEntry :=
  { requester := r, cls := cls, demand := demand, join := now, waitStart := now, backedOff := false }

/-- A top-up: the grant is kept, and the entry placed, or its demand replaced when the requester already has one of the
same class (R116). -/
def Arbiter.topUp (a : Arbiter) (now : Tick) (r : Requester) (cls : FlowClass) (demand : Nat) : Arbiter :=
  match a.entryOf r with
  | none => { a with waitList := placeEntry (newEntry now r cls demand) a.waitList }
  | some e =>
    if e.cls = cls then
      { a with waitList := a.waitList.map (fun w => if w.requester = r then { w with demand := demand } else w) }
    else
      let a' := a.withdraw r
      { a' with waitList := placeEntry (newEntry now r cls demand) a'.waitList }

/-- An entry is granted: the grant becomes its demand, it leaves the wait list, and the requester goes to the tail of the
grant list (R112, R119). -/
def Arbiter.award (a : Arbiter) (e : WaitEntry) : Arbiter :=
  let a' := (a.setGrant e.requester e.demand).withdraw e.requester
  { a' with grantList := a'.grantList.filter (fun q => q ≠ e.requester) ++ [e.requester] }

/-- A boom's flow is taken: its grant becomes 0, it leaves the grant list, and a marked NORMAL entry for the grant it held
is placed (R121, steps 1 to 3). -/
def Arbiter.takeBack (a : Arbiter) (now : Tick) (b : Slot) : Arbiter :=
  let e : WaitEntry :=
    { requester := .boom b, cls := .normal, demand := a.grants.get b, join := now, waitStart := now, backedOff := true }
  { a with
    grants := a.grants.set b 0
    grantList := a.grantList.filter (fun q => q ≠ .boom b)
    waitList := placeEntry e a.waitList }

/-- The free flow: the capacity in force minus the sum of the five grants (R109). -/
def State.free (s : State) : Nat := s.params.pumpCapacity - s.arbiter.total

/-- A boom's grant. -/
def State.grant (s : State) (b : Slot) : Nat := s.arbiter.grants.get b

/-- A raw reduction of a boom's grant; the evaluation that R118 asks for is made by the act it belongs to. -/
def State.reduceBoom (s : State) (b : Slot) (n : Nat) : State := { s with arbiter := s.arbiter.reduce (.boom b) n }

/-- A raw top-up for a boom. -/
def State.topUpBoom (s : State) (b : Slot) (cls : FlowClass) (n : Nat) : State :=
  { s with arbiter := s.arbiter.topUp s.clock (.boom b) cls n }

end Sys2Proof.Machine
end

