-- ==== Sys2Proof/Machine/Motion.lean ====
section
/-! DEFINITION. Starting and stopping motion: the entry to an exception (R134, R136), the motion-start check (R28), what a
grant tells its requester (R119), backoff (R30, R121), and the arbiter's evaluation (R118). -/

namespace Sys2Proof.Machine

/-! ## Entering an exception -/

/-- The grant an exception leaves, decided by the phase interrupted or just ended (R134 step 4, R136). -/
def State.stopTarget (s : State) (p : Phase) : Nat := if p.keepsFlow then s.params.effective s.params.demandHolding else 0

/-- The frame of an exception as the boom stands (R137). -/
def State.makeFrame (s : State) (b : Slot) (h : Hole) (kind : FrameKind) (cause : Cond) (operand : Nat)
    (raisedIn phase : Phase) : ExFrame :=
  let x := s.boom b
  { slot := b, holeId := h.plan.holeId, kind := kind, cause := cause, current := x.current, posted := x.posted,
    raisedIn := raisedIn, phase := phase, depth := x.depth,
    thrust := shownValue x.inForce.thrust x.lastGood.thrust, torque := shownValue x.inForce.torque x.lastGood.torque,
    speed := shownValue x.inForce.speed x.lastGood.speed, lastSE := x.profile.lastSE, refSE := x.profile.refSE,
    time := s.clock, operand := operand }

/-- The boom enters EXCEPTION with the fixed response of R134: outputs to 0, loader command cancelled, wait-list entry
withdrawn, grant reduced, frame made, exception count up, both reports queued whatever the boom showed before (R139); the
torque run is emptied (R100). The conditions have been put into their sets before. The arbiter's evaluation follows at the
end of the act (log entry 6). -/
def State.stopBoom (s : State) (b : Slot) (h : Hole) (kind : FrameKind) (cause : Cond) (operand : Nat)
    (raisedIn phase : Phase) : State :=
  let f := s.makeFrame b h kind cause operand raisedIn phase
  let h' := { h with phase := phase, exceptions := countUp16 h.exceptions, torqueRun := [] }
  let s1 := s.changeBoom b { (s.boom b).still.cancelLoader with auto := .exception f h' }
  ((s1.reduceBoom b (s.stopTarget raisedIn)).queueException b f).queueStatus b

/-- An immediate exception: an IN_PHASE frame naming the phase (R134). -/
def State.stopInPhase (s : State) (b : Slot) (h : Hole) (cause : Cond) (operand : Nat) : State :=
  s.stopBoom b h .inPhase cause operand h.phase h.phase

/-! ## Moving off -/

/-- HOLDING or TORQUING with the chuck-released or the moved flag set goes through RE_ENGAGE (R32). -/
def Hole.viaReEngage (h : Hole) : Bool := h.phase.reEngages && (h.chuckReleased || h.moved)

/-- The hole as its phase becomes ACTIVE at a depth: the stall mark is set, the motion timers start from zero (R37, R38),
the torque run is empty (R100), and the moved flag is cleared outside HOLDING and TORQUING (R33). DEDUCED: that the flag is
cleared on becoming ACTIVE and not at the first ACTIVE sample, which R166 says, and at a phase's entry as at a resume, is log
entry 24. -/
def Hole.startMotion (h : Hole) (depth : Nat) : Hole :=
  { h with stallMark := depth, stallTicks := 0, retractTicks := 0, releaseFeeding := false, torqueRun := [],
           moved := h.phase.reEngages && h.moved }

/-- The chuck command as a phase becomes ACTIVE or goes through RE_ENGAGE: CLOSED where the phase table gives it (R23, R164),
OPEN again in a RELEASING that has given it before, whatever an intervention left (R31); else as it was. DEDUCED: that
RE_ENGAGE and a resumed RELEASING have the chuck commanded on becoming so, as R164 says of COLLARING, DRILLING and
RETRACT_DRILL, and not from the next sample as R29 says of outputs, is log entry 16. -/
def Hole.startChuck (h : Hole) (chuck : Chuck) : Chuck :=
  if h.phase.closesChuck then .closed
  else if h.phase = .releasing ∧ h.releaseOpened = true then .opened
  else chuck

/-- A CYCLE context becomes ACTIVE, or RE_ENGAGE when R32 calls for it. `now` says that feed and rotation are driven at once
(an entry or resume whose grant covers the demand); after a grant they stay 0 until the next sample (R29). DEDUCED: the chuck
command is given in the act in both cases, a grant's too, and a covered entry drives its outputs in the act; both are log entry
16. -/
def State.moveOff (s : State) (b : Slot) (h : Hole) (now : Bool) : State :=
  let x := s.boom b
  if h.viaReEngage then
    let f : Int := if now then (h.plan.recipe.insertFeed : Int) else 0
    s.changeBoom b
      { x with auto := .cycle .reEngage { h with torqueRun := [] }, chuck := .closed, feed := f, rotation := 0 }
  else
    let f : Int := if now then phaseFeed s.params h.plan.recipe h.phase else 0
    let r : Int := if now then phaseRotation h.plan.recipe h.phase else 0
    s.changeBoom b
      { x with auto := .cycle .active (h.startMotion x.depth), feed := f, rotation := r,
               chuck := h.startChuck x.chuck }

/-- What the motion-start check finds: drive-enable absent, the link silent (R28). -/
def State.startFaults (s : State) : List Cond :=
  (if s.driveOn then [] else [Cond.driveLost]) ++ (if s.link.silent then [Cond.linkSilent] else [])

/-- The motion-start check, made before a CYCLE context becomes ACTIVE, and the start or the exception that follows
(R28). -/
def State.startCycle (s : State) (b : Slot) (h : Hole) (now : Bool) : State :=
  match s.stopCause b s.startFaults with
  | some c => (s.raise b s.startFaults).stopInPhase b h c 0
  | none => s.moveOff b h now

/-- An abandon retract that may move: ACTIVE with its retract timer from zero, or DRIVE_HELD without drive-enable (R47). -/
def State.moveAbandon (s : State) (b : Slot) (h : Hole) : State :=
  let x := s.boom b
  if s.driveOn then
    s.changeBoom b
      { x with auto := .abandoning .active { h with retractTicks := 0 }, feed := -(s.params.retractFeed : Int),
               rotation := 0 }
  else s.changeBoom b { x with auto := .abandoning .driveHeld h, feed := 0, rotation := 0 }

/-- A safety retract that may move: ACTIVE with its timer from zero, or DRIVE_HELD without drive-enable (R161). -/
def State.moveRetract (s : State) (b : Slot) (r : RetractCtx) : State :=
  let x := s.boom b
  if s.driveOn then
    s.changeBoom b
      { x with retract := some { r with sub := .active, ticks := 0 }, feed := -(s.params.retractFeed : Int), rotation := 0 }
  else s.changeBoom b { x with retract := some { r with sub := .driveHeld }, feed := 0, rotation := 0 }

/-- The requester of a granted entry is told (R119). `inReserve` says that the evaluation is the one made in taking a
RESERVE_FLOW, whose reply shows the grant itself (R125). -/
def State.tell (s : State) (inReserve : Bool) (r : Requester) : State :=
  match r with
  | .reserve => if inReserve then s else s.queueFlowGranted
  | .boom b =>
    match (s.boom b).retract, (s.boom b).manual, (s.boom b).auto with
    | some c, _, _ =>
      match c.sub with
      | .waitFlow => s.moveRetract b c
      | _ => s
    | none, some m, _ => s.changeBoom b { s.boom b with manual := some { m with sub := .ready } }
    | none, none, .cycle .waitFlow h => s.startCycle b h false
    | none, none, .cycle .backedOff h => s.startCycle b h false
    | none, none, .abandoning .waitFlow h => s.moveAbandon b h
    | none, none, _ => s

/-- The head of the wait list is granted (R119). -/
def State.awardEntry (s : State) (inReserve : Bool) (e : WaitEntry) : State :=
  ({ s with arbiter := s.arbiter.award e }).tell inReserve e.requester

/-! ## Backoff -/

/-- An eligible holder: the active context is CYCLE, ACTIVE, in a NORMAL-class phase (R120). -/
def State.backable (s : State) (b : Slot) : Bool :=
  match (s.boom b).running with
  | some (.active, h) => decide (h.phase.flowClass = .normal)
  | _ => false

/-- Backing off a boom (R30, R121). -/
def State.backOff (s : State) (b : Slot) : State :=
  let x := s.boom b
  match x.auto with
  | .cycle _ h =>
    ({ s with arbiter := s.arbiter.takeBack s.clock b }).changeBoom b
      { x.still.cancelLoader with auto := .cycle .backedOff h }
  | _ => s

/-- The sum of the grants of all eligible holders (R120). -/
def State.backableFlow (s : State) : Nat :=
  (Slot.all.map (fun b => if s.backable b then s.grant b else 0)).sum

/-- The walk of the grant list, given newest first: eligible holders are backed off until the free flow covers the need
(R120). -/
def State.backOffUntil (need : Nat) : List Requester → State → State
  | [], s => s
  | r :: rs, s =>
    if need ≤ s.free then s
    else
      match r with
      | .boom b => if s.backable b then State.backOffUntil need rs (s.backOff b) else State.backOffUntil need rs s
      | .reserve => State.backOffUntil need rs s

/-! ## Evaluation -/

/-- The evaluation of the wait list (R118). A head whose need fits is granted; an URGENT head that does not fit makes the
backoff test, and when the test passes the victims are backed off and the head looked at again. `fuel` bounds the number of
looks. -/
def State.evaluateWith (inReserve : Bool) : Nat → State → State
  | 0, s => s
  | fuel + 1, s =>
    match s.arbiter.waitList with
    | [] => s
    | e :: _ =>
      let need := e.demand - s.arbiter.grantOf e.requester
      if need ≤ s.free then State.evaluateWith inReserve fuel (s.awardEntry inReserve e)
      else if e.cls = .urgent ∧ need ≤ s.free + s.backableFlow then
        State.evaluateWith inReserve fuel (State.backOffUntil need s.arbiter.grantList.reverse s)
      else s

/-- Looks an evaluation can need: each URGENT entry is looked at twice and can bring at most four backed-off entries, each
other entry is looked at once, and the last look ends it. -/
def State.evaluationFuel (s : State) : Nat := 8 * s.arbiter.waitList.length + 1

/-- The evaluation that follows a request to the arbiter (R118). -/
def State.evaluate (s : State) : State := State.evaluateWith false s.evaluationFuel s

/-- The evaluation made in taking a RESERVE_FLOW (R125). -/
def State.evaluateInReserve (s : State) : State := State.evaluateWith true s.evaluationFuel s

/-- A withdrawal of a boom's entry and the evaluation after it; without an entry it has no effect (R117). -/
def State.withdrawBoom (s : State) (b : Slot) : State :=
  match s.arbiter.entryOf (.boom b) with
  | none => s
  | some _ => ({ s with arbiter := s.arbiter.withdraw (.boom b) }).evaluate

end Sys2Proof.Machine
end

