-- ==== Sys2Proof/Machine/Resin.lean ====
section
/-! DEFINITION. The resin and tension arithmetic of a hole (05_resin_mixing_and_tension.md). -/

namespace Sys2Proof.Machine

/-- The base cartridge count of a recipe (R89). -/
def baseCount (r : Recipe) : Nat :=
  ceilDiv ((r.bitDiameter ^ 2 - r.boltDiameter ^ 2) * r.encapsulation * (100 + r.waste))
    (r.cartDiameter ^ 2 * r.cartLength * 100)

/-- The computed count: one more for FAIR, and for POOR when POOR_ANCHOR is masked (R90, steps 1 to 3). -/
def computedCount (r : Recipe) (g : Grade) (poorMasked : Bool) : Nat :=
  match g with
  | .good => baseCount r
  | .fair => baseCount r + 1
  | .poor => if poorMasked then baseCount r + 1 else baseCount r

/-- The tension worked out from a final torque (R103). -/
def tensionOf (r : Recipe) (final : Nat) : Nat := roundDiv (final * 1000) (r.nutFactor * r.boltDiameter)

/-- What the tension check raises (R104). -/
def tensionConds (r : Recipe) (t : Nat) : List Cond :=
  if t < r.tensionMin then [.underTension] else if r.tensionMax < t then [.overTension] else []

/-- The mix revolutions are met (R93). -/
def mixMet (r : Recipe) (sum : Nat) : Bool := decide (6000 * r.mixRevs ≤ sum)

/-- The depth at which a bolt is seated (R94, R32). -/
def Hole.seatDepth (h : Hole) (ps : Params) : Nat := h.drilled.getD 0 - 10 * ps.seatTolerance

/-- MIXING's completion test at a depth (R94). -/
def Hole.mixDone (h : Hole) (ps : Params) (depth : Nat) : Bool :=
  mixMet h.plan.recipe h.mixSum && decide (h.seatDepth ps ≤ depth)

/-- The torque run after an ACTIVE TORQUING sample (R100). -/
def nextRun (target : Nat) (run : List Nat) (torque : Option Nat) : List Nat :=
  match torque with
  | none => []
  | some t => if target ≤ t then run ++ [t] else []

/-- The peak torque after an ACTIVE TORQUING sample (R101). -/
def nextPeak (peak : Nat) (torque : Option Nat) : Nat := max peak (torque.getD 0)

/-- The final torque of a full run: the smallest of its values (R100); none while it holds fewer than three. -/
def runFinal (run : List Nat) : Option Nat :=
  match run with
  | a :: b :: c :: _ => some (min a (min b c))
  | _ => none

/-- The resin age in ticks at a tick (R96). -/
def Hole.resinAge (h : Hole) (now : Tick) : Nat := ticksFrom now h.resinStart

/-- The resin age has reached the gel limit (R96). -/
def Hole.gelPassed (h : Hole) (now : Tick) : Bool :=
  h.gelReached || timerReaches now h.resinStart h.plan.recipe.gelLimit

/-- The hold timer has reached the gel hold (R40). -/
def Hole.holdElapsed (h : Hole) (now : Tick) : Bool := timerReaches now h.mixEnd h.plan.recipe.gelHold

/-- The wall-time timers that the first ACTIVE sample of MIXING and of TORQUING starts (R39, R41). -/
def Hole.startTimers (h : Hole) (now : Tick) : Hole :=
  match h.phase with
  | .mixing =>
    { h with mixStart := some (h.mixStart.getD now), resinStart := some (h.resinStart.getD now) }
  | .torquing => { h with torqueStart := some (h.torqueStart.getD now) }
  | _ => h

/-- The resin section of a record (R107), times in ms. -/
def Hole.resinSection (h : Hole) : ResinSection :=
  { planned := h.planned.getD 0, loaded := h.loaded, mixRevs := h.mixSum / 600, mixTime := spanMs h.mixStart h.mixEnd,
    holdTime := spanMs h.mixEnd h.holdEnd, ageAtTorque := 10 * h.resinAgeAtTorque.getD 0 }

/-- The tension section of a record (R107). -/
def Hole.tensionSection (h : Hole) : TensionSection :=
  { peak := h.peak, final := h.finalTorque.getD 0, tension := h.tension.getD 0, retorques := h.retorques }

/-- A hole's figures as GO starts them (R36, R88). -/
def Hole.start (p : Plan) : Hole :=
  { plan := p, phase := .collaring, drilled := none, chuckReleased := false, moved := false, stallMark := 0, stallTicks := 0,
    retractTicks := 0, releaseOpened := false, releaseFeeding := false, indexDone := false, mixStart := none,
    resinStart := none, torqueStart := none, mixEnd := none, holdEnd := none, resinAgeAtTorque := none,
    gelReached := false, mixSum := 0, torqueRun := [], peak := 0, finalTorque := none, tension := none, computed := none,
    planned := none, loaded := 0, retorques := 0, exceptions := 0, resolveCount := 0, resolves := [], takeovers := 0,
    retracts := 0, movedDistance := 0, starves := 0, abandoned := false, overdue := false, resinEntered := false,
    torqueEntered := false }

end Sys2Proof.Machine
end

