-- ==== Sys2Proof/Machine/RecordLog.lean ====
section
/-! DEFINITION. The Record Log (09_the_bolt_record_log.md): a record's assembly and verdict, its offer to the log, the end of
a hole, and what a drop does to the log. -/

namespace Sys2Proof.Machine

/-! ## Assembly -/

/-- A record's verdict: the first case of R171 that applies. -/
def verdictOf (abandoned observed : Bool) (accrued : CondSet) : Verdict :=
  if abandoned then .rejected
  else if observed then .logged
  else if flaggingConds.any (fun c => CondSet.has accrued c) then .flagged
  else .accepted

/-- The record of a hole that the cycle drilled, assembled at a tick (R168, R169, R170). -/
def Boom.holeRecord (x : Boom) (b : Slot) (h : Hole) (now : Tick) : BoltRecord :=
  { seq := 0, holeId := h.plan.holeId, slot := b, recipeSlot := h.plan.recipeSlot, posTag := h.plan.posTag,
    verdict := verdictOf h.abandoned false x.accrued, start := h.plan.start, finish := now, endPhase := some h.phase,
    target := h.plan.target, drilled := h.drilled.getD x.profile.frontier, bands := x.profile.bands,
    truncated := x.profile.truncated, anchor := x.profile.anchor,
    resin := if h.resinEntered then some h.resinSection else none,
    tension := if h.torqueEntered then some h.tensionSection else none,
    accrued := x.accrued, exceptions := h.exceptions, resolveCount := h.resolveCount, resolves := h.resolves,
    takeovers := h.takeovers, retracts := h.retracts, movedDistance := h.movedDistance, starves := h.starves,
    outOfRange := x.outOfRange }

/-- The record of an observed hole, assembled at a tick: no end phase, no resin or tension section, and the cycle's counts
at 0 (R169, R183). -/
def Boom.observedRecord (x : Boom) (b : Slot) (p : Plan) (now : Tick) : BoltRecord :=
  { seq := 0, holeId := p.holeId, slot := b, recipeSlot := p.recipeSlot, posTag := p.posTag,
    verdict := verdictOf false true x.accrued, start := p.start, finish := now, endPhase := none, target := p.target,
    drilled := x.profile.frontier, bands := x.profile.bands, truncated := x.profile.truncated, anchor := x.profile.anchor,
    resin := none, tension := none, accrued := x.accrued, exceptions := 0, resolveCount := 0, resolves := [],
    takeovers := 0, retracts := 0, movedDistance := 0, starves := 0, outOfRange := x.outOfRange }

/-! ## The log -/

/-- The next-sequence counter's next value: from 65535 it goes to 1 (R172). -/
def seqAfter (n : Nat) : Nat := if n = 65535 then 1 else n + 1

/-- A record is written at the log's tail under the next sequence number, and RECORD_READY is queued (R172). -/
def State.writeRecord (s : State) (r : BoltRecord) : State :=
  { s with log := s.log ++ [{ r with seq := s.nextSeq }], nextSeq := seqAfter s.nextSeq }.queueRecordReady

/-- The boom's level-0 context is emptied (R172). -/
def State.emptyContext (s : State) (b : Slot) : State := s.changeBoom b { s.boom b with auto := .idle }

/-- A record is offered to the log: written, the context becoming IDLE, or held in LOG_WAIT with the slot joining the waiting
writers (R172, R175). -/
def State.offerRecord (s : State) (b : Slot) (r : BoltRecord) : State :=
  if s.log.length < Config.logSize then (s.writeRecord r).emptyContext b
  else { s.changeBoom b { s.boom b with auto := .logWait r } with writers := s.writers ++ [b] }

/-- A started hole ends (R43, R47): the grant goes to 0, the outputs rest, the record is assembled and offered, and the
arbiter looks again. -/
def State.endHole (s : State) (b : Slot) (h : Hole) : State :=
  let s1 := s.reduceBoom b 0
  let s2 := s1.setBoom b (s1.boom b).still.cancelLoader
  (s2.offerRecord b ((s2.boom b).holeRecord b h s2.clock)).evaluate

/-! ## Drops -/

/-- The record a LOG_WAIT context holds, on the stack or active. -/
def Auto.heldRecord : Auto → Option BoltRecord
  | .logWait r => some r
  | _ => none

/-- The first waiting writer's record goes into the log and its context becomes IDLE (R174, step 2). -/
def State.admitWriter (s : State) : State :=
  match s.writers with
  | [] => s
  | b :: rest =>
    let s1 := { s with writers := rest }
    match (s1.boom b).auto.heldRecord with
    | some r => (s1.writeRecord r).emptyContext b
    | none => s1

end Sys2Proof.Machine
end

