-- ==== Sys2Proof/Machine/Strata.lean ====
section
/-! DEFINITION. The Strata Monitor's arithmetic (04_drill_monitoring_and_the_strata_profile.md): samples, intervals,
specific energy, classes, the reference, bands, gaps and the anchor assessment, on a profile alone. -/

namespace Sys2Proof.Machine

/-- The figures a profile is worked with: the bit diameter of the hole's recipe and the Monitor's parameters (R85). -/
structure StrataFigures where
  bit : Nat
  interval : Nat
  voidPct : Nat
  softPct : Nat
  hardPct : Nat
  deriving DecidableEq, Repr

/-- The figures for a hole under the parameters in force. -/
def strataFigures (ps : Params) (r : Recipe) : StrataFigures :=
  { bit := r.bitDiameter, interval := ps.profileInterval, voidPct := ps.voidPct, softPct := ps.softPct,
    hardPct := ps.hardPct }

/-- An open interval at its start (R65, R69). -/
def Interval.at (start : Nat) : Interval :=
  { start := start, samples := 0, sumForce := 0, forceCount := 0, sumWork := 0, workCount := 0, drops := 0 }

/-- A profile at its opening against a recipe (R65). -/
def Profile.openFor (r : Recipe) : Profile :=
  { cond := .opened, frontier := 0, interval := some (Interval.at 0), refSE := r.expectedSE, lastSE := 0, bands := [],
    truncated := false, collarLimit := 10 * r.collarDepth, anchor := none }

/-! ## Specific energy -/

/-- W_eff: the rotary sum scaled for dropped samples (R72). -/
def Interval.workScaled (iv : Interval) : Nat :=
  if iv.workCount = 0 then 0
  else if iv.workCount < iv.samples then roundDiv (iv.sumWork * iv.samples) iv.workCount
  else iv.sumWork

/-- The rotary term over an advance (R72). -/
def Interval.rotaryTerm (iv : Interval) (bit advance : Nat) : Nat :=
  roundDiv (4 * iv.workScaled) (3 * bit ^ 2 * advance)

/-- The thrust term (R73). -/
def Interval.thrustTerm (iv : Interval) (bit : Nat) : Nat :=
  if iv.forceCount = 0 then 0 else roundDiv (4096 * iv.sumForce) (3217 * bit ^ 2 * iv.forceCount)

/-- The interval's SE, saturated at 65535; none when the advance is 0 (R73). -/
def Interval.energy (iv : Interval) (bit advance : Nat) : Option Nat :=
  if advance = 0 then none else some (min 65535 (iv.thrustTerm bit + iv.rotaryTerm bit advance))

/-! ## Class and reference -/

/-- The ratio q in per cent (R74). -/
def energyRatio (se reference : Nat) : Nat := 100 * se / reference

/-- More than a quarter of the interval's samples were dropped: SUSPECT (R74, case 3). -/
def Interval.suspect (iv : Interval) : Bool := decide (iv.samples < iv.drops * 4)

/-- The class by the ratio q (R74, cases 4 to 7). -/
def classByRatio (g : StrataFigures) (q : Nat) : BandClass :=
  if q < g.voidPct then .void
  else if q < g.softPct then .soft
  else if q ≤ g.hardPct then .competent
  else .hard

/-- A closing interval's class: the first case of R74 that applies. -/
def classify (g : StrataFigures) (collarLimit reference : Nat) (iv : Interval) (se : Option Nat) : BandClass :=
  match se with
  | none => .unknown
  | some e =>
    if iv.start < collarLimit then .collar
    else if iv.suspect then .unknown
    else classByRatio g (energyRatio e reference)

/-- The interval counts as SUSPECT in its band: case 3 decided its class (R74, R80). -/
def markedSuspect (collarLimit : Nat) (iv : Interval) (se : Option Nat) : Bool :=
  match se with
  | none => false
  | some _ => decide (collarLimit ≤ iv.start) && iv.suspect

/-- The reference after a COMPETENT interval: an eighth of the way, truncated toward zero, never below 1 (R75). -/
def nextReference (reference se : Nat) : Nat :=
  let r : Int := (reference : Int) + Int.tdiv ((se : Int) - (reference : Int)) 8
  if r < 1 then 1 else r.toNat

/-! ## Bands -/

/-- What is added to the band list: a closed interval or a gap. -/
structure Addition where
  cls : BandClass
  top : Nat
  bottom : Nat
  /-- A kept interval, which counts; a gap does not. -/
  counts : Bool
  se : Option Nat
  isPartial : Bool
  isForced : Bool
  isSuspect : Bool
  deriving DecidableEq, Repr

/-- One more in a band's count; past the end of its range R77 states no value (log entry 12). -/
def bandCountUp (n : Nat) : Nat := if n < Config.maxBandCount then n + 1 else Config.bandCountPast (n + 1)

/-- A band's SE sum grown by an SE; past the end of its range R77 states no value (log entry 12). -/
def bandSumUp (sum se : Nat) : Nat :=
  if sum + se ≤ 65535 * Config.maxBandCount then sum + se else Config.bandSumPast (sum + se)

/-- The band with an SE taken into its figures, if the addition has one (R78). -/
def Band.takeEnergy (b : Band) (se : Option Nat) : Band :=
  match se with
  | none => b
  | some e =>
    { b with seCount := bandCountUp b.seCount, seSum := bandSumUp b.seSum e,
             seMin := some (match b.seMin with | none => e | some m => min m e),
             seMax := some (match b.seMax with | none => e | some m => max m e) }

/-- The band extended by an addition: bottom, interval count, SE figures and flags (R78, R80). -/
def Band.extend (b : Band) (a : Addition) : Band :=
  let b' : Band :=
    { b with bottom := a.bottom, count := if a.counts then bandCountUp b.count else b.count,
             isPartial := b.isPartial || a.isPartial, isForced := b.isForced || a.isForced,
             isSuspect := b.isSuspect || a.isSuspect }
  b'.takeEnergy a.se

/-- A band as it is appended, before the addition goes in: all flags clear (R80). -/
def Band.start (a : Addition) : Band :=
  { cls := a.cls, top := a.top, bottom := a.bottom, count := 0, seCount := 0, seMin := none, seMax := none, seSum := 0,
    isPartial := false, isForced := false, isSuspect := false, isMerged := false }

/-- A class's severity, 1 the most severe (R79). -/
def BandClass.severity : BandClass → Nat
  | .void => 1
  | .soft => 2
  | .unknown => 3
  | .unlogged => 4
  | .hard => 5
  | .competent => 6
  | .collar => 7

/-- The more severe of two classes (R79). -/
def BandClass.worse (a b : BandClass) : BandClass := if b.severity < a.severity then b else a

/-- An addition joins the band list: it extends a last band of its class, else starts a band where there is room, else
extends the last band by severity and marks the truncation (R78, R79). -/
def Profile.addBand (p : Profile) (a : Addition) : Profile :=
  match p.bands.getLast? with
  | none => { p with bands := [(Band.start a).extend a] }
  | some last =>
    if last.cls = a.cls then { p with bands := p.bands.dropLast ++ [last.extend a] }
    else if p.bands.length < Config.maxBands then { p with bands := p.bands ++ [(Band.start a).extend a] }
    else
      { p with bands := p.bands.dropLast ++ [{ last.extend a with cls := last.cls.worse a.cls, isMerged := true }],
               truncated := true }

/-- A band's mean SE (R78). -/
def Band.mean (b : Band) : Nat := b.seSum / b.seCount

/-! ## Closing an interval -/

/-- How an interval closes (R69, R70). -/
inductive CloseKind where
  | normal | forced | partialClose
  deriving DecidableEq, Repr

/-- Steps 1 to 5 of R71 for an interval closing at the frontier, and whether its class is VOID (step 6). The open interval
is left to the caller. -/
def Profile.closeInterval (g : StrataFigures) (kind : CloseKind) (iv : Interval) (p : Profile) : Profile × Bool :=
  let advance := p.frontier - iv.start
  let se := iv.energy g.bit advance
  let cls := classify g p.collarLimit p.refSE iv se
  let p1 : Profile :=
    { p with
      lastSE := se.getD p.lastSE
      refSE :=
        match cls, se with
        | .competent, some e => nextReference p.refSE e
        | _, _ => p.refSE }
  let a : Addition :=
    { cls := cls, top := iv.start, bottom := p.frontier, counts := true, se := se,
      isPartial := decide (kind = .partialClose), isForced := decide (kind = .forced),
      isSuspect := markedSuspect p.collarLimit iv se }
  (p1.addBand a, decide (cls = .void))

/-! ## Samples -/

/-- A contributing sample goes into the open interval (R67, steps 2 to 5). -/
def Interval.take (iv : Interval) (thrust torque speed : Option Nat) : Interval :=
  { iv with
    samples := iv.samples + 1
    sumForce := iv.sumForce + thrust.getD 0
    forceCount := iv.forceCount + (if thrust.isSome then 1 else 0)
    sumWork :=
      iv.sumWork +
        (match torque, speed with
        | some t, some v => t * v
        | _, _ => 0)
    workCount := iv.workCount + (if torque.isSome && speed.isSome then 1 else 0)
    drops := iv.drops + (if thrust.isSome && torque.isSome && speed.isSome then 0 else 1) }

/-- The close tests of R69 on the open interval, and whether a VOID interval closed. -/
def Profile.closeTests (g : StrataFigures) (iv : Interval) (p : Profile) : Profile × Bool :=
  if iv.start + 10 * g.interval ≤ p.frontier then
    let r := p.closeInterval g .normal iv
    ({ r.1 with interval := some (Interval.at p.frontier) }, r.2)
  else if Config.maxSamples ≤ iv.samples then
    let r := p.closeInterval g .forced iv
    ({ r.1 with interval := some (Interval.at p.frontier) }, r.2)
  else ({ p with interval := some iv }, false)

/-- An eligible sample at a depth (R67), and whether a VOID interval closed. A profile that is not OPEN takes in no sample
(R65). -/
def Profile.sample (g : StrataFigures) (depth : Nat) (v : Quad (Option Nat)) (p : Profile) : Profile × Bool :=
  match p.cond, p.interval with
  | .opened, some iv =>
    if p.frontier ≤ depth + 10 then
      Profile.closeTests g (iv.take v.thrust v.torque v.speed) { p with frontier := max p.frontier depth }
    else (p, false)
  | _, _ => (p, false)

/-- The PARTIAL close of R70, and whether a VOID interval closed. A profile that is not OPEN closes at no event (R65). -/
def Profile.closePartial (g : StrataFigures) (p : Profile) : Profile × Bool :=
  match p.cond, p.interval with
  | .opened, some iv =>
    if 10 ≤ p.frontier - iv.start then
      let r := p.closeInterval g .partialClose iv
      ({ r.1 with interval := none, cond := .closed }, r.2)
    else ({ p with interval := none, cond := .closed }, false)
  | .opened, none => ({ p with cond := .closed }, false)
  | _, _ => (p, false)

/-- The gap test of R81 at a depth, with the UNLOGGED band of R82. -/
def Profile.gapTest (depth : Nat) (p : Profile) : Profile :=
  match p.cond, p.interval with
  | .opened, some iv =>
    if p.frontier + 10 < depth then
      let a : Addition :=
        { cls := .unlogged, top := iv.start, bottom := depth, counts := false, se := none, isPartial := false,
          isForced := false, isSuspect := false }
      { p.addBand a with frontier := depth, interval := some (Interval.at depth) }
    else p
  | _, _ => p

/-! ## The anchor assessment (R83) -/

/-- The bottom end of the zone: the collar limit, or the encapsulation length short of the frontier. -/
def Profile.zoneTop (p : Profile) (encapsulation : Nat) : Nat := max p.collarLimit (p.frontier - 10 * encapsulation)

/-- The length of a band inside the zone from `z` to `d`. -/
def Band.inside (b : Band) (z d : Nat) : Nat := min b.bottom d - max b.top z

/-- The band is of class COMPETENT or HARD. -/
def Band.sound (b : Band) : Bool :=
  match b.cls with
  | .competent => true
  | .hard => true
  | _ => false

/-- C: the length of sound rock in the zone. -/
def Profile.soundLength (p : Profile) (z : Nat) : Nat :=
  (p.bands.map (fun b => if b.sound then b.inside z p.frontier else 0)).sum

/-- A VOID band overlaps the zone and is thicker than the limit. -/
def Profile.thickVoid (p : Profile) (z voidLimit : Nat) : Bool :=
  p.bands.any (fun b => decide (b.cls = .void) && decide (0 < b.inside z p.frontier) &&
    decide (10 * voidLimit < b.bottom - b.top))

/-- The competent percent; 0 for an empty zone. -/
def Profile.competentPercent (p : Profile) (encapsulation : Nat) : Nat :=
  let z := p.zoneTop encapsulation
  if p.frontier ≤ z then 0 else 100 * p.soundLength z / (p.frontier - z)

/-- The anchor assessment under the parameters in force. -/
def Profile.assess (ps : Params) (encapsulation : Nat) (p : Profile) : Anchor :=
  let z := p.zoneTop encapsulation
  let pc := p.competentPercent encapsulation
  let grade : Grade :=
    if p.frontier ≤ z ∨ pc < ps.anchorFairPct ∨ p.thickVoid z ps.voidLimit = true then .poor
    else if pc < ps.anchorGoodPct then .fair
    else .good
  { percent := pc, grade := grade }

/-- The profile with its assessment stored. -/
def Profile.assessed (ps : Params) (encapsulation : Nat) (p : Profile) : Profile :=
  { p with anchor := some (p.assess ps encapsulation) }

end Sys2Proof.Machine
end

