-- ==== Sys2Proof/Machine/Sequencer.lean ====
section
/-! DEFINITION. The Boom Sequencer between samples (02_the_bolting_cycle.md): asking for flow, entering and resuming a phase,
crossing a boundary, the end work of the phases, starting a hole, and abandoning one. -/

namespace Sys2Proof.Machine

/-! ## Flow at the boom (R27, R31, R32) -/

/-- The flow a CYCLE context asks for: its phase's demand, or the INSERTING demand for RE_ENGAGE, limited to the capacity in
force (R27, R32). -/
def State.askedFlow (s : State) (h : Hole) : Nat :=
  s.params.effective (if h.viaReEngage then s.params.demandInserting else s.params.demand h.phase)

/-- The class of that request: CURING for RE_ENGAGE (R32), else the phase's (R23). -/
def Hole.askedClass (h : Hole) : FlowClass := if h.viaReEngage then .curing else h.phase.flowClass

/-- A CYCLE context waits for flow, its outputs at rest (R24, R27). -/
def State.waitForFlow (s : State) (b : Slot) (h : Hole) : State :=
  s.changeBoom b { (s.boom b).still.cancelLoader with auto := .cycle .waitFlow { h with torqueRun := [] } }

/-- A phase asks for its flow: a reduction and the motion-start check when the grant covers it, else a top-up in
WAIT_FLOW (R27, R28). -/
def State.askFlow (s : State) (b : Slot) (h : Hole) : State :=
  if s.askedFlow h ≤ s.grant b then ((s.reduceBoom b (s.askedFlow h)).startCycle b h true).evaluate
  else ((s.waitForFlow b h).topUpBoom b h.askedClass (s.askedFlow h)).evaluate

/-! ## Phase entry and resume -/

/-- A hole as it enters a phase at a tick: the counts that start afresh there (R27, R92, R93, R100, R101), and the marks of
R99 and R170. -/
def Hole.enter (h : Hole) (p : Phase) (now : Tick) : Hole :=
  match p with
  | .resinLoad => { h with phase := p, loaded := 0, resinEntered := true }
  | .boltLoad => { h with phase := p, indexDone := false }
  | .mixing => { h with phase := p, mixSum := 0, mixStart := none }
  | .torquing =>
    { h with phase := p, torqueRun := [], peak := 0, finalTorque := none, tension := none, torqueStart := none,
             torqueEntered := true,
             resinAgeAtTorque := some (h.resinAgeAtTorque.getD (h.resinAge now)) }
  | .releasing => { h with phase := p, releaseOpened := false, releaseFeeding := false, chuckReleased := false }
  | .collaring => { h with phase := p }
  | .drilling => { h with phase := p }
  | .retractDrill => { h with phase := p }
  | .inserting => { h with phase := p }
  | .holding => { h with phase := p }

/-- The boom with its current set and seen marks cleared, as at a phase entry (R27, R54). -/
def Boom.clearPhase (x : Boom) : Boom := { x with current := 0, seen := Quad.fill false }

/-- A phase is entered (R27). -/
def State.enterPhase (s : State) (b : Slot) (h : Hole) (p : Phase) : State :=
  (s.setBoom b (s.boom b).clearPhase).askFlow b (h.enter p s.clock)

/-- A phase is resumed (R31). A BOLT_LOAD whose bolt was let go is resumed with a fresh INDEX (R33). -/
def State.resume (s : State) (b : Slot) (h : Hole) : State :=
  s.askFlow b (if h.phase = .boltLoad ∧ h.chuckReleased = true then { h with indexDone := false } else h)

/-! ## Boundaries -/

/-- The operand of a PRE_PHASE frame, by its cause (R138). -/
def postedOperand (x : Boom) (h : Hole) : Cond → Nat
  | .poorAnchor =>
    match x.profile.anchor with
    | some a => a.percent
    | none => 0
  | .shortResin => h.computed.getD 0
  | .underTension => h.tension.getD 0
  | .overTension => h.tension.getD 0
  | .torqueTimeout => h.peak
  | _ => 0

/-- The boundary after a phase, its end work done (R26, steps 2 and 3; R43): a PRE_PHASE exception when something is posted,
else the next phase; RELEASING ends the hole. -/
def State.cross (s : State) (b : Slot) (h : Hole) : State :=
  match h.phase.next with
  | none => s.endHole b h
  | some p =>
    match CondSet.top (s.boom b).posted with
    | some c => (s.stopBoom b h .prePhase c (postedOperand (s.boom b) h c) h.phase p).evaluate
    | none => s.enterPhase b h p

/-! ## End work -/

/-- The figures that the end of DRILLING fixes (R26, R90): drilled depth, computed and planned count. -/
def Hole.drillingFigures (h : Hole) (frontier computed : Nat) : Hole :=
  { h with drilled := some frontier, computed := some computed, planned := some (min computed h.plan.recipe.maxCartridges) }

/-- What the end of DRILLING raises: VOID_STRUCK for a VOID last interval (R76), POOR_ANCHOR (R84) and SHORT_RESIN (R90). -/
def drillingConds (r : Recipe) (void : Bool) (g : Grade) (computed : Nat) : List Cond :=
  (if void then [Cond.voidStruck] else []) ++ (if g = .poor then [Cond.poorAnchor] else []) ++
    (if r.maxCartridges < computed then [Cond.shortResin] else [])

/-- DRILLING ends: the last interval closes, the anchor is assessed, the cartridges are counted, and the boundary is crossed
(R26, R70, R83, R84, R89, R90). -/
def State.endDrilling (s : State) (b : Slot) (h : Hole) : State :=
  let x := s.boom b
  let r := h.plan.recipe
  let closed := x.profile.closePartial (strataFigures s.params r)
  let p := closed.1.assessed s.params r.encapsulation
  let g := (closed.1.assess s.params r.encapsulation).grade
  let n := computedCount r g (!CondSet.has x.enabled .poorAnchor)
  let x' := { x with profile := p }
  (s.setBoom b (x'.raise (drillingConds r closed.2 g n))).cross b (h.drillingFigures p.frontier n)

/-- MIXING ends at this tick (R94). -/
def State.endMixing (s : State) (b : Slot) (h : Hole) : State := s.cross b { h with mixEnd := some s.clock }

/-- HOLDING ends at this tick (R99). -/
def State.endHolding (s : State) (b : Slot) (h : Hole) : State := s.cross b { h with holdEnd := some s.clock }

/-- TORQUING ends on a final torque: the tension is worked out and checked, with what the end itself raised (R102 to
R104). -/
def State.endTorquing (s : State) (b : Slot) (h : Hole) (final : Nat) (raised : List Cond) : State :=
  let t := tensionOf h.plan.recipe final
  (s.raise b (raised ++ tensionConds h.plan.recipe t)).cross b { h with finalTorque := some final, tension := some t }

/-! ## Starting a hole (R17, R36) -/

/-- The target depth of a queue entry against the copied recipe, in 0.1 mm (R17). -/
def QueueEntry.target (e : QueueEntry) (r : Recipe) : Nat :=
  match e.depth with
  | some d => 10 * max d r.encapsulation
  | none => 10 * r.targetDepth

/-- The boom as a hole starts on it: P0 latched, the profile opened, the three sets emptied, the out-of-range counts and the
seen marks cleared (R22, R53, R54, R65, R132). -/
def Boom.startHole (x : Boom) (r : Recipe) : Boom :=
  { x with p0 := x.lastGood.position, profile := Profile.openFor r, current := 0, posted := 0, accrued := 0,
           outOfRange := Quad.fill 0, seen := Quad.fill false }

/-- An accepted GO for the head entry (R36). -/
def State.startHole (s : State) (b : Slot) (e : QueueEntry) (rest : List QueueEntry) (r : Recipe) : State :=
  let plan : Plan :=
    { holeId := e.holeId, recipeSlot := e.recipeSlot, posTag := e.posTag, recipe := r, target := e.target r, start := s.clock }
  let s1 := { s with queues := s.queues.set b rest }
  let s2 := s1.setBoom b { (s1.boom b).startHole r with chuck := .closed }
  s2.enterPhase b (Hole.start plan) .collaring

/-! ## Abandoning (R46, R47) -/

/-- The depth is home: at most 10 × HOME_TOLERANCE (R22). -/
def State.atHome (s : State) (b : Slot) : Bool := decide (s.depth b ≤ 10 * s.params.homeTolerance)

/-- The effective retract demand (R46, R161). -/
def State.retractFlow (s : State) : Nat := s.params.effective s.params.demandRetractDrill

/-- Steps 5 and 6 of R46, made at an ABANDON and at a pop of an ABANDONING context: the home case, a covered retract, or an
URGENT top-up. -/
def State.abandonGo (s : State) (b : Slot) (h : Hole) : State :=
  if s.atHome b then s.endHole b h
  else if s.retractFlow ≤ s.grant b then ((s.reduceBoom b s.retractFlow).moveAbandon b h).evaluate
  else
    ((s.changeBoom b { (s.boom b).still with auto := .abandoning .waitFlow h }).topUpBoom b .urgent s.retractFlow).evaluate

/-- The phase is BOLT_LOAD or later, so that ABANDON opens the chuck (R46, step 2). -/
def Phase.opensOnAbandon (p : Phase) : Bool := decide (5 ≤ p.num)

/-- The boom as its hole is abandoned: chuck open from BOLT_LOAD on, loader cancelled, outputs at rest, the profile closed
without an assessment, the current and posted sets emptied (R46, R70, R132). -/
def Boom.giveUp (x : Boom) (g : StrataFigures) (p : Phase) : Boom :=
  { x.still.cancelLoader with
    chuck := if p.opensOnAbandon then .opened else x.chuck
    profile := (x.profile.closePartial g).1
    current := 0
    posted := 0 }

/-- An accepted ABANDON of a CYCLE or EXCEPTION context (R46). -/
def State.abandonHole (s : State) (b : Slot) (h : Hole) : State :=
  let s1 := s.withdrawBoom b
  let s2 := s1.setBoom b ((s1.boom b).giveUp (strataFigures s1.params h.plan.recipe) h.phase)
  s2.abandonGo b { h with abandoned := true, torqueRun := [] }

end Sys2Proof.Machine
end

