-- ==== Sys2Proof/Machine/Sampling.lean ====
section
/-! DEFINITION. One boom's sample: the Front End's part (03_sensing_outputs_and_the_loader.md), the condition tests, and what
the Strata Monitor and the sequencer do with it in each state (R25). -/

namespace Sys2Proof.Machine

/-! ## The Front End's part (R49 to R54) -/

/-- The values in force for four readings, under the policies and the last good values (R50, R52). -/
def valuesInForce (ps : Params) (good : Quad Nat) (r : Quad Reading) : Quad (Option Nat) :=
  { thrust := valueInForce (Policy.ofCode ps.thrustPolicy) 60000 good.thrust r.thrust
    torque := valueInForce (Policy.ofCode ps.torquePolicy) 5000 good.torque r.torque
    speed := valueInForce (Policy.ofCode ps.speedPolicy) 1200 good.speed r.speed
    position := valueInForce .hold 30000 good.position r.position }

/-- The last good values after four readings (R51). -/
def goodAfter (good : Quad Nat) (r : Quad Reading) : Quad Nat :=
  { thrust := nextGood good.thrust r.thrust, torque := nextGood good.torque r.torque, speed := nextGood good.speed r.speed,
    position := nextGood good.position r.position }

/-- The out-of-range counts after four readings (R53). -/
def countsAfter (n : Quad Nat) (r : Quad Reading) : Quad Nat :=
  { thrust := countOut n.thrust r.thrust, torque := countOut n.torque r.torque, speed := countOut n.speed r.speed,
    position := countOut n.position r.position }

/-- The position-loss run count after a POSITION reading (R52). -/
def lossAfter (n : Nat) (r : Reading) : Nat := if isOut r then min (n + 1) 20 else 0

/-- Steps 1 and 2 of R49 for a boom, with the LOADER output's one tick over (R56). -/
def Boom.takeReadings (x : Boom) (ps : Params) (r : Quad Reading) : Boom :=
  { x with
    raw := some r
    lastGood := goodAfter x.lastGood r
    inForce := valuesInForce ps x.lastGood r
    posLoss := lossAfter x.posLoss r.position
    outOfRange := if x.auto.counts then countsAfter x.outOfRange r else x.outOfRange
    loaderOut := none }

/-- Which channels the latest readings have out of range. -/
def Boom.outNow (x : Boom) : Quad Bool :=
  match x.raw with
  | none => Quad.fill false
  | some r => { thrust := isOut r.thrust, torque := isOut r.torque, speed := isOut r.speed, position := isOut r.position }

/-- A channel is out of range with its seen mark clear (R54). -/
def Boom.newlyOut (x : Boom) : Bool :=
  let o := x.outNow
  (o.thrust && !x.seen.thrust) || (o.torque && !x.seen.torque) || (o.speed && !x.seen.speed) ||
    (o.position && !x.seen.position)

/-- The boom with the channels out of range marked seen (R54). -/
def Boom.markSeen (x : Boom) : Boom :=
  let o := x.outNow
  { x with
    seen := { thrust := x.seen.thrust || o.thrust, torque := x.seen.torque || o.torque, speed := x.seen.speed || o.speed,
              position := x.seen.position || o.position } }

/-- SENSOR_RANGE when a channel is newly out of range (R54). -/
def Boom.rangeConds (x : Boom) : List Cond := if x.newlyOut then [.sensorRange] else []

/-! ## The condition tests of a CYCLE sample -/

/-- The stall window at an ACTIVE sample of a phase it watches (R37). -/
def Hole.stallSample (h : Hole) (depth : Nat) : Hole :=
  if h.phase.stalls then
    if h.stallMark + 5 ≤ depth then { h with stallMark := depth, stallTicks := 0 }
    else { h with stallTicks := h.stallTicks + 1 }
  else h

/-- The retract motion of the cycle is under way (R38). -/
def Hole.retracting (h : Hole) : Bool :=
  match h.phase with
  | .retractDrill => true
  | .releasing => h.releaseFeeding
  | _ => false

/-- The retract timer at an ACTIVE sample (R38). -/
def Hole.retractSample (h : Hole) : Hole := if h.retracting then { h with retractTicks := h.retractTicks + 1 } else h

/-- The hole's timers at an ACTIVE sample: the motion timers count, and the first ACTIVE sample starts the wall-time ones
(R37 to R41). -/
def Hole.sampleTimers (h : Hole) (depth : Nat) (now : Tick) : Hole :=
  ((h.stallSample depth).retractSample).startTimers now

/-- FEED_STALL, as the stall window stands (R37). -/
def Hole.stallConds (h : Hole) (ps : Params) : List Cond :=
  if h.phase.stalls ∧ ticksReach h.stallTicks ps.stallWindow = true then [.feedStall] else []

/-- RETRACT_TIMEOUT, as the retract timer stands (R38). -/
def Hole.retractConds (h : Hole) (ps : Params) : List Cond :=
  if h.retracting ∧ ticksReach h.retractTicks ps.retractTimeout = true then [.retractTimeout] else []

/-- OVER_THRUST (R55). -/
def Boom.thrustConds (x : Boom) (h : Hole) : List Cond :=
  match x.inForce.thrust with
  | none => []
  | some f => if h.phase.testsThrust ∧ h.plan.recipe.thrustCeiling ≤ f then [.overThrust] else []

/-- DRIVE_LOST and POSITION_LOST, tested in ACTIVE and RE_ENGAGE (R52, R141). -/
def State.moveConds (s : State) (b : Slot) : List Cond :=
  (if s.driveOn then [] else [Cond.driveLost]) ++ (if (s.boom b).posLoss = 20 then [Cond.positionLost] else [])

/-- Everything raised at an ACTIVE sample before the Monitor takes it (R133); `h` has its timers advanced. -/
def State.activeConds (s : State) (b : Slot) (h : Hole) : List Cond :=
  (s.boom b).rangeConds ++ s.moveConds b ++ (s.boom b).thrustConds h ++ h.stallConds s.params ++ h.retractConds s.params

/-- Everything raised at a RE_ENGAGE sample (R25). -/
def State.engageConds (s : State) (b : Slot) : List Cond := (s.boom b).rangeConds ++ s.moveConds b

/-! ## What an ACTIVE sample does in each phase -/

/-- The boom's CYCLE context ACTIVE with hole `h` and its outputs driven. -/
def State.driveBoom (s : State) (b : Slot) (h : Hole) (feed rotation : Int) : State :=
  s.setBoom b { s.boom b with auto := .cycle .active h, feed := feed, rotation := rotation }

/-- The phase's own outputs are driven (R23, R29). -/
def State.drivePhase (s : State) (b : Slot) (h : Hole) : State :=
  s.driveBoom b h (phaseFeed s.params h.plan.recipe h.phase) (phaseRotation h.plan.recipe h.phase)

/-- A sample of COLLARING or DRILLING is eligible and enters the profile, and VOID_STRUCK is raised when a VOID interval
closes (R66, R67, R76). -/
def State.profileSample (s : State) (b : Slot) (h : Hole) : State :=
  let x := s.boom b
  let r := x.profile.sample (strataFigures s.params h.plan.recipe) x.depth x.inForce
  s.setBoom b ({ x with profile := r.1, wasEligible := true }.raise (if r.2 then [Cond.voidStruck] else []))

/-- COLLARING (R23). -/
def State.collaringSample (s : State) (b : Slot) (h : Hole) : State :=
  let t := (s.drivePhase b h).profileSample b h
  if 10 * h.plan.recipe.collarDepth ≤ t.depth b then t.cross b h else t

/-- DRILLING (R23). -/
def State.drillingSample (s : State) (b : Slot) (h : Hole) : State :=
  let t := (s.drivePhase b h).profileSample b h
  if h.plan.target ≤ t.depth b then t.endDrilling b h else t

/-- RETRACT_DRILL (R23). -/
def State.retractDrillSample (s : State) (b : Slot) (h : Hole) : State :=
  let t := s.drivePhase b h
  if t.atHome b then t.cross b h else t

/-- A loader command goes out at this sample (R58, R60). -/
def State.issue (s : State) (b : Slot) (cmd : LoaderCmd) (attempt : Nat) : State :=
  s.setBoom b { s.boom b with handshake := .outstanding cmd attempt s.clock, loaderOut := some cmd }

/-- What the handshake asks of a loader phase at an ACTIVE sample: a new command when it is NONE, the second attempt when one
is due (R58, R60). -/
def State.loaderSample (s : State) (b : Slot) (cmd : LoaderCmd) : State :=
  match (s.boom b).handshake with
  | .none => s.issue b cmd 1
  | .reissueDue c => s.issue b c 2
  | .outstanding _ _ _ => s

/-- RESIN_LOAD: the completion test, else a PUSH (R92). -/
def State.resinLoadSample (s : State) (b : Slot) (h : Hole) : State :=
  let t := s.drivePhase b h
  if h.loaded = h.planned.getD 0 then t.cross b h else t.loaderSample b .push

/-- BOLT_LOAD: the completion test, else the chuck OPEN and the INDEX (R23, R59). -/
def State.boltLoadSample (s : State) (b : Slot) (h : Hole) : State :=
  let t := s.drivePhase b h
  if h.indexDone then t.cross b h
  else (t.setBoom b { t.boom b with chuck := .opened }).loaderSample b .index

/-- INSERTING (R23). -/
def State.insertingSample (s : State) (b : Slot) (h : Hole) : State :=
  let t := s.drivePhase b h
  if h.drilled.getD 0 - 10 * s.params.mixStroke ≤ t.depth b then t.cross b h else t

/-- MIX_SHORT is taken, with the resin age in ms (R95). -/
def State.takeMixShort (s : State) (b : Slot) (h : Hole) : State :=
  ((s.raise b [.mixShort]).stopInPhase b h .mixShort (10 * h.resinAge s.clock)).evaluate

/-- The hole with the SPEED in force added to the mix sum (R93). -/
def Hole.addSpeed (h : Hole) (speed : Option Nat) : Hole := { h with mixSum := h.mixSum + speed.getD 0 }

/-- MIXING: the speed is added, then the completion test, then the mix window (R93, R94, R95). -/
def State.mixingSample (s : State) (b : Slot) (h : Hole) : State :=
  let h' := h.addSpeed (s.boom b).inForce.speed
  let t := s.drivePhase b h'
  if h'.mixDone s.params (t.depth b) then t.endMixing b h'
  else if timerReaches t.clock h'.mixStart h'.plan.recipe.mixTimeMax then t.takeMixShort b h'
  else t

/-- HOLDING (R40, R99). -/
def State.holdingSample (s : State) (b : Slot) (h : Hole) : State :=
  let t := s.drivePhase b h
  if h.holdElapsed t.clock then t.endHolding b h else t

/-- The hole after an ACTIVE TORQUING sample's TORQUE (R100, R101). -/
def Hole.takeTorque (h : Hole) (torque : Option Nat) : Hole :=
  { h with torqueRun := nextRun h.plan.recipe.targetTorque h.torqueRun torque, peak := nextPeak h.peak torque }

/-- TORQUING ends on the peak torque with TORQUE_TIMEOUT (R102). -/
def State.takeTorqueTimeout (s : State) (b : Slot) (h : Hole) : State := s.endTorquing b h h.peak [.torqueTimeout]

/-- TORQUING: the run and the peak, then the completion test, then the torque timer (R100 to R102). -/
def State.torquingSample (s : State) (b : Slot) (h : Hole) : State :=
  let h' := h.takeTorque (s.boom b).inForce.torque
  let t := s.drivePhase b h'
  match runFinal h'.torqueRun with
  | some final => t.endTorquing b h' final []
  | none => if timerReaches t.clock h'.torqueStart h'.plan.recipe.torqueTimeout then t.takeTorqueTimeout b h' else t

/-- The hole as RELEASING feeds: the retract motion starts at the first feeding sample (R23, R38). -/
def Hole.feedRelease (h : Hole) : Hole :=
  { h with retractTicks := if h.releaseFeeding then h.retractTicks else 0, releaseFeeding := true }

/-- The boom in RELEASING at an ACTIVE sample: the chuck OPEN at every one, the feed 0 on the first and the retract from the
next on (R23). -/
def State.driveRelease (s : State) (b : Slot) (h : Hole) : State :=
  let t :=
    if h.releaseOpened then s.driveBoom b h.feedRelease (-(s.params.retractFeed : Int)) 0
    else s.driveBoom b { h with releaseOpened := true } 0 0
  t.setBoom b { t.boom b with chuck := .opened }

/-- RELEASING (R23). -/
def State.releasingSample (s : State) (b : Slot) (h : Hole) : State :=
  let t := s.driveRelease b h
  if t.atHome b then t.cross b h else t

/-- What an ACTIVE sample at which no immediate exception is taken does (R23, R25). -/
def State.phaseSample (s : State) (b : Slot) (h : Hole) : State :=
  match h.phase with
  | .collaring => s.collaringSample b h
  | .drilling => s.drillingSample b h
  | .retractDrill => s.retractDrillSample b h
  | .resinLoad => s.resinLoadSample b h
  | .boltLoad => s.boltLoadSample b h
  | .inserting => s.insertingSample b h
  | .mixing => s.mixingSample b h
  | .holding => s.holdingSample b h
  | .torquing => s.torquingSample b h
  | .releasing => s.releasingSample b h

/-! ## RE_ENGAGE (R32) -/

/-- The hole as its bolt is seated: both flags clear. -/
def Hole.seated (h : Hole) : Hole := { h with chuckReleased := false, moved := false }

/-- The seating: HOLDING whose hold has elapsed ends here, else the phase asks for its own flow. -/
def State.seat (s : State) (b : Slot) (h : Hole) : State :=
  if h.phase = .holding ∧ h.holdElapsed s.clock = true then s.endHolding b h.seated else s.askFlow b h.seated

/-- A RE_ENGAGE sample at which no immediate exception is taken. -/
def State.engageSample (s : State) (b : Slot) (h : Hole) : State :=
  let t :=
    s.setBoom b
      { s.boom b with auto := .cycle .reEngage h, feed := (h.plan.recipe.insertFeed : Int), rotation := 0, chuck := .closed }
  if h.seatDepth s.params ≤ t.depth b then t.seat b h else t

/-! ## The sample by state (R25) -/

/-- The conditions of a sample are taken: an immediate exception when one stops the boom, else `go` (R25, R131, R133). -/
def State.takeConds (s : State) (b : Slot) (h : Hole) (cs : List Cond) (go : State → State) : State :=
  let t := s.setBoom b ((s.boom b).markSeen.raise cs)
  match s.stopCause b cs with
  | some c => (t.stopInPhase b h c 0).evaluate
  | none => go t

/-- A CYCLE sample (R25). -/
def State.cycleSample (s : State) (b : Slot) (sub : CycleSub) (h : Hole) : State :=
  match sub with
  | .active =>
    let h' := h.sampleTimers (s.depth b) s.clock
    s.takeConds b h' (s.activeConds b h') (fun t => t.phaseSample b h')
  | .reEngage => s.takeConds b h (s.engageConds b) (fun t => t.engageSample b h)
  | .waitFlow => s.takeConds b h (s.boom b).rangeConds id
  | .backedOff => s.takeConds b h (s.boom b).rangeConds id

/-- The boom with its retract-overdue report queued when the flag has just been set (R192). -/
def State.noteOverdue (s : State) (b : Slot) (was : Bool) : State :=
  if (s.boom b).overdueShown ∧ was = false then s.queueStatus b else s

/-- The hole of an ABANDONING context after one more ACTIVE sample of its retract timer (R38, R47). -/
def Hole.abandonTimer (h : Hole) (ps : Params) : Hole :=
  { h with retractTicks := h.retractTicks + 1, overdue := h.overdue || ticksReach (h.retractTicks + 1) ps.retractTimeout }

/-- An ABANDONING sample (R47). The sample that carries the return of drive-enable starts the new retract motion and is not
itself an ACTIVE sample: its home test comes with the next one (log entry 22). -/
def State.abandonSample (s : State) (b : Slot) (sub : AbandonSub) (h : Hole) : State :=
  match sub with
  | .active =>
    if s.driveOn then
      let h' := h.abandonTimer s.params
      let t := s.setBoom b { s.boom b with auto := .abandoning .active h' }
      let t' := t.noteOverdue b h.overdue
      if t'.atHome b then t'.endHole b h' else t'
    else s.moveAbandon b h
  | .driveHeld => if s.driveOn then s.moveAbandon b h else s
  | .waitFlow => s

/-- The timer of a SAFE_RETRACT context after one more ACTIVE sample (R162). -/
def RetractCtx.timer (r : RetractCtx) (ps : Params) : RetractCtx :=
  { r with ticks := r.ticks + 1, overdue := r.overdue || ticksReach (r.ticks + 1) ps.retractTimeout }

/-- A safety retract is home: the grant goes to 0 and it rests in RETRACTED (R161). -/
def State.retractHome (s : State) (b : Slot) (r : RetractCtx) : State :=
  let s1 := s.reduceBoom b 0
  (s1.changeBoom b { (s1.boom b).still with retract := some { r with sub := .retracted } }).evaluate

/-- A SAFE_RETRACT sample (R161, R162). As in ABANDONING, the sample that carries the return of drive-enable is not itself an
ACTIVE one (log entry 22). -/
def State.retractSample (s : State) (b : Slot) (r : RetractCtx) : State :=
  match r.sub with
  | .active =>
    if s.driveOn then
      let r' := r.timer s.params
      let t := s.setBoom b { s.boom b with retract := some r' }
      let t' := t.noteOverdue b r.overdue
      if t'.atHome b then t'.retractHome b r' else t'
    else s.moveRetract b r
  | .driveHeld => if s.driveOn then s.moveRetract b r else s
  | .waitFlow => s
  | .retracted => s

/-- A MANUAL context is stopped in place: feed and rotation 0, the hold timer stopped (R157). -/
def Boom.stopManual (x : Boom) (m : ManualCtx) : Boom :=
  { x with feed := 0, rotation := 0, manual := some { m with hold := none } }

/-- A MANUAL sample: drive-enable absent stops the context in place (R157). -/
def State.manualSample (s : State) (b : Slot) (m : ManualCtx) : State :=
  if s.driveOn then s else s.setBoom b ((s.boom b).stopManual m)

/-- The SPEED in force is above 0, so an OBSERVING sample is eligible (R66). -/
def Boom.turning (x : Boom) : Bool := decide (0 < x.inForce.speed.getD 0)

/-- An OBSERVING sample: SENSOR_RANGE into the accrued set alone, the gap test, and the profile (R66, R81, R128, R182). -/
def Boom.observeSample (x : Boom) (ps : Params) (p : Plan) : Boom :=
  let x1 : Boom := { x.markSeen with accrued := CondSet.putAll x.accrued x.rangeConds, wasEligible := x.turning }
  if x.turning then
    let q := if x.wasEligible then x.profile else x.profile.gapTest x.depth
    { x1 with profile := (q.sample (strataFigures ps p.recipe) x.depth x.inForce).1 }
  else x1

/-- A sample reaches a boom whose readings are in: the active context takes it (R25, R162, R182). -/
def State.contextSample (s : State) (b : Slot) : State :=
  match (s.boom b).retract, (s.boom b).manual, (s.boom b).auto with
  | some r, _, _ => s.retractSample b r
  | none, some m, _ => s.manualSample b m
  | none, none, .cycle sub h => s.cycleSample b sub h
  | none, none, .abandoning sub h => s.abandonSample b sub h
  | none, none, .observing p => s.setBoom b ((s.boom b).observeSample s.params p)
  | none, none, .idle => s
  | none, none, .exception _ _ => s
  | none, none, .logWait _ => s

/-- Outside OBSERVING, whose sample looks at the mark of the one before, a new sample counts as not eligible until the
sequencer finds it so (R66, R81). -/
def Boom.forgetEligible (x : Boom) : Boom :=
  match x.auto with
  | .observing _ => x
  | _ => { x with wasEligible := false }

/-- One boom's sample at a tick (R49). -/
def State.boomSample (s : State) (b : Slot) (r : Quad Reading) : State :=
  (s.setBoom b ((s.boom b).takeReadings s.params (normReadings r)).forgetEligible).contextSample b

end Sys2Proof.Machine
end

