-- ==== Sys2Proof/Machine/Intervention.lean ====
section
/-! DEFINITION. The Intervention Unit (08_interventions.md): the push, the takeover and its manual drive, the safety retract,
the chuck under an intervention, the pop with its re-entry check, and the line's sweep. -/

namespace Sys2Proof.Machine

/-! ## The push (R153) -/

/-- A level-0 context as it is set aside: the torque run is emptied, since the boom stops being ACTIVE (R100). -/
def Auto.setAside (a : Auto) : Auto :=
  match a.hole with
  | some h => a.withHole { h with torqueRun := [] }
  | none => a

/-- The boom with its active context set aside: loader cancelled, outputs at rest, the away depth stored, a MANUAL context's
hold timer stopped (R153, steps 2 to 4). -/
def Boom.pushed (x : Boom) : Boom :=
  match x.manual with
  | some m => { x.still.cancelLoader with manual := some { m with hold := none, away := x.depth } }
  | none => { x.still.cancelLoader with awayDepth := x.depth, auto := x.auto.setAside }

/-- The first four steps of a push; the new context is made by the caller (R153). -/
def State.pushBoom (s : State) (b : Slot) : State :=
  let s1 := s.withdrawBoom b
  s1.setBoom b (s1.boom b).pushed

/-! ## Takeover (R154, R155) -/

/-- The takeover count rises when a hole is open (R154). -/
def Auto.countTakeover (a : Auto) : Auto :=
  match a.hole with
  | some h => a.withHole { h with takeovers := countUp16 h.takeovers }
  | none => a

/-- The effective manual demand (R155). -/
def State.manualFlow (s : State) : Nat := s.params.effective s.params.manualDemand

/-- The request a MANUAL context makes at its start and when a pop makes it active (R155). -/
def State.manualRequest (s : State) (b : Slot) (m : ManualCtx) : State :=
  if s.manualFlow ≤ s.grant b then
    let s1 := s.reduceBoom b s.manualFlow
    (s1.changeBoom b { (s1.boom b).still with manual := some { m with sub := .ready, hold := none } }).evaluate
  else
    ((s.changeBoom b { (s.boom b).still with manual := some { m with sub := .waitFlow, hold := none } }).topUpBoom b
      .normal s.manualFlow).evaluate

/-- An accepted TAKEOVER (R154). -/
def State.takeoverBoom (s : State) (b : Slot) : State :=
  let s1 := s.pushBoom b
  let s2 := s1.setBoom b { s1.boom b with auto := (s1.boom b).auto.countTakeover }
  s2.manualRequest b { sub := .waitFlow, hold := none, away := 0 }

/-! ## The chuck under an intervention (R164) -/

/-- A level-0 context whose bolt an opening of the chuck lets go gets the chuck-released flag (R164). -/
def Auto.releaseChuck (a : Auto) : Auto :=
  match a with
  | .cycle sub h => if h.phase.holdsBolt then .cycle sub { h with chuckReleased := true } else a
  | .exception f h => if h.phase.holdsBolt then .exception f { h with chuckReleased := true } else a
  | .idle => a
  | .abandoning _ _ => a
  | .logWait _ => a
  | .observing _ => a

/-- The boom with its chuck opened by an intervention (R164). -/
def Boom.openChuck (x : Boom) : Boom := { x with chuck := .opened, auto := x.auto.releaseChuck }

/-! ## Manual drive (R156) -/

/-- A MANUAL_DRIVE's chuck argument (R200). -/
inductive ChuckArg where
  | keep | opened | closed
  deriving DecidableEq, Repr

/-- The chuck argument a code names (R200). -/
def ChuckArg.ofCode (n : Nat) : Option ChuckArg :=
  match n with
  | 0 => some .keep
  | 1 => some .opened
  | 2 => some .closed
  | _ => none

/-- The boom with a driven chuck argument (R156, R164). -/
def Boom.driveChuck (x : Boom) (c : ChuckArg) : Boom :=
  match c with
  | .keep => x
  | .opened => x.openChuck
  | .closed => { x with chuck := .closed }

/-- The boom with a MANUAL_DRIVE's values driven: the hold timer starts from zero (R156). -/
def Boom.driveManual (x : Boom) (m : ManualCtx) (feed rotation : Int) (c : ChuckArg) : Boom :=
  { x.driveChuck c with feed := feed, rotation := rotation, manual := some { m with hold := some 0 } }

/-! ## Safety retract (R161) -/

/-- The retract count rises when a hole is open (R161). -/
def Auto.countRetract (a : Auto) : Auto :=
  match a.hole with
  | some h => a.withHole { h with retracts := countUp16 h.retracts }
  | none => a

/-- A new SAFE_RETRACT context. -/
def RetractCtx.fresh : RetractCtx := { sub := .waitFlow, ticks := 0, overdue := false }

/-- A SAFE_RETRACT context that has just become active finds its sub-state: home, a covered retract, or an URGENT top-up
(R161, steps 2 and 3). -/
def State.retractGo (s : State) (b : Slot) (r : RetractCtx) : State :=
  if s.atHome b then s.retractHome b r
  else if s.retractFlow ≤ s.grant b then ((s.reduceBoom b s.retractFlow).moveRetract b r).evaluate
  else (s.topUpBoom b .urgent s.retractFlow).evaluate

/-- A safety retract is pushed on a boom and started (R153, R161). -/
def State.startRetract (s : State) (b : Slot) : State :=
  let s1 := s.pushBoom b
  let x := (s1.boom b).openChuck
  let s2 := s1.changeBoom b { x with auto := x.auto.countRetract, retract := some RetractCtx.fresh }
  s2.retractGo b RetractCtx.fresh

/-- The retract line's sweep: every fitted boom not already at level 2, lowest slot first (R160). -/
def State.sweep (s : State) : State :=
  forFitted (fun b t => if (t.boom b).level = 2 then t else t.startRetract b) s

/-! ## The pop (R165, R166) -/

/-- The hole of a popped context with the moved distance added (R165, step 3). -/
def Hole.addMoved (h : Hole) (d : Nat) : Hole := { h with movedDistance := min (h.movedDistance + d) 65535 }

/-- The move is past the re-entry tolerance (R166). -/
def Params.movedFar (ps : Params) (d : Nat) : Bool := decide (10 * ps.reentryTolerance < d)

/-- The hole with the moved flag set when the move was past the tolerance (R165, R166). -/
def Hole.noteMoved (h : Hole) (far : Bool) : Hole := { h with moved := h.moved || far }

/-- The re-entry check raises MOVED_WHILE_AWAY: the move set the flag, or the bolt was let go (R166). -/
def Hole.reentryRaises (h : Hole) (far : Bool) : Bool := far || (h.chuckReleased && h.phase.holdsBolt)

/-- The profile after the gap test a context of a phase makes (R81). -/
def Boom.gapTested (x : Boom) (p : Phase) : Boom := if p.drills then { x with profile := x.profile.gapTest x.depth } else x

/-- A popped CYCLE context: the gap test, the re-entry check, and the resume (R166). -/
def State.popCycle (s : State) (b : Slot) (sub : CycleSub) (h : Hole) (d : Nat) : State :=
  let far := s.params.movedFar d
  let h' := (h.addMoved d).noteMoved far
  let s1 := s.setBoom b { (s.boom b).gapTested h.phase with auto := .cycle sub h' }
  if h.reentryRaises far then ((s1.raise b [.movedWhileAway]).stopInPhase b h' .movedWhileAway d).evaluate
  else s1.resume b h'

/-- A popped EXCEPTION context: the moved flag, and the grant down to the fixed-response target (R165). -/
def State.popException (s : State) (b : Slot) (f : ExFrame) (h : Hole) (d : Nat) : State :=
  let h' := (h.addMoved d).noteMoved (s.params.movedFar d)
  let s1 := s.setBoom b { s.boom b with auto := .exception f h' }
  (s1.reduceBoom b (s1.stopTarget f.raisedIn)).evaluate

/-- The level-0 context is active again and makes its request (R165, step 4). -/
def State.popRequest (s : State) (b : Slot) (d : Nat) : State :=
  match (s.boom b).auto with
  | .cycle sub h => s.popCycle b sub h d
  | .exception f h => s.popException b f h d
  | .abandoning _ h => s.abandonGo b (h.addMoved d)
  | .idle => (s.reduceBoom b 0).evaluate
  | .logWait _ => (s.reduceBoom b 0).evaluate
  | .observing _ => (s.reduceBoom b 0).evaluate

/-- The boom with its interventions ended: outputs at rest, the chuck command what the CHUCK output last showed (R164,
R165). -/
def Boom.popped (x : Boom) : Boom := { x.still with manual := none, retract := none, chuck := x.chuckShown }

/-- The pop that makes the level-0 context active (R165). -/
def State.popAuto (s : State) (b : Slot) : State :=
  let d := distance (s.depth b) (s.boom b).awayDepth
  (s.changeBoom b (s.boom b).popped).popRequest b d

/-- The pop that ends a SAFE_RETRACT context: a takeover below it becomes active again, else the level-0 context (R163,
R165). -/
def State.popRetract (s : State) (b : Slot) : State :=
  match (s.boom b).manual with
  | some m =>
    (s.changeBoom b { (s.boom b).still with retract := none, chuck := (s.boom b).chuckShown }).manualRequest b m
  | none => s.popAuto b

end Sys2Proof.Machine
end

