-- ==== Sys2Proof/Machine/ModeControl.lean ====
section
/-! DEFINITION. Mode Control: quiescence and the mode change (R179), and what is settled after every event. -/

namespace Sys2Proof.Machine

/-- A boom's active context is IDLE, its level 0 and its grant 0 (R179). -/
def State.quiet (s : State) (b : Slot) : Bool :=
  decide ((s.boom b).auto = .idle) && decide ((s.boom b).level = 0) && decide (s.grant b = 0)

/-- Every fitted boom is quiescent (R179). -/
def State.quiescent (s : State) : Bool := Slot.all.all (fun b => !s.fits b || s.quiet b)

/-- The mode change itself: the mode, the MODE report, and in RUN the sweep of an asserted retract line (R160, R179). -/
def State.changeMode (s : State) (m : Mode) : State :=
  let s1 := { s with mode := m, requested := none }.queueModeChange
  if m = .run ∧ s1.lineOn = true then s1.sweep else s1

/-- The mode changes when one is requested and every fitted boom is quiescent (R179). -/
def State.settleMode (s : State) : State :=
  match s.requested with
  | some m => if s.quiescent then s.changeMode m else s
  | none => s

/-- What follows every event: a waiting mode change that has become possible (R179), and the memory of what each CHUCK output
shows (R164). -/
def State.settle (s : State) : State := forFitted (fun b t => t.noteChuck b) s.settleMode

end Sys2Proof.Machine
end

