-- ==== Sys2Proof/Machine/Tick.lean ====
section
/-! DEFINITION. The 10 ms tick and what hangs on it: the timers of the booms and the link, the two machine inputs, and the
loader's answers. -/

namespace Sys2Proof.Machine

/-! ## The loader (R59 to R61) -/

/-- LOADER_JAM is taken by a boom in CYCLE (R60, R61). -/
def State.takeJam (s : State) (b : Slot) : State :=
  let s1 := s.setBoom b (s.boom b).cancelLoader
  match (s1.boom b).running with
  | some (_, h) => ((s1.raise b [.loaderJam]).stopInPhase b h .loaderJam 0).evaluate
  | none => s1

/-- The running hole with `f` applied. -/
def Boom.onHole (x : Boom) (f : Hole → Hole) : Boom :=
  match x.running with
  | some (sub, h) => { x with auto := .cycle sub (f h) }
  | none => x

/-- An item is done: a PUSH counts, an INDEX closes the chuck on the bolt (R33, R59, R92). -/
def Boom.itemDone (x : Boom) (cmd : LoaderCmd) : Boom :=
  match cmd with
  | .push => x.cancelLoader.onHole (fun h => { h with loaded := h.loaded + 1 })
  | .index => { x.cancelLoader.onHole (fun h => { h with indexDone := true, chuckReleased := false }) with chuck := .closed }

/-- DONE (R59). -/
def State.takeDone (s : State) (b : Slot) : State :=
  match (s.boom b).handshake with
  | .outstanding cmd _ _ => s.setBoom b ((s.boom b).itemDone cmd)
  | .none => s
  | .reissueDue _ => s

/-- FAULT (R60). -/
def State.takeFault (s : State) (b : Slot) : State :=
  match (s.boom b).handshake with
  | .outstanding cmd attempt _ =>
    if attempt = 1 then s.setBoom b { s.boom b with handshake := .reissueDue cmd } else s.takeJam b
  | .none => s
  | .reissueDue _ => s

/-- The timeout of a loader command, in ms: doubled for an INDEX (R58). -/
def loadLimit (ps : Params) : LoaderCmd → Nat
  | .push => ps.loadTimeout
  | .index => 2 * ps.loadTimeout

/-- The load timeout of a boom, if it is reached (R61). -/
def State.loadTimer (s : State) (b : Slot) : State :=
  match (s.boom b).handshake with
  | .outstanding cmd _ issued =>
    if timerReaches s.clock (some issued) (loadLimit s.params cmd) then s.takeJam b else s
  | .none => s
  | .reissueDue _ => s

/-! ## Starvation (R122) -/

/-- The wait-list entry that is timed: a boom's, in CYCLE, of class CURING or NORMAL. -/
def State.timedEntry (s : State) (b : Slot) : Option WaitEntry :=
  match s.arbiter.entryOf (.boom b) with
  | some e => if e.cls = .urgent then none else some e
  | none => none

/-- The boom's entry timed afresh from the present tick (R122), which `due` says is the one falling due (log entry 2). -/
def State.retime (s : State) (b : Slot) (due : Bool) : State :=
  { s with
    arbiter :=
      { s.arbiter with
        waitList :=
          s.arbiter.waitList.map fun e =>
            if e.requester = .boom b then { e with waitStart := s.clock, waitAhead := due } else e } }

/-- FLOW_STARVED is raised: masked, the wait is timed afresh and the starve count rises; enabled, the boom stops (R122). -/
def State.takeStarved (s : State) (b : Slot) (h : Hole) (waited : Nat) (due : Bool) : State :=
  match s.stopCause b [.flowStarved] with
  | some c => ((s.raise b [.flowStarved]).stopInPhase b h c (10 * waited)).evaluate
  | none =>
    let s1 := (s.raise b [.flowStarved]).retime b due
    s1.setBoom b ((s1.boom b).onHole (fun g => { g with starves := countUp16 g.starves }))

/-- The starvation count of a boom (R122), at a tick or, as `due` says, at the one falling due. -/
def State.starveTimer (s : State) (b : Slot) (due : Bool) : State :=
  match (s.boom b).running, s.timedEntry b with
  | some (_, h), some e =>
    if timerReaches s.clock (some e.waitStart) s.params.waitLimit then
      s.takeStarved b h (ticksSince s.clock e.waitStart) due
    else s
  | _, _ => s

/-! ## The manual hold (R156) -/

/-- The manual hold timer counts one tick, and at MANUAL_HOLD feed and rotation fall to 0 and it stops (R156). -/
def Boom.holdTick (x : Boom) (ps : Params) : Boom :=
  match x.manual with
  | some m =>
    match m.hold with
    | some n => if ticksReach (n + 1) ps.manualHold then x.stopManual m else { x with manual := some { m with hold := some (n + 1) } }
    | none => x
  | none => x

/-- The manual hold timer of a boom whose active context is MANUAL (R156). -/
def State.manualTimer (s : State) (b : Slot) : State :=
  match (s.boom b).retract with
  | some _ => s
  | none => s.setBoom b ((s.boom b).holdTick s.params)

/-! ## The gel limit (R96) -/

/-- The hole with the gel limit marked when its resin age has reached it (R96). -/
def Hole.gelTick (h : Hole) (now : Tick) : Hole := { h with gelReached := h.gelPassed now }

/-- The gel limit of a boom's CYCLE or EXCEPTION context, wherever it lies (R42, R96). -/
def State.gelTimer (s : State) (b : Slot) : State :=
  match (s.boom b).auto with
  | .cycle sub h => s.setBoom b { s.boom b with auto := .cycle sub (h.gelTick s.clock) }
  | .exception f h => s.setBoom b { s.boom b with auto := .exception f (h.gelTick s.clock) }
  | _ => s

/-! ## Link silence (R142, R157, R194) -/

/-- The silence reaches a boom: CYCLE in ACTIVE or RE_ENGAGE stops, MANUAL is stopped in place (R142, R157). The arbiter looks
when every boom has been reached. -/
def State.silenceBoom (s : State) (b : Slot) : State :=
  match (s.boom b).retract, (s.boom b).manual, (s.boom b).auto with
  | none, some m, _ => s.setBoom b ((s.boom b).stopManual m)
  | none, none, .cycle .active h => (s.raise b [.linkSilent]).stopInPhase b h .linkSilent 0
  | none, none, .cycle .reEngage h => (s.raise b [.linkSilent]).stopInPhase b h .linkSilent 0
  | _, _, _ => s

/-- The link-silent state is entered (R194): the condition is raised for every boom that moves at that moment (R142), and then
the flow they gave back is handed out. -/
def State.enterSilence (s : State) : State :=
  (forFitted (fun b t => t.silenceBoom b) { s with link := { s.link with silent := true } }).evaluate

/-- The link-silence timer counts one tick; it stands still in the silent state (R194). -/
def State.silenceTick (s : State) : State :=
  if s.link.silent then s else { s with link := { s.link with silenceTicks := s.link.silenceTicks + 1 } }

/-- The link-silence timer has reached LINK_SILENCE, which is not 0 (R194). -/
def State.silenceDue (s : State) : Bool :=
  !s.link.silent && decide (s.params.linkSilence ≠ 0) && ticksReach s.link.silenceTicks s.params.linkSilence

/-- The link-silence timer at a tick (R194). -/
def State.silenceTimer (s : State) : State :=
  let s1 := s.silenceTick
  if s1.silenceDue then s1.enterSilence else s1

/-! ## The machine inputs (R57, R160) -/

/-- The retract line as read: an assertion makes the sweep in RUN, and none is counted at the first tick (R160). -/
def State.readLine (s : State) (level : Bool) : State :=
  let s1 := { s with retractLine := some level }
  if s.retractLine = some false ∧ level = true ∧ s.mode = .run then s1.sweep else s1

/-- A drive-enable fall that is read reaches a boom as the sample that carries it does (R47, R57, R141, R157, R162). DESIGN
CHOICE: a reading that is a command of its own stamps its frames and wait entries with the run clock as it stands, the last
tick's (log entry 3). -/
def State.driveFell (s : State) (b : Slot) : State :=
  match (s.boom b).retract, (s.boom b).manual, (s.boom b).auto with
  | some r, _, _ =>
    match r.sub with
    | .active => s.moveRetract b r
    | _ => s
  | none, some m, _ => s.setBoom b ((s.boom b).stopManual m)
  | none, none, .cycle .active h => ((s.raise b [.driveLost]).stopInPhase b h .driveLost 0).evaluate
  | none, none, .cycle .reEngage h => ((s.raise b [.driveLost]).stopInPhase b h .driveLost 0).evaluate
  | none, none, .abandoning .active h => s.moveAbandon b h
  | none, none, _ => s

/-- A drive-enable return that is read: DRIVE_HELD retracts become ACTIVE with a new retract motion (R47, R57, R162). -/
def State.driveCame (s : State) (b : Slot) : State :=
  match (s.boom b).retract, (s.boom b).manual, (s.boom b).auto with
  | some r, _, _ =>
    match r.sub with
    | .driveHeld => s.moveRetract b r
    | _ => s
  | none, none, .abandoning .driveHeld h => s.moveAbandon b h
  | _, _, _ => s

/-! ## The tick -/

/-- One boom's sample with what is settled after it (R49, R179). -/
def State.sampleAndSettle (rs : Four (Quad Reading)) (b : Slot) (s : State) : State := (s.boomSample b (rs.get b)).settle

/-- The timers of one boom that no sample advances: load timeout, starvation, manual hold and gel limit. -/
def State.boomTimers (b : Slot) (s : State) : State := (((s.loadTimer b).starveTimer b false).manualTimer b).gelTimer b

/-- The run clock rises by one and drive-enable is read (R57, R186). -/
def State.startTick (s : State) (drive : Bool) : State :=
  { s with clock := s.clock + 1, drive := some drive, driveLine := some drive, arbiter := s.arbiter.tickComes }

/-- SAMPLE_TICK: the clock, each fitted boom's sample in slot order, the other timers, the link-silence timer and the retract
line (R49, R160, R186, R194; log entry 4). -/
def State.tick (s : State) (drive line : Bool) (rs : Four (Quad Reading)) : State :=
  let s1 := forFitted (State.sampleAndSettle rs) (s.startTick drive)
  let s2 := forFitted State.boomTimers s1
  (s2.silenceTimer.readLine line).settle

end Sys2Proof.Machine
end

