-- ==== Sys2Proof/Machine/Layout.lean ====
section
/-! DEFINITION. The byte layouts of replies, reports and records (12_record_and_frame_layouts.md). -/

namespace Sys2Proof.Machine

/-! ## Codes (R200) -/

/-- Mode codes (R200). -/
def Mode.code : Mode → Nat
  | .config => 0
  | .run => 1
  | .observe => 2

/-- A requested mode: 0xFF for none (R196). -/
def requestedCode : Option Mode → Nat
  | some m => m.code
  | none => 0xFF

/-- MODE cause codes (R200). -/
def ModeCause.code : ModeCause → Nat
  | .power => 0
  | .restart => 1
  | .change => 2

/-- Frame kind codes (R200). -/
def FrameKind.code : FrameKind → Nat
  | .inPhase => 0
  | .prePhase => 1

/-- Action codes (R200). -/
def Action.code : Action → Nat
  | .resume => 0
  | .retry => 1
  | .setCartridges => 2
  | .abandon => 3

/-- Band class codes (R200). -/
def BandClass.code : BandClass → Nat
  | .collar => 0
  | .void => 1
  | .soft => 2
  | .competent => 3
  | .hard => 4
  | .unknown => 5
  | .unlogged => 6

/-- Grade codes (R200). -/
def Grade.code : Grade → Nat
  | .good => 0
  | .fair => 1
  | .poor => 2

/-- Verdict codes (R200). -/
def Verdict.code : Verdict → Nat
  | .accepted => 0
  | .flagged => 1
  | .rejected => 2
  | .logged => 3

/-- Profile condition codes: 1 OPEN, 2 CLOSED (R200). -/
def ProfileCond.code : ProfileCond → Nat
  | .empty => 0
  | .opened => 1
  | .closed => 2

/-- A bit at a place of a flags byte. -/
def flagBit (on : Bool) (place : Nat) : Nat := if on then 2 ^ place else 0

/-- An optional section: a presence byte, then the part when it is present (R196). -/
def optSection {α : Type} (f : α → List Byte) : Option α → List Byte
  | none => le1 0
  | some a => le1 1 ++ f a

/-- A list: a count byte, then the entries (R196). -/
def listSection {α : Type} (f : α → List Byte) (l : List α) : List Byte := le1 l.length ++ l.flatMap f

/-! ## Recipes and queue entries (R201) -/

/-- The recipe record's 56 bytes (R201). -/
def Recipe.bytes (r : Recipe) : List Byte := r.toList.flatMap le2

/-- A queue entry's 6 or 8 bytes (R201). -/
def QueueEntry.bytes (e : QueueEntry) : List Byte :=
  le2 e.holeId ++ le1 e.recipeSlot ++ le2 e.posTag ++ optSection le2 e.depth

/-! ## Exception frame and BOOM_STATUS (R202) -/

/-- The exception frame's 35 bytes (R202). -/
def ExFrame.bytes (f : ExFrame) : List Byte :=
  le1 (slotNum f.slot) ++ le2 f.holeId ++ le1 f.kind.code ++ le1 f.cause.priority ++ le4 f.current.toNat ++
    le4 f.posted.toNat ++ le1 f.raisedIn.num ++ le1 f.phase.num ++ le2 f.depth ++ le2 f.thrust ++ le2 f.torque ++
    le2 f.speed ++ le2 f.lastSE ++ le2 f.refSE ++ le4 f.time.toNat ++ le4Saturating f.operand

/-- The hole id a boom's level-0 context holds, 0 for none (R192). -/
def Boom.shownHole (x : Boom) : Nat := x.auto.holeId.getD 0

/-- State, phase, sub-state and level, one byte each. -/
def View.bytes (v : View) : List Byte := le1 v.state ++ le1 v.phase ++ le1 v.sub ++ le1 v.level

/-- BOOM_STATUS's 12 bytes (R202). -/
def State.statusBytes (s : State) (b : Slot) : List Byte :=
  let x := s.boom b
  le1 (slotNum b) ++ x.view.bytes ++ le2 (s.grant b) ++ le2 x.shownHole ++ le2 x.depth ++ le1 (flagBit x.overdueShown 0)

/-- A boom block's 20 bytes in the GET_STATUS reply (R204). Before the first tick after a reset it shows the last good values,
0, and no channel out of range (log entry 21). -/
def State.boomBlock (s : State) (b : Slot) : List Byte :=
  let x := s.boom b
  let o := x.outNow
  le1 (slotNum b) ++ x.view.bytes ++ le2 (s.grant b) ++ le2 x.shownHole ++ le2 x.depth ++
    le2 (shownValue x.inForce.thrust x.lastGood.thrust) ++ le2 (shownValue x.inForce.torque x.lastGood.torque) ++
    le2 (shownValue x.inForce.speed x.lastGood.speed) ++ le2 (shownValue x.inForce.position x.lastGood.position) ++
    le1 (flagBit o.thrust 0 + flagBit o.torque 1 + flagBit o.speed 2 + flagBit o.position 3 + flagBit x.overdueShown 4)

/-- The fitted slots, lowest first. -/
def State.fittedSlots (s : State) : List Slot := Slot.all.filter (fun b => s.fits b)

/-- The GET_STATUS reply's figures (R186, R204). -/
def State.deviceStatus (s : State) : List Byte :=
  le1 s.mode.code ++ le1 (requestedCode s.requested) ++ le1 s.restartCause.code ++ le4 s.clock.toNat ++
    le1 (flagBit s.driveOn 0 + flagBit s.lineOn 1) ++ le1 s.log.length ++ le1 s.writers.length ++
    listSection (fun b => s.boomBlock b) s.fittedSlots

/-! ## Bands, profiles and records (R203, R204) -/

/-- A band entry's 26 bytes: with no SE the three SE words are 0 (R203). -/
def Band.bytes (b : Band) : List Byte :=
  let some? := b.seMin.isSome
  le1 b.cls.code ++
    le1 (flagBit b.isPartial 0 + flagBit b.isForced 1 + flagBit b.isSuspect 2 + flagBit b.isMerged 3 + flagBit some? 4) ++
    le4 b.top ++ le4 b.bottom ++ le4 b.count ++ le4 (b.seMin.getD 0) ++ le4 (b.seMax.getD 0) ++
    le4 (if some? then b.mean else 0)

/-- The anchor section's two figures (R203, R204). -/
def Anchor.bytes (a : Anchor) : List Byte := le1 a.percent ++ le1 a.grade.code

/-- The open interval as GET_PROFILE shows it (R204). -/
def Interval.bytes (iv : Interval) : List Byte := le2 iv.start ++ le2 iv.samples ++ le2 iv.drops

/-- The GET_PROFILE reply's figures (R86, R204). -/
def Profile.bytes (p : Profile) : List Byte :=
  le1 p.cond.code ++ le2 p.frontier ++ le2 p.refSE ++ le2 p.lastSE ++ le1 (flagBit p.truncated 0) ++
    optSection Interval.bytes p.interval ++ optSection Anchor.bytes p.anchor ++ listSection Band.bytes p.bands

/-- The resin section (R203). -/
def ResinSection.bytes (r : ResinSection) : List Byte :=
  le1 r.planned ++ le1 r.loaded ++ le4 r.mixRevs ++ le4Saturating r.mixTime ++ le4Saturating r.holdTime ++
    le4Saturating r.ageAtTorque

/-- The tension section (R203). -/
def TensionSection.bytes (t : TensionSection) : List Byte :=
  le4 t.peak ++ le4 t.final ++ le4 t.tension ++ le1 t.retorques

/-- A resolve list entry (R203). -/
def resolveBytes (e : Cond × Action) : List Byte := le1 e.1.priority ++ le1 e.2.code

/-- A phase's code, 0 for none (R196, R200). -/
def phaseCode : Option Phase → Nat
  | some p => p.num
  | none => 0

/-- Four four-byte counts in channel order. -/
def quadBytes (q : Quad Nat) : List Byte := le4 q.thrust ++ le4 q.torque ++ le4 q.speed ++ le4 q.position

/-- A bolt record (R203). -/
def BoltRecord.bytes (r : BoltRecord) : List Byte :=
  le4 r.seq ++ le4 r.holeId ++ le1 (slotNum r.slot) ++ le1 r.recipeSlot ++ le4 r.posTag ++ le1 r.verdict.code ++
    le4 r.start.toNat ++ le4 r.finish.toNat ++ le1 (phaseCode r.endPhase) ++ le4 r.target ++ le4 r.drilled ++
    le1 (flagBit r.truncated 0) ++ le4 r.accrued.toNat ++ le4 r.exceptions ++ le4 r.resolveCount ++ le4 r.takeovers ++
    le4 r.retracts ++ le4 r.movedDistance ++ le4 r.starves ++ quadBytes r.outOfRange ++ optSection Anchor.bytes r.anchor ++
    optSection ResinSection.bytes r.resin ++ optSection TensionSection.bytes r.tension ++
    listSection resolveBytes r.resolves ++ listSection Band.bytes r.bands

/-! ## Flow (R204) -/

/-- Flow class codes (R200). -/
def FlowClass.code : FlowClass → Nat
  | .urgent => 0
  | .curing => 1
  | .normal => 2

/-- A wait entry's 11 bytes (R204). -/
def State.waitBytes (s : State) (e : WaitEntry) : List Byte :=
  le1 e.requester.num ++ le1 e.cls.code ++ le2 e.demand ++ le2 (s.arbiter.grantOf e.requester) ++
    le4Saturating (10 * ticksWaited s.clock e) ++ le1 (flagBit e.backedOff 0)

/-- The GET_FLOW reply's figures; an unfitted slot shows grant 0 (R126, R204). -/
def State.flowBytes (s : State) : List Byte :=
  le2 s.params.pumpCapacity ++ le2 s.free ++
    Slot.all.flatMap (fun b => le2 (if s.fits b then s.grant b else 0)) ++ le2 s.arbiter.reserve ++
    listSection (fun r => le1 r.num) s.arbiter.grantList ++ listSection (fun e => s.waitBytes e) s.arbiter.waitList

/-- The reserve's grant and its entry's demand, 0 for no entry (R123, R125). -/
def State.reserveBytes (s : State) : List Byte := le2 s.arbiter.reserve ++ le2 (s.arbiter.entryDemand .reserve)

end Sys2Proof.Machine
end

