-- ==== Sys2Proof/Machine/PlanRequests.lean ====
section
/-! DEFINITION. The Plan Store's requests (01_recipes_and_planned_holes.md) and the parameter requests (R184). Each answers the
state after it and its reply; a refused one leaves the state as it was (R10). -/

namespace Sys2Proof.Machine

/-- What taking a request gives: the state after it, and the reply. -/
abbrev Answer := State × Reply

/-- A request refused: the state as it was, and the status alone (R190, R191). -/
def State.refuse (s : State) (st : Status) : Answer := (s, Reply.plain st)

/-- A request done whose reply carries its status alone. -/
def State.done (s : State) : Answer := (s, Reply.plain .ok)

/-- A request done, with figures. -/
def State.doneWith (s : State) (figures : List Byte) : Answer := (s, { status := .ok, figures := figures })

/-- The fitted slot a boom argument names (R19). -/
def State.slotOf (s : State) (boom : Byte) : Option Slot :=
  match slotOfNum boom.toNat with
  | some b => if s.fits b then some b else none
  | none => none

/-! ## Recipes -/

/-- The recipe slot a slot argument names, 0..15 (R3). -/
def recipeIndex (slot : Byte) : Option (Fin 16) := if h : slot.toNat < 16 then some ⟨slot.toNat, h⟩ else none

/-- The recipe a slot holds. -/
def State.recipeAt (s : State) (i : Fin 16) : Option Recipe := s.recipes[i]

/-- The state with a recipe slot replaced. -/
def State.setRecipe (s : State) (i : Fin 16) (r : Option Recipe) : State := { s with recipes := s.recipes.set i r }

/-- LOAD_RECIPE (R5, R6). -/
def reqLoadRecipe (slot : Byte) (fields : List Half) (s : State) : Answer :=
  if s.mode ≠ .config then s.refuse .refusedMode
  else
    match recipeIndex slot with
    | none => s.refuse .badArg
    | some i =>
      let sent := fields.map BitVec.toNat
      let kept := Recipe.clampFields sent
      match Recipe.ofList kept with
      | none => s.refuse .badArg
      | some r =>
        if r.related then
          (s.setRecipe i (some r), { status := if kept = sent then .ok else .clamped, figures := r.bytes })
        else s.refuse .badArg

/-- A queue entry of some queue names the recipe slot (R7). -/
def State.recipeNamed (s : State) (i : Nat) : Bool :=
  Slot.all.any (fun b => (s.queues.get b).any (fun e => decide (e.recipeSlot = i)))

/-- CLEAR_RECIPE (R7). -/
def reqClearRecipe (slot : Byte) (s : State) : Answer :=
  if s.mode ≠ .config then s.refuse .refusedMode
  else
    match recipeIndex slot with
    | none => s.refuse .badArg
    | some i =>
      match s.recipeAt i with
      | none => s.refuse .already
      | some _ => if s.recipeNamed i.val then s.refuse .inUse else (s.setRecipe i none).done

/-- GET_RECIPE (R8). -/
def reqGetRecipe (slot : Byte) (s : State) : Answer :=
  match recipeIndex slot with
  | none => s.refuse .badArg
  | some i =>
    match s.recipeAt i with
    | none => s.refuse .empty
    | some r => s.doneWith r.bytes

/-! ## Queues -/

/-- The id stands in an entry of a queue (R13). -/
def State.idQueued (s : State) (id : Nat) : Bool :=
  Slot.all.any (fun b => (s.queues.get b).any (fun e => decide (e.holeId = id)))

/-- The id is held by an unfinished hole, its context active or on a stack (R13). -/
def State.idInHole (s : State) (id : Nat) : Bool := Slot.all.any (fun b => decide ((s.boom b).auto.holeId = some id))

/-- The id is held (R13). -/
def State.idHeld (s : State) (id : Nat) : Bool := s.idQueued id || s.idInHole id

/-- A depth override brought into [E, 3000] mm (R12). -/
def clampOverride (e d : Nat) : Nat := clampTo e 3000 d

/-- The override a QUEUE_HOLE carries: its presence byte must be 0 or 1 and agree with the payload's length (R197). -/
def overrideEncoded (presence : Byte) (override : Option Half) : Bool :=
  match override with
  | none => decide (presence = 0)
  | some _ => decide (presence = 1)

/-- A boom's queue with an entry at its tail (R9). -/
def State.enqueue (s : State) (b : Slot) (e : QueueEntry) : State :=
  { s with queues := s.queues.set b (s.queues.get b ++ [e]) }

/-- The recipe that a recipe slot argument names, when the slot is 0..15 and holds one (R11). -/
def State.recipeOf (s : State) (slot : Byte) : Option Recipe :=
  match recipeIndex slot with
  | none => none
  | some i => s.recipeAt i

/-- QUEUE_HOLE (R11, R12). The presence byte is checked after the five checks, where the override is treated (log
entry 10). -/
def reqQueueHole (boom : Byte) (holeId : Half) (slot : Byte) (posTag : Half) (presence : Byte) (override : Option Half)
    (s : State) : Answer :=
  match s.slotOf boom with
  | none => s.refuse .badArg
  | some b =>
    if holeId = 0 then s.refuse .badArg
    else
      match s.recipeOf slot with
      | none => s.refuse .badArg
      | some r =>
        if Config.queueSize ≤ (s.queues.get b).length then s.refuse .full
        else if s.idHeld holeId.toNat then s.refuse .duplicate
        else if overrideEncoded presence override then
          let kept := override.map (fun d => clampOverride r.encapsulation d.toNat)
          let e : QueueEntry :=
            { holeId := holeId.toNat, recipeSlot := slot.toNat, posTag := posTag.toNat, depth := kept }
          let t := s.enqueue b e
          (t, { status := if kept = override.map BitVec.toNat then .ok else .clamped,
                figures := le1 (t.queues.get b).length })
        else s.refuse .badArg

/-- The queues without the entry of an id (R14). -/
def State.dropEntry (s : State) (id : Nat) : State :=
  let cut := fun (q : List QueueEntry) => q.filter (fun e => decide (e.holeId ≠ id))
  { s with queues := { b1 := cut s.queues.b1, b2 := cut s.queues.b2, b3 := cut s.queues.b3, b4 := cut s.queues.b4 } }

/-- CANCEL_HOLE (R14). -/
def reqCancelHole (holeId : Half) (s : State) : Answer :=
  if holeId = 0 then s.refuse .badArg
  else if s.idQueued holeId.toNat then (s.dropEntry holeId.toNat).done
  else if s.idInHole holeId.toNat then s.refuse .refusedState
  else s.refuse .notFound

/-- FLUSH_QUEUE (R15). -/
def reqFlushQueue (boom : Byte) (s : State) : Answer :=
  match s.slotOf boom with
  | none => s.refuse .badArg
  | some b =>
    if s.queues.get b = [] then s.refuse .empty
    else ({ s with queues := s.queues.set b [] }, { status := .ok, figures := le1 (s.queues.get b).length })

/-- GET_QUEUE (R16). -/
def reqGetQueue (boom : Byte) (s : State) : Answer :=
  match s.slotOf boom with
  | none => s.refuse .badArg
  | some b => s.doneWith (listSection QueueEntry.bytes (s.queues.get b))

/-! ## Parameters (R184) -/

/-- The nearest of 10, 20, 25 and 50, halfway values going to the larger (R184). -/
def nearestStep (v : Int) : Nat := if v < 15 then 10 else if v < 23 then 20 else if v < 38 then 25 else 50

/-- A value brought into a range. -/
def clampInt (lo hi : Nat) (v : Int) : Nat := if v < lo then lo else if (hi : Int) < v then hi else v.toNat

/-- The value a parameter's kind makes of the one sent; none where it is refused (R184). -/
def ParamKind.treat (k : ParamKind) (v : Int) : Option Nat :=
  match k with
  | .numeric lo hi => some (clampInt lo hi v)
  | .stepped => some (nearestStep v)
  | .zeroOrRange lo hi => if v ≤ 0 then some 0 else some (clampInt lo hi v)
  | .policy => if 0 ≤ v ∧ v ≤ 2 then some v.toNat else none
  | .slots => if 1 ≤ v ∧ v ≤ 15 then some v.toNat else none

/-- The ordering checks, made with the value in place (R184). -/
def Params.ordered (ps : Params) : Bool :=
  decide (ps.voidPct < ps.softPct) && decide (ps.softPct < 100) && decide (100 < ps.hardPct) &&
    decide (ps.anchorFairPct ≤ ps.anchorGoodPct)

/-- The value stored for a parameter: PUMP_CAPACITY is raised to the reserve's grant (R110). -/
def State.storedValue (s : State) (p : ParamId) (v : Nat) : Nat :=
  match p with
  | .pumpCapacity => max v s.arbiter.reserve
  | _ => v

/-- A slot added to or removed from FITTED_BOOMS: its queue empty, its boom as after a reset, its report slots empty (R19,
R48, R63, R87, R151, R167, R192). -/
def State.clearSlot (s : State) (b : Slot) : State :=
  { s with
    queues := s.queues.set b []
    booms := s.booms.set b Boom.fresh
    link :=
      { s.link with boomStatus := s.link.boomStatus.set b false, exceptionReport := s.link.exceptionReport.set b none } }

/-- The slots whose place in FITTED_BOOMS has changed are cleared (R19). -/
def State.refit (s : State) (old : Params) : State :=
  forSlots (fun b t => if old.fits b = s.params.fits b then t else t.clearSlot b) s

/-- What a stored parameter brings about at once: a change of FITTED_BOOMS and of PUMP_CAPACITY (R19, R110). -/
def State.storeParam (s : State) (p : ParamId) (v : Nat) : State :=
  let t := { s with params := s.params.set p v }
  match p with
  | .fittedBooms => t.refit s.params
  | .pumpCapacity => t.evaluate
  | _ => t

/-- SET_PARAM (R110, R184). -/
def reqSetParam (id : Byte) (value : Word) (s : State) : Answer :=
  if s.mode ≠ .config then s.refuse .refusedMode
  else
    match ParamId.ofCode id.toNat with
    | none => s.refuse .badArg
    | some p =>
      match p.kind.treat value.toInt with
      | none => s.refuse .badArg
      | some v0 =>
        let v := s.storedValue p v0
        if (s.params.set p v).ordered then
          (s.storeParam p v, { status := if (v : Int) = value.toInt then .ok else .clamped, figures := le4 v })
        else s.refuse .badArg

/-- GET_PARAM (R184). -/
def reqGetParam (id : Byte) (s : State) : Answer :=
  match ParamId.ofCode id.toNat with
  | none => s.refuse .badArg
  | some p => s.doneWith (le4 (s.params.get p))

end Sys2Proof.Machine
end

