-- ==== Sys2Proof/Machine/CycleRequests.lean ====
section
/-! DEFINITION. The requests that start, stop and resolve a hole: GO (R35, R36), ABANDON (R45), RESOLVE (R143 to R149),
SET_ENABLES (R130), and the reads GET_FRAME (R140) and GET_PROFILE (R86). -/

namespace Sys2Proof.Machine

/-- The boom is IDLE at level 0 (R35, R181). -/
def Boom.idleAtZero (x : Boom) : Bool := decide (x.auto = .idle) && decide (x.level = 0)

/-- GO (R35, R36). -/
def reqGo (boom : Byte) (s : State) : Answer :=
  match s.slotOf boom with
  | none => s.refuse .badArg
  | some b =>
    if s.mode ≠ .run then s.refuse .refusedMode
    else if s.requested ≠ none then s.refuse .pendingMode
    else if (s.boom b).idleAtZero = false then s.refuse .refusedState
    else if s.lineOn then s.refuse .causePresent
    else if s.driveOn = false then s.refuse .causePresent
    else
      match s.queues.get b with
      | [] => s.refuse .empty
      | e :: rest =>
        match s.recipeOf (BitVec.ofNat 8 e.recipeSlot) with
        | none => s.refuse .badArg
        | some r => (s.startHole b e rest r).done

/-- The hole that ABANDON may give up: that of an active CYCLE or EXCEPTION context at level 0 (R45). -/
def Boom.abandonable (x : Boom) : Option Hole :=
  match x.level, x.auto with
  | 0, .cycle _ h => some h
  | 0, .exception _ h => some h
  | _, _ => none

/-- ABANDON (R45, R46). -/
def reqAbandon (boom : Byte) (s : State) : Answer :=
  match s.slotOf boom with
  | none => s.refuse .badArg
  | some b =>
    match (s.boom b).abandonable with
    | some h => (s.abandonHole b h).done
    | none => s.refuse .refusedState

/-- The bits of a set that names maskable conditions alone: priorities 10 to 17 (R129). -/
def CondSet.maskableBits : Word := 0x1FE00#32

/-- SET_ENABLES (R130, R197). -/
def reqSetEnables (boom : Byte) (set : Word) (s : State) : Answer :=
  match s.slotOf boom with
  | none => s.refuse .badArg
  | some b =>
    if set &&& ~~~CondSet.maskableBits = 0 then
      (s.setBoom b { s.boom b with enabled := set.setWidth 17 }, { status := .ok, figures := le4 set.toNat })
    else s.refuse .badArg

/-! ## RESOLVE -/

/-- The exception a RESOLVE acts on: active, at level 0 (R143). -/
def Boom.resolvable (x : Boom) : Option (ExFrame × Hole) :=
  match x.level, x.auto with
  | 0, .exception f h => some (f, h)
  | _, _ => none

/-- An accepted RESOLVE in the hole's count and list (R143). -/
def Hole.noteResolve (h : Hole) (cause : Cond) (a : Action) : Hole :=
  { h with resolveCount := countUp16 h.resolveCount,
           resolves := if h.resolves.length < 6 then h.resolves ++ [(cause, a)] else h.resolves }

/-- INSERTING or MIXING, the phases in which a released chuck refuses to go on (R33, R146). -/
def Phase.losesBolt : Phase → Bool
  | .inserting => true
  | .mixing => true
  | _ => false

/-- The context's phase is INSERTING or MIXING and its chuck has been released (R146). -/
def Hole.boltLost (h : Hole) : Bool := h.phase.losesBolt && h.chuckReleased

/-- The latest POSITION reading is out of range. -/
def Boom.positionOut (x : Boom) : Bool := x.outNow.position

/-- CAUSE_PRESENT: one of R146's tests holds. -/
def State.causeStands (s : State) (b : Slot) (f : ExFrame) (h : Hole) : Bool :=
  s.lineOn || (CondSet.has f.current .driveLost && !s.driveOn) ||
    (CondSet.has f.current .positionLost && (s.boom b).positionOut) || h.boltLost

/-- The boom with its posted set emptied (R132). -/
def Boom.clearPosted (x : Boom) : Boom := { x with posted := 0 }

/-- CONTINUE of a PRE_PHASE frame: the posted set is emptied, the gap test made, and the next phase entered (R144). -/
def State.continueNext (s : State) (b : Slot) (h : Hole) : State :=
  (s.setBoom b ((s.boom b).clearPosted.gapTested h.phase)).enterPhase b h h.phase

/-- CONTINUE of an IN_PHASE frame: MIX_SHORT ends MIXING short and enters HOLDING (R98), any other cause resumes the phase
after the gap test (R145). -/
def State.continuePhase (s : State) (b : Slot) (f : ExFrame) (h : Hole) : State :=
  if f.cause = .mixShort then s.enterPhase b { h with mixEnd := some f.time } .holding
  else (s.setBoom b ((s.boom b).gapTested h.phase)).resume b h

/-- What CONTINUE does to a frame of either kind. -/
def State.continueFrame (s : State) (b : Slot) (f : ExFrame) (h : Hole) : State :=
  match f.kind with
  | .prePhase => s.continueNext b h
  | .inPhase => s.continuePhase b f h

/-- RESOLVE CONTINUE on a frame (R144 to R146). -/
def resolveContinueOn (b : Slot) (f : ExFrame) (h : Hole) (s : State) : Answer :=
  if s.causeStands b f h then s.refuse .causePresent
  else (s.continueFrame b f (h.noteResolve f.cause .resume)).done

/-- The three kinds of frame a RETRY is legal on (R147). -/
inductive RetryKind where
  | loader | mix | retorque
  deriving DecidableEq, Repr

/-- The kind of RETRY a frame allows (R106, R147). -/
def ExFrame.retryKind (f : ExFrame) : Option RetryKind :=
  match f.kind with
  | .inPhase =>
    match f.cause with
    | .loaderJam => some .loader
    | .mixShort => some .mix
    | _ => none
  | .prePhase => if CondSet.has f.posted .underTension then some .retorque else none

/-- TOO_LATE: the gel limit or the retorque limit has passed (R96, R106, R147). -/
def Hole.retryTooLate (h : Hole) (now : Tick) : RetryKind → Bool
  | .loader => false
  | .mix => h.gelPassed now
  | .retorque => decide (2 ≤ h.retorques)

/-- What an accepted RETRY does (R97, R105, R147). -/
def State.retryFrame (s : State) (b : Slot) (h : Hole) : RetryKind → State
  | .loader => s.resume b h
  | .mix => s.resume b { h with mixSum := 0, mixStart := none }
  | .retorque =>
    (s.setBoom b (s.boom b).clearPosted).enterPhase b { h with retorques := h.retorques + 1 } .torquing

/-- RESOLVE RETRY on a frame (R106, R147). -/
def resolveRetryOn (b : Slot) (f : ExFrame) (h : Hole) (s : State) : Answer :=
  match f.retryKind with
  | none => s.refuse .refusedState
  | some k =>
    if h.retryTooLate s.clock k then s.refuse .tooLate
    else if s.lineOn || h.boltLost then s.refuse .causePresent
    else (s.retryFrame b (h.noteResolve f.cause .retry) k).done

/-- The frame is PRE_PHASE with POOR_ANCHOR or SHORT_RESIN in its posted set (R148). -/
def ExFrame.setsCartridges (f : ExFrame) : Bool :=
  decide (f.kind = .prePhase) && (CondSet.has f.posted .poorAnchor || CondSet.has f.posted .shortResin)

/-- RESOLVE SET_CARTRIDGES on a frame (R148). -/
def resolveCartridgesOn (n : Nat) (b : Slot) (f : ExFrame) (h : Hole) (s : State) : Answer :=
  if f.setsCartridges = false then s.refuse .refusedState
  else if n < 1 ∨ 6 < n then s.refuse .badArg
  else if s.causeStands b f h then s.refuse .causePresent
  else (s.continueFrame b f { h.noteResolve f.cause .setCartridges with planned := some n }).done

/-- RESOLVE ABANDON on a frame (R149). -/
def resolveAbandonOn (b : Slot) (f : ExFrame) (h : Hole) (s : State) : Answer :=
  (s.abandonHole b (h.noteResolve f.cause .abandon)).done

/-- An action with its value, when the value is present as it should be (R143, check 2). -/
def actionWith (action : Byte) (value : Option Byte) : Option (Action × Nat) :=
  match Action.ofCode action.toNat, value with
  | some .setCartridges, some n => some (.setCartridges, n.toNat)
  | some .setCartridges, none => none
  | some a, none => some (a, 0)
  | _, _ => none

/-- The action's own checks and effect (R143, check 4). -/
def resolveOn (a : Action) (n : Nat) (b : Slot) (f : ExFrame) (h : Hole) (s : State) : Answer :=
  match a with
  | .resume => resolveContinueOn b f h s
  | .retry => resolveRetryOn b f h s
  | .setCartridges => resolveCartridgesOn n b f h s
  | .abandon => resolveAbandonOn b f h s

/-- RESOLVE (R143). -/
def reqResolve (boom action : Byte) (value : Option Byte) (s : State) : Answer :=
  match s.slotOf boom with
  | none => s.refuse .badArg
  | some b =>
    match actionWith action value with
    | none => s.refuse .badArg
    | some (a, n) =>
      match (s.boom b).resolvable with
      | none => s.refuse .refusedState
      | some (f, h) => resolveOn a n b f h s

/-! ## Reads -/

/-- GET_FRAME: the stacked mark, then the frame (R140, R202). -/
def reqGetFrame (boom : Byte) (s : State) : Answer :=
  match s.slotOf boom with
  | none => s.refuse .badArg
  | some b =>
    match (s.boom b).auto with
    | .exception f _ => s.doneWith (le1 (if (s.boom b).level = 0 then 0 else 1) ++ f.bytes)
    | _ => s.refuse .empty

/-- GET_PROFILE (R86). -/
def reqGetProfile (boom : Byte) (s : State) : Answer :=
  match s.slotOf boom with
  | none => s.refuse .badArg
  | some b =>
    match (s.boom b).profile.cond with
    | .empty => s.refuse .empty
    | _ => s.doneWith (s.boom b).profile.bytes

end Sys2Proof.Machine
end

