-- ==== Sys2Proof/Machine/BoomRequests.lean ====
section
/-! DEFINITION. The requests of the Intervention Unit (08_interventions.md), the Flow Arbiter (R123, R124, R126), the Record
Log (R173, R174), the marks of OBSERVE (R181, R183), and Mode Control (R178, R185, R186). -/

namespace Sys2Proof.Machine

/-! ## Interventions -/

/-- TAKEOVER (R154). -/
def reqTakeover (boom : Byte) (s : State) : Answer :=
  match s.slotOf boom with
  | none => s.refuse .badArg
  | some b =>
    if s.mode ≠ .run then s.refuse .refusedMode
    else if (s.boom b).level = 1 then s.refuse .already
    else if (s.boom b).level = 2 then s.refuse .refusedState
    else (s.takeoverBoom b).done

/-- A valve command is in −1000..1000 (R156). -/
def perMille (v : Int) : Bool := decide (-1000 ≤ v) && decide (v ≤ 1000)

/-- The active context is MANUAL (R156, R158). -/
def Boom.activeManual (x : Boom) : Option ManualCtx :=
  match x.retract with
  | some _ => none
  | none => x.manual

/-- What an accepted MANUAL_DRIVE does: driven in READY with drive-enable present, else discarded (R156). -/
def State.manualDrive (s : State) (b : Slot) (m : ManualCtx) (feed rotation : Int) (c : ChuckArg) : State :=
  match m.sub with
  | .ready => if s.driveOn then s.setBoom b ((s.boom b).driveManual m feed rotation c) else s
  | .waitFlow => s

/-- MANUAL_DRIVE (R156). -/
def reqManualDrive (boom : Byte) (feed rotation : Half) (chuck : Byte) (s : State) : Answer :=
  match s.slotOf boom with
  | none => s.refuse .badArg
  | some b =>
    if perMille feed.toInt = false ∨ perMille rotation.toInt = false then s.refuse .badArg
    else
      match ChuckArg.ofCode chuck.toNat with
      | none => s.refuse .badArg
      | some c =>
        match (s.boom b).activeManual with
        | none => s.refuse .refusedState
        | some m => (s.manualDrive b m feed.toInt rotation.toInt c).done

/-- HANDBACK (R158). -/
def reqHandback (boom : Byte) (s : State) : Answer :=
  match s.slotOf boom with
  | none => s.refuse .badArg
  | some b =>
    match (s.boom b).activeManual with
    | none => s.refuse .refusedState
    | some _ => ((s.withdrawBoom b).popAuto b).done

/-- SAFE_RETRACT (R159). -/
def reqSafeRetract (boom : Byte) (s : State) : Answer :=
  match s.slotOf boom with
  | none => s.refuse .badArg
  | some b =>
    if s.mode ≠ .run then s.refuse .refusedMode
    else if (s.boom b).level = 2 then s.refuse .already
    else (s.startRetract b).done

/-- The active context is SAFE_RETRACT in RETRACTED (R163). -/
def Boom.retracted (x : Boom) : Bool :=
  match x.retract with
  | some r => decide (r.sub = .retracted)
  | none => false

/-- RETRACT_CLEAR (R163). -/
def reqRetractClear (boom : Byte) (s : State) : Answer :=
  match s.slotOf boom with
  | none => s.refuse .badArg
  | some b =>
    if (s.boom b).retracted = false then s.refuse .refusedState
    else if s.lineOn then s.refuse .causePresent
    else (s.popRetract b).done

/-! ## Flow -/

/-- The reserve has an entry in the wait list (R123). -/
def State.reserveWaits (s : State) : Bool := (s.arbiter.entryOf .reserve).isSome

/-- The state with the reserve reduced, its entry withdrawn, and the arbiter evaluated (R115). -/
def State.reduceReserve (s : State) (n : Nat) : State := { s with arbiter := s.arbiter.reduce .reserve n }.evaluate

/-- The reserve's URGENT top-up and the evaluation made in taking RESERVE_FLOW (R116, R125). -/
def State.topUpReserve (s : State) (n : Nat) : State :=
  { s with arbiter := s.arbiter.topUp s.clock .reserve .urgent n }.evaluateInReserve

/-- A RESERVE_FLOW answer: the reserve's grant and its entry's demand as they stand after it (R123). -/
def State.reserveAnswer (s : State) (st : Status) : Answer := (s, { status := st, figures := s.reserveBytes })

/-- RESERVE_FLOW (R123). -/
def reqReserveFlow (amount : Half) (s : State) : Answer :=
  if amount.toNat < 1 ∨ 400 < amount.toNat then s.refuse .badArg
  else
    let a := s.params.effective amount.toNat
    let g := s.arbiter.reserve
    if g < a then
      let t := s.topUpReserve a
      t.reserveAnswer (if t.reserveWaits then .waiting else .ok)
    else if a = g ∧ s.reserveWaits = false then s.reserveAnswer .already
    else (s.reduceReserve a).reserveAnswer .ok

/-- RELEASE_FLOW (R124). -/
def reqReleaseFlow (s : State) : Answer :=
  if s.arbiter.reserve = 0 ∧ s.reserveWaits = false then s.refuse .already
  else (s.reduceReserve 0).done

/-- GET_FLOW (R126). -/
def reqGetFlow (s : State) : Answer := s.doneWith s.flowBytes

/-! ## The log -/

/-- FETCH_RECORD (R173). -/
def reqFetchRecord (s : State) : Answer :=
  match s.log with
  | [] => s.refuse .empty
  | r :: _ => s.doneWith r.bytes

/-- DROP_RECORD (R174). -/
def reqDropRecord (s : State) : Answer :=
  match s.log with
  | [] => s.refuse .empty
  | r :: rest =>
    let t := { s with log := rest }.admitWriter
    (t, { status := .ok, figures := le2 r.seq ++ le1 t.log.length ++ le1 t.writers.length })

/-! ## Observation (R181, R183) -/

/-- The boom as an observed hole starts on it (R181, R182). -/
def Boom.startObserving (x : Boom) (p : Plan) : Boom := { (x.startHole p.recipe).still with auto := .observing p }

/-- MARK_START (R181). -/
def reqMarkStart (boom : Byte) (holeId : Half) (slot : Byte) (posTag : Half) (s : State) : Answer :=
  match s.slotOf boom with
  | none => s.refuse .badArg
  | some b =>
    if s.mode ≠ .observe then s.refuse .refusedMode
    else if s.requested ≠ none then s.refuse .pendingMode
    else if (s.boom b).idleAtZero = false then s.refuse .refusedState
    else if holeId = 0 then s.refuse .badArg
    else
      match s.recipeOf slot with
      | none => s.refuse .badArg
      | some r =>
        if s.idHeld holeId.toNat then s.refuse .duplicate
        else
          let plan : Plan :=
            { holeId := holeId.toNat, recipeSlot := slot.toNat, posTag := posTag.toNat, recipe := r,
              target := 10 * r.targetDepth, start := s.clock }
          (s.changeBoom b ((s.boom b).startObserving plan)).done

/-- The boom with its observed hole's profile closed and assessed (R183, steps 1 and 2). -/
def Boom.closeObserved (x : Boom) (ps : Params) (p : Plan) : Boom :=
  { x with
    profile := (x.profile.closePartial (strataFigures ps p.recipe)).1.assessed ps p.recipe.encapsulation }

/-- An observed hole ends: its record is assembled and offered (R183). -/
def State.endObserved (s : State) (b : Slot) (p : Plan) : State :=
  let s1 := s.setBoom b ((s.boom b).closeObserved s.params p)
  s1.offerRecord b ((s1.boom b).observedRecord b p s1.clock)

/-- The sequence number a record offered now is given; 0 marks LOG_WAIT (R183; log entry 10). -/
def State.offeredSeq (s : State) : Nat := if s.log.length < Config.logSize then s.nextSeq else 0

/-- The anchor figures of a profile for a reply. -/
def Profile.anchorBytes (p : Profile) : List Byte :=
  match p.anchor with
  | some a => a.bytes
  | none => []

/-- MARK_END (R183). -/
def reqMarkEnd (boom : Byte) (s : State) : Answer :=
  match s.slotOf boom with
  | none => s.refuse .badArg
  | some b =>
    if s.mode ≠ .observe then s.refuse .refusedMode
    else
      match (s.boom b).level, (s.boom b).auto with
      | 0, .observing p =>
        let t := s.endObserved b p
        (t, { status := .ok, figures := (t.boom b).profile.anchorBytes ++ le2 s.offeredSeq })
      | _, _ => s.refuse .refusedState

/-! ## Mode Control -/

/-- GET_STATUS (R186). -/
def reqGetStatus (s : State) : Answer := s.doneWith s.deviceStatus

/-- The current and requested mode, as the SET_MODE reply and the MODE report carry them (R178, R204). -/
def State.modeBytes (s : State) : List Byte := le1 s.mode.code ++ le1 (requestedCode s.requested)

/-- A SET_MODE answer. -/
def State.modeAnswer (s : State) (st : Status) : Answer := (s, { status := st, figures := s.modeBytes })

/-- SET_MODE (R178): the change is made at once when every fitted boom is quiescent, before the reply is formed. -/
def reqSetMode (mode : Byte) (s : State) : Answer :=
  match Mode.ofCode mode.toNat with
  | none => s.refuse .badArg
  | some m =>
    if m = s.mode then
      match s.requested with
      | none => s.modeAnswer .already
      | some _ => { s with requested := none }.modeAnswer .ok
    else { s with requested := some m }.settleMode.modeAnswer .ok

/-- RESTART: the reply is OK, and no further request is taken until it has gone out (R185). -/
def reqRestart (s : State) : Answer := { s with link := { s.link with restarting := true } }.done

end Sys2Proof.Machine
end

