-- ==== Sys2Proof/Machine/Link.lean ====
section
/-! DEFINITION. The Link Unit (11_the_rig_link.md): the frame assembler, the receive buffer, the taking of requests, the reply
and report slots, the transmitter, and the warm restart. -/

namespace Sys2Proof.Machine

/-! ## Requests and replies (R190) -/

/-- The block that owns a request decides it (R190, step 3). -/
def handleRequest (r : Request) (s : State) : Answer :=
  match r with
  | .getStatus => reqGetStatus s
  | .setMode m => reqSetMode m s
  | .restart => reqRestart s
  | .setParam id v => reqSetParam id v s
  | .getParam id => reqGetParam id s
  | .loadRecipe slot fields => reqLoadRecipe slot fields s
  | .clearRecipe slot => reqClearRecipe slot s
  | .getRecipe slot => reqGetRecipe slot s
  | .queueHole b id slot tag presence override => reqQueueHole b id slot tag presence override s
  | .cancelHole id => reqCancelHole id s
  | .flushQueue b => reqFlushQueue b s
  | .getQueue b => reqGetQueue b s
  | .go b => reqGo b s
  | .abandon b => reqAbandon b s
  | .setEnables b w => reqSetEnables b w s
  | .resolve b a v => reqResolve b a v s
  | .getFrame b => reqGetFrame b s
  | .getProfile b => reqGetProfile b s
  | .takeover b => reqTakeover b s
  | .manualDrive b f rot c => reqManualDrive b f rot c s
  | .handback b => reqHandback b s
  | .safeRetract b => reqSafeRetract b s
  | .retractClear b => reqRetractClear b s
  | .reserveFlow n => reqReserveFlow n s
  | .releaseFlow => reqReleaseFlow s
  | .getFlow => reqGetFlow s
  | .fetchRecord => reqFetchRecord s
  | .dropRecord => reqDropRecord s
  | .markStart b id slot tag => reqMarkStart b id slot tag s
  | .markEnd b => reqMarkEnd b s

/-- A taken frame meets the checks of R190 in their order. -/
def handleFrame (f : Frame) (s : State) : Answer :=
  match decodeRequest f.kind f.payload with
  | .unknownKind => s.refuse .unknownKind
  | .badLength => s.refuse .badArg
  | .request r => handleRequest r s

/-- A reply's frame: the request's kind with the top bit set, its tag, the status, and for a status below 8 the figures
(R190). -/
def replyFrame (f : Frame) (r : Reply) : Frame :=
  { kind := f.kind ||| 0x80#8, tag := f.tag, payload := le1 r.status.code ++ (if r.status.code < 8 then r.figures else []) }

/-- The reply slot holds a reply. -/
def State.setReply (s : State) (f : Frame) : State := { s with link := { s.link with reply := some f } }

/-- One waiting frame is taken: its request is decided, what follows the event is settled, and its reply goes into the
slot (R190). -/
def State.takeFrame (s : State) (f : Frame) (rest : List Frame) : State :=
  let a := handleFrame f { s with link := { s.link with waiting := rest } }
  a.1.settle.setReply (replyFrame f a.2)

/-- The oldest waiting frame is taken when the reply slot is empty; none is taken once RESTART has been (R185, R190). -/
def State.takeWaiting (s : State) : State :=
  match s.link.reply, s.link.waiting with
  | none, f :: rest => if s.link.restarting then s else s.takeFrame f rest
  | _, _ => s

/-! ## The transmitter (R192, R193) -/

/-- A report frame: tag 0 (R192). -/
def reportFrame (kind : Byte) (payload : List Byte) : Frame := { kind := kind, tag := 0, payload := payload }

/-- The state with a frame being transmitted. -/
def State.send (s : State) (f : Frame) : State := { s with link := { s.link with sending := some f } }

/-- The reply in the slot starts, and the slot empties. -/
def State.startReply (s : State) (f : Frame) : State := { s with link := { s.link with reply := none } }.send f

/-- A boom's EXCEPTION report starts: its slot empties (R192). -/
def State.startException (s : State) (b : Slot) (f : ExFrame) : State :=
  { s with link := { s.link with exceptionReport := s.link.exceptionReport.set b none } }.send (reportFrame 0x71 f.bytes)

/-- The MODE report starts (R179). -/
def State.startMode (s : State) (c : ModeCause) : State :=
  { s with link := { s.link with modeReport := none } }.send (reportFrame 0x72 (le1 c.code ++ s.modeBytes))

/-- The FLOW_GRANTED report starts (R125). -/
def State.startFlowGranted (s : State) : State :=
  { s with link := { s.link with flowGranted := false } }.send (reportFrame 0x73 s.reserveBytes)

/-- The RECORD_READY report starts (R172). -/
def State.startRecordReady (s : State) : State :=
  { s with link := { s.link with recordReady := false } }.send (reportFrame 0x74 (le1 s.log.length))

/-- A boom's BOOM_STATUS report starts (R192). -/
def State.startStatus (s : State) (b : Slot) : State :=
  { s with link := { s.link with boomStatus := s.link.boomStatus.set b false } }.send (reportFrame 0x70 (s.statusBytes b))

/-- The first boom with a full EXCEPTION slot (R193). -/
def Link.nextException (l : Link) : Option (Slot × ExFrame) :=
  Slot.all.findSome? (fun b => (l.exceptionReport.get b).map (fun f => (b, f)))

/-- The first boom with a full BOOM_STATUS slot (R193). -/
def Link.nextStatus (l : Link) : Option Slot := Slot.all.find? (fun b => l.boomStatus.get b)

/-- The lowest two levels: RECORD_READY, then BOOM_STATUS (R193). -/
def State.startLow (s : State) : State :=
  if s.link.recordReady then s.startRecordReady
  else
    match s.link.nextStatus with
    | some b => s.startStatus b
    | none => s

/-- The report of highest level starts, if any slot is full (R193). -/
def State.startReport (s : State) : State :=
  match s.link.nextException with
  | some (b, f) => s.startException b f
  | none =>
    match s.link.modeReport with
    | some c => s.startMode c
    | none => if s.link.flowGranted then s.startFlowGranted else s.startLow

/-- An idle transmitter starts the next frame: the reply, else a report (R193). -/
def State.startNext (s : State) : State :=
  match s.link.sending with
  | some _ => s
  | none =>
    match s.link.reply with
    | some f => s.startReply f
    | none => s.startReport

/-- What the link does after every event: an idle transmitter starts, a waiting request is taken into an empty reply slot, and
that reply starts at once when the transmitter is still idle (R190, R193). -/
def State.serve (s : State) : State := s.startNext.takeWaiting.startNext.takeWaiting

/-! ## Receiving (R187 to R189) -/

/-- A frame's size on the wire: the payload and seven bytes more (R188). -/
def frameSize (payloadLength : Nat) : Nat := payloadLength + 7

/-- The bytes of the waiting frames. -/
def Link.waitingBytes (l : Link) : Nat := (l.waiting.map (fun f => frameSize f.payload.length)).sum

/-- The space free for a frame (R188). -/
def Link.room (l : Link) : Nat := Config.receiveBytes - l.waitingBytes

/-- The bytes a frame's CRC is computed over (R189, R198). -/
def crcSpan (kind tag : Byte) (payload : List Byte) : List Byte := le2 payload.length ++ kind :: tag :: payload

/-- A frame's bytes on the wire: the marker, the length, kind, tag, payload, and the CRC low byte first (R189, R198). -/
def wireBytes (kind tag : Byte) (payload : List Byte) (crc : Half) : List Byte :=
  0xC3 :: (crcSpan kind tag payload ++ halfBytes crc)

/-- A frame in its envelope, with its own CRC: what the transmitter puts on the wire (R198). -/
def Frame.wire (f : Frame) : List Byte := wireBytes f.kind f.tag f.payload (crc16 (crcSpan f.kind f.tag f.payload))

/-- The bytes going out on the link: those of the frame being transmitted, none from an idle transmitter (R193, R198). -/
def State.wireOut (s : State) : List Byte :=
  match s.link.sending with
  | some f => f.wire
  | none => []

/-- A frame has become valid: silence ends, its timer restarts, the frame joins the waiting ones, and the assembler hunts
(R189). -/
def Link.accept (l : Link) (f : Frame) : Link :=
  { l with assembler := .hunt, silenceTicks := 0, silent := false, waiting := l.waiting ++ [f] }

/-- A frame is dropped without a trace and the assembler hunts (R187 to R189). -/
def Link.discard (l : Link) : Link := { l with assembler := .hunt }

/-- A whole frame's end as the assembler sees it: without room it was counted through, with a bad CRC it is discarded here,
else it is valid (R188, R189). A frame whose length is above 1024 is no whole frame to the assembler, and arrives byte by byte
(`State.frameArrives`). -/
def Link.receiveFrame (l : Link) (kind tag : Byte) (payload : List Byte) (crc : Half) : Link :=
  if l.room < frameSize payload.length then l.discard
  else if crc16 (crcSpan kind tag payload) = crc then l.accept { kind := kind, tag := tag, payload := payload }
  else l.discard

/-- The state with its Link Unit replaced. -/
def State.withLink (s : State) (l : Link) : State := { s with link := l }

/-- The arrival of a valid frame: with room in the buffer it is accepted, else it is lost (R188, R189). -/
def Link.arrive (l : Link) (kind tag : Byte) (payload : List Byte) : Link :=
  l.receiveFrame kind tag payload (crc16 (crcSpan kind tag payload))

/-- A request arrives as a valid frame, and the link serves (R189, R190, R193; log entry 7). -/
def State.requestArrives (s : State) (tag : Byte) (r : Request) : State :=
  (s.withLink (s.link.arrive r.kind tag r.payload)).serve

/-- The payload length the header's first two bytes give (R198). -/
def headerLength (lo hi : Byte) : Nat := (halfOf lo hi).toNat

/-- The assembler after the second length byte (R188). DEDUCED: a frame that fits stays in HEADER until its kind and tag have
come, as R187 gives, where R188 moves it to BODY already (log entry 25). -/
def Link.checkLength (l : Link) (lo hi : Byte) : Link :=
  let n := headerLength lo hi
  if Config.maxPayload < n then l.discard
  else if l.room < frameSize n then { l with assembler := .skip (n + 4) }
  else { l with assembler := .header [lo, hi] }

/-- The assembler with one more header byte (R187). -/
def Link.headerByte (l : Link) (got : List Byte) (b : Byte) : Link :=
  match got with
  | [lo] => l.checkLength lo b
  | [lo, hi] => { l with assembler := .header [lo, hi, b] }
  | [lo, hi, kind] => { l with assembler := .body [lo, hi, kind, b] [] (headerLength lo hi + 2) }
  | _ => { l with assembler := .header [b] }

/-- A body's last byte has come: the payload and the CRC, low byte first, are told apart and checked (R189). -/
def Link.finishBody (l : Link) (header body : List Byte) : Link :=
  match header with
  | [lo, hi, kind, tag] =>
    let payload := body.take (headerLength lo hi)
    match body.drop (headerLength lo hi) with
    | [c0, c1] =>
      if crc16 (lo :: hi :: kind :: tag :: payload) = halfOf c0 c1 then
        l.accept { kind := kind, tag := tag, payload := payload }
      else l.discard
    | _ => l.discard
  | _ => l.discard

/-- The assembler with one more byte of a body (R187). -/
def Link.bodyByte (l : Link) (header got : List Byte) (left : Nat) (b : Byte) : Link :=
  if left ≤ 1 then l.finishBody header (got ++ [b])
  else { l with assembler := .body header (got ++ [b]) (left - 1) }

/-- One byte arrives (R187). -/
def Link.receiveByte (l : Link) (b : Byte) : Link :=
  match l.assembler with
  | .hunt => if b = 0xC3 then { l with assembler := .header [] } else l
  | .header got => l.headerByte got b
  | .body header got left => l.bodyByte header got left b
  | .skip left => if left ≤ 1 then l.discard else { l with assembler := .skip (left - 1) }

/-! ## The warm restart (R185, R195) -/

/-- The warm restart: every block at its RESTART values; the parameter set and the recipe table are kept. The commands waiting
are the model's own. -/
def State.restarted (s : State) : State := { State.afterReset .restart s.params s.recipes with pending := s.pending }

/-- RESTART's reply has gone into the transmitter: it has been taken and its slot is empty again (R185). -/
def Link.restartDue (l : Link) : Bool := l.restarting && l.reply.isNone

/-- The frame being transmitted is out (R193). -/
def State.sent (s : State) : State := { s with link := { s.link with sending := none } }

/-- A frame's transmission ends: after RESTART's own reply the warm restart is made, else the next frame is chosen (R185,
R193). An idle transmitter with a frame queued, which a reset leaves, has begun that frame by the time a frame's end comes (log
entry 8). -/
def State.transmitEnd (s : State) : State :=
  let t := s.startNext
  if t.link.sending.isSome && t.link.restartDue then t.restarted else t.sent.serve

end Sys2Proof.Machine
end

