-- ==== Sys2Proof/Machine/TimedEvents.lean ====
section
/-! DEFINITION. The timer and count events as commands of their own (log entry 2): each belongs to the tick now falling due,
and acts when the timer or count it names is at its limit there; otherwise nothing has happened and nothing changes. -/

namespace Sys2Proof.Machine

/-- What follows an event: the settling, and the link's service. -/
def State.finish (s : State) : State := s.settle.serve

/-- An event of a boom's slot: one of an unfitted slot does not happen (R19). -/
def State.boomEvent (s : State) (b : Slot) (f : State → State) : State := (if s.fits b then f s else s).finish

/-- A timer event of a boom's slot, at the tick falling due. -/
def State.timedEvent (s : State) (b : Slot) (f : State → State) : State := s.boomEvent b (atDueTick f)

/-- An immediate condition without an operand takes the running boom into its exception (R134). -/
def State.stopRunning (s : State) (b : Slot) (h : Hole) (c : Cond) : State :=
  ((s.raise b [c]).stopInPhase b h c 0).evaluate

/-- The hole with one more tick on its stall window (R37). -/
def Hole.stallNext (h : Hole) : Hole := { h with stallTicks := h.stallTicks + 1 }

/-- The stall window reaches STALL_WINDOW at the tick falling due (R37). -/
def State.stallDue (s : State) (b : Slot) : State :=
  match (s.boom b).running with
  | some (.active, h) =>
    match h.stallNext.stallConds s.params with
    | [] => s
    | _ => s.stopRunning b h.stallNext .feedStall
  | _ => s

/-- The hole with one more tick on its retract timer (R38). -/
def Hole.retractNext (h : Hole) : Hole := { h with retractTicks := h.retractTicks + 1 }

/-- The retract timer reaches RETRACT_TIMEOUT in RETRACT_DRILL or RELEASING (R38). -/
def State.retractDue (s : State) (b : Slot) : State :=
  match (s.boom b).running with
  | some (.active, h) =>
    match h.retractNext.retractConds s.params with
    | [] => s
    | _ => s.stopRunning b h.retractNext .retractTimeout
  | _ => s

/-- An abandon retract's timer reaches RETRACT_TIMEOUT: the overdue flag is set and shown (R47). -/
def State.abandonOverdue (s : State) (b : Slot) : State :=
  match (s.boom b).level, (s.boom b).auto with
  | 0, .abandoning .active h =>
    if ticksReach (h.retractTicks + 1) s.params.retractTimeout then
      (s.setBoom b { s.boom b with auto := .abandoning .active { h with overdue := true } }).noteOverdue b h.overdue
    else s
  | _, _ => s

/-- A safety retract's timer reaches RETRACT_TIMEOUT: the overdue flag is set and shown (R162). -/
def State.safeOverdue (s : State) (b : Slot) : State :=
  match (s.boom b).retract with
  | some r =>
    match r.sub with
    | .active =>
      if ticksReach (r.ticks + 1) s.params.retractTimeout then
        (s.setBoom b { s.boom b with retract := some { r with overdue := true } }).noteOverdue b r.overdue
      else s
    | _ => s
  | none => s

/-- The mix window has elapsed at an ACTIVE MIXING boom whose completion test is not met (R95). -/
def State.mixDue (s : State) (b : Slot) : State :=
  match (s.boom b).running with
  | some (.active, h) =>
    if h.phase = .mixing ∧ h.mixDone s.params (s.depth b) = false ∧
        timerReaches s.clock h.mixStart h.plan.recipe.mixTimeMax = true then s.takeMixShort b h
    else s
  | _ => s

/-- The hold timer reaches the gel hold at an ACTIVE HOLDING boom; in any other state it is acted on later (R40, R42). -/
def State.holdDue (s : State) (b : Slot) : State :=
  match (s.boom b).running with
  | some (.active, h) => if h.phase = .holding ∧ h.holdElapsed s.clock = true then s.endHolding b h else s
  | _ => s

/-- The torque timer reaches the torque timeout at an ACTIVE TORQUING boom without a full run (R102). -/
def State.torqueDue (s : State) (b : Slot) : State :=
  match (s.boom b).running with
  | some (.active, h) =>
    if h.phase = .torquing ∧ runFinal h.torqueRun = none ∧
        timerReaches s.clock h.torqueStart h.plan.recipe.torqueTimeout = true then s.takeTorqueTimeout b h
    else s
  | _ => s

/-- The position-loss run count stands at 20 at a boom in ACTIVE or RE_ENGAGE (R52). -/
def State.positionDue (s : State) (b : Slot) : State :=
  match (s.boom b).running with
  | some (.active, h) => if (s.boom b).posLoss = 20 then s.stopRunning b h .positionLost else s
  | some (.reEngage, h) => if (s.boom b).posLoss = 20 then s.stopRunning b h .positionLost else s
  | _ => s

/-- The manual hold timer reaches MANUAL_HOLD (R156). -/
def State.manualDue (s : State) (b : Slot) : State :=
  match (s.boom b).activeManual with
  | some m =>
    match m.hold with
    | some n => if ticksReach (n + 1) s.params.manualHold then s.setBoom b ((s.boom b).stopManual m) else s
    | none => s
  | none => s

/-- The open interval holds its 4095 samples and has not cut its length (R69). -/
def Profile.forcedDue (g : StrataFigures) (p : Profile) : Bool :=
  match p.cond, p.interval with
  | .opened, some iv =>
    decide (Config.maxSamples ≤ iv.samples) && decide (p.frontier < iv.start + 10 * g.interval)
  | _, _ => false

/-- The profile after the forced close, if it is due, and whether a VOID interval closed. The event takes no sample in: the
samples are the tick's (R66, R67). -/
def Profile.forcedClose (g : StrataFigures) (p : Profile) : Profile × Bool :=
  match p.interval with
  | some iv => if p.forcedDue g then p.closeTests g iv else (p, false)
  | none => (p, false)

/-- The open interval of a boom that profiles holds its 4095 samples and closes as FORCED, with VOID_STRUCK in CYCLE when it is
a VOID (R69, R76). -/
def State.intervalDue (s : State) (b : Slot) : State :=
  match (s.boom b).level, (s.boom b).auto with
  | 0, .cycle .active h =>
    if h.phase.drills then
      let r := (s.boom b).profile.forcedClose (strataFigures s.params h.plan.recipe)
      s.setBoom b ({ s.boom b with profile := r.1 }.raise (if r.2 then [Cond.voidStruck] else []))
    else s
  | 0, .observing p =>
    s.setBoom b { s.boom b with profile := ((s.boom b).profile.forcedClose (strataFigures s.params p.recipe)).1 }
  | _, _ => s

/-- The link-silence timer reaches LINK_SILENCE at the tick falling due (R194). -/
def State.silenceExpiry (s : State) : State := if s.silenceTick.silenceDue then s.silenceTick.enterSilence else s

/-- The boom with the loader command on its harness lost; the handshake stands (R57, R62). -/
def Boom.loseCommand (x : Boom) : Boom := { x with loaderOut := none }

/-- The drive-enable input itself changes: the outputs follow at the line, and a fall loses a loader command on the harness.
Nothing else happens before the input is read (R57, R62). -/
def State.setDriveLine (s : State) (level : Bool) : State :=
  let s1 := { s with driveLine := some level }
  if level then s1 else forFitted (fun b t => t.setBoom b (t.boom b).loseCommand) s1

/-- Drive-enable is read at a level. Its first level since a reset, or the level known, is no change (R57). -/
def State.readDrive (s : State) (level : Bool) (reach : Slot → State → State) : State :=
  if s.drive = some (!level) then forFitted reach { s with drive := some level } else s

/-- A fall of drive-enable: of the input, or, when the input has fallen already, the first reading of absent after one of
present (R57; log entry 3). -/
def State.driveFall (s : State) : State :=
  if s.driveLine = some false then s.readDrive false (fun b t => t.driveFell b) else s.setDriveLine false

/-- A return of drive-enable: of the input, or, when the input is back already, the first reading of present after one of absent
(R57; log entry 3). -/
def State.driveReturn (s : State) : State :=
  if s.driveLine = some true then s.readDrive true (fun b t => t.driveCame b) else s.setDriveLine true

/-- An assertion of the retract line: the first reading of asserted after one of inactive (R160). -/
def State.lineAssert (s : State) : State := if s.retractLine = some false then s.readLine true else s

/-- A release of the retract line: the first reading of inactive after one of asserted (R160). -/
def State.lineRelease (s : State) : State := if s.retractLine = some true then s.readLine false else s

end Sys2Proof.Machine
end

