-- ==== Sys2Proof/Machine/ExecEvents.lean ====
section
/-! DEFINITION. The meanings of the resets, the tick, the machine inputs and the loader's answers. -/

namespace Sys2Proof.Machine

/-- POWER_ON: every block at its power-on value (R185). The commands waiting are the model's own. -/
def execPowerOn (s : State) : Host.Outcome State Fault Refusal := .next { State.reset with pending := s.pending }

/-- SAMPLE_TICK (R49, R186). -/
def execSampleTick (drive line : Bool) (rs : Four (Quad Reading)) (s : State) : Host.Outcome State Fault Refusal :=
  .next (s.tick drive line rs).serve

/-- DRIVE_ENABLE_FALL (R57). -/
def execDriveEnableFall (s : State) : Host.Outcome State Fault Refusal := .next s.driveFall.finish

/-- DRIVE_ENABLE_RETURN (R57). -/
def execDriveEnableReturn (s : State) : Host.Outcome State Fault Refusal := .next s.driveReturn.finish

/-- RETRACT_LINE_ASSERT (R160). -/
def execRetractLineAssert (s : State) : Host.Outcome State Fault Refusal := .next s.lineAssert.finish

/-- RETRACT_LINE_RELEASE (R160). -/
def execRetractLineRelease (s : State) : Host.Outcome State Fault Refusal := .next s.lineRelease.finish

/-- LOADER_DONE (R59). -/
def execLoaderDone (b : Slot) (s : State) : Host.Outcome State Fault Refusal :=
  .next (s.boomEvent b (fun t => t.takeDone b))

/-- LOADER_FAULT (R60). -/
def execLoaderFault (b : Slot) (s : State) : Host.Outcome State Fault Refusal :=
  .next (s.boomEvent b (fun t => t.takeFault b))

/-- LOAD_TIMEOUT (R61). -/
def execLoadTimeout (b : Slot) (s : State) : Host.Outcome State Fault Refusal :=
  .next (s.timedEvent b (fun t => t.loadTimer b))

/-- WARM_RESTART: RESTART's reply, being transmitted, is out, and the warm restart is made (R185). At any other moment it does
not happen (log entry 8). -/
def execWarmRestart (s : State) : Host.Outcome State Fault Refusal :=
  .next (if s.link.sending.isSome && s.link.restartDue then s.restarted else s.finish)

end Sys2Proof.Machine
end

