-- ==== Sys2Proof/Machine/ExecLink.lean ====
section
/-! DEFINITION. The meanings of the link's own events. -/

namespace Sys2Proof.Machine

/-- One byte has arrived, and what follows every event (R187). -/
def State.byteArrives (s : State) (byte : Byte) : State := (s.withLink (s.link.receiveByte byte)).finish

/-- A frame whose length field is above 1024 arrives: it is given up at that field, and the assembler hunts from the byte after
it, so that the rest of its bytes are looked at one by one and a marker among them starts a frame (R187, R188). -/
def State.longFrameArrives (s : State) (kind tag : Byte) (payload : List Byte) (crc : Half) : State :=
  (wireBytes kind tag payload crc).foldl State.byteArrives (s.withLink s.link.discard)

/-- FRAME_RECEIVED: a whole frame has come in, its CRC as sent (R188, R189). -/
def execFrameReceived (kind tag : Byte) (payload : List Byte) (crc : Half) (s : State) :
    Host.Outcome State Fault Refusal :=
  .next
    (if Config.maxPayload < payload.length then s.longFrameArrives kind tag payload crc
    else (s.withLink (s.link.receiveFrame kind tag payload crc)).finish)

/-- FRAME_GAP_TIMEOUT: the frame being assembled is discarded (R187). -/
def execFrameGapTimeout (s : State) : Host.Outcome State Fault Refusal := .next (s.withLink s.link.discard).finish

/-- UNKNOWN_KIND: a valid frame arrives whose kind is no request kind (R190). -/
def execUnknownKind (kind tag : Byte) (payload : List Byte) (s : State) : Host.Outcome State Fault Refusal :=
  .next (s.withLink (s.link.arrive kind tag payload)).finish

/-- FRAME_TRANSMIT_END (R185, R193). -/
def execFrameTransmitEnd (s : State) : Host.Outcome State Fault Refusal := .next s.transmitEnd

/-- BYTE_RECEIVED (R187, R188). -/
def execByteReceived (byte : Byte) (s : State) : Host.Outcome State Fault Refusal :=
  .next (s.byteArrives byte)

end Sys2Proof.Machine
end

