-- ==== Sys2Proof/Machine/ExecRequests.lean ====
section
/-! DEFINITION. The meanings of the requests: each arrives as a valid frame with its tag, and the Link Unit takes it as soon as
the reply slot lets it (R189, R190, R193; log entry 7). -/

namespace Sys2Proof.Machine

/-- GET_STATUS (R186). -/
def execGetStatus (tag : Byte) (s : State) : Host.Outcome State Fault Refusal :=
  .next (s.requestArrives tag .getStatus)

/-- SET_MODE (R178). -/
def execSetMode (tag : Byte) (mode : Byte) (s : State) : Host.Outcome State Fault Refusal :=
  .next (s.requestArrives tag (.setMode mode))

/-- RESTART (R185). -/
def execRestart (tag : Byte) (s : State) : Host.Outcome State Fault Refusal :=
  .next (s.requestArrives tag .restart)

/-- SET_PARAM (R184). -/
def execSetParam (tag : Byte) (id : Byte) (value : Word) (s : State) : Host.Outcome State Fault Refusal :=
  .next (s.requestArrives tag (.setParam id value))

/-- GET_PARAM (R184). -/
def execGetParam (tag : Byte) (id : Byte) (s : State) : Host.Outcome State Fault Refusal :=
  .next (s.requestArrives tag (.getParam id))

/-- LOAD_RECIPE (R5, R6). -/
def execLoadRecipe (tag : Byte) (slot : Byte) (fields : List Half) (s : State) : Host.Outcome State Fault Refusal :=
  .next (s.requestArrives tag (.loadRecipe slot fields))

/-- CLEAR_RECIPE (R7). -/
def execClearRecipe (tag : Byte) (slot : Byte) (s : State) : Host.Outcome State Fault Refusal :=
  .next (s.requestArrives tag (.clearRecipe slot))

/-- GET_RECIPE (R8). -/
def execGetRecipe (tag : Byte) (slot : Byte) (s : State) : Host.Outcome State Fault Refusal :=
  .next (s.requestArrives tag (.getRecipe slot))

/-- QUEUE_HOLE (R11, R12): the presence byte is the one that goes with the override (R201). -/
def execQueueHole (tag : Byte) (boom : Byte) (holeId : Half) (slot : Byte) (posTag : Half) (override : Option Half)
    (s : State) : Host.Outcome State Fault Refusal :=
  .next (s.requestArrives tag (.queueHole boom holeId slot posTag (if override.isSome then 1 else 0) override))

/-- CANCEL_HOLE (R14). -/
def execCancelHole (tag : Byte) (holeId : Half) (s : State) : Host.Outcome State Fault Refusal :=
  .next (s.requestArrives tag (.cancelHole holeId))

/-- FLUSH_QUEUE (R15). -/
def execFlushQueue (tag : Byte) (boom : Byte) (s : State) : Host.Outcome State Fault Refusal :=
  .next (s.requestArrives tag (.flushQueue boom))

/-- GET_QUEUE (R16). -/
def execGetQueue (tag : Byte) (boom : Byte) (s : State) : Host.Outcome State Fault Refusal :=
  .next (s.requestArrives tag (.getQueue boom))

/-- GO (R35, R36). -/
def execGo (tag : Byte) (boom : Byte) (s : State) : Host.Outcome State Fault Refusal :=
  .next (s.requestArrives tag (.go boom))

/-- ABANDON (R45, R46). -/
def execAbandon (tag : Byte) (boom : Byte) (s : State) : Host.Outcome State Fault Refusal :=
  .next (s.requestArrives tag (.abandon boom))

/-- SET_ENABLES (R130). -/
def execSetEnables (tag : Byte) (boom : Byte) (set : Word) (s : State) : Host.Outcome State Fault Refusal :=
  .next (s.requestArrives tag (.setEnables boom set))

/-- RESOLVE with action CONTINUE (R143 to R146). -/
def execResolveContinue (tag : Byte) (boom : Byte) (value : Option Byte)
    (s : State) : Host.Outcome State Fault Refusal :=
  .next (s.requestArrives tag (.resolve boom 0 value))

/-- RESOLVE with action RETRY (R143, R147). -/
def execResolveRetry (tag : Byte) (boom : Byte) (value : Option Byte)
    (s : State) : Host.Outcome State Fault Refusal :=
  .next (s.requestArrives tag (.resolve boom 1 value))

/-- RESOLVE with action SET_CARTRIDGES (R143, R148). -/
def execResolveSetCartridges (tag : Byte) (boom : Byte) (value : Option Byte)
    (s : State) : Host.Outcome State Fault Refusal :=
  .next (s.requestArrives tag (.resolve boom 2 value))

/-- RESOLVE with action ABANDON (R143, R149). -/
def execResolveAbandon (tag : Byte) (boom : Byte) (value : Option Byte)
    (s : State) : Host.Outcome State Fault Refusal :=
  .next (s.requestArrives tag (.resolve boom 3 value))

/-- GET_FRAME (R140). -/
def execGetFrame (tag : Byte) (boom : Byte) (s : State) : Host.Outcome State Fault Refusal :=
  .next (s.requestArrives tag (.getFrame boom))

/-- GET_PROFILE (R86). -/
def execGetProfile (tag : Byte) (boom : Byte) (s : State) : Host.Outcome State Fault Refusal :=
  .next (s.requestArrives tag (.getProfile boom))

/-- TAKEOVER (R154). -/
def execTakeover (tag : Byte) (boom : Byte) (s : State) : Host.Outcome State Fault Refusal :=
  .next (s.requestArrives tag (.takeover boom))

/-- MANUAL_DRIVE (R156). -/
def execManualDrive (tag : Byte) (boom : Byte) (feed rotation : Half) (chuck : Byte)
    (s : State) : Host.Outcome State Fault Refusal :=
  .next (s.requestArrives tag (.manualDrive boom feed rotation chuck))

/-- HANDBACK (R158). -/
def execHandback (tag : Byte) (boom : Byte) (s : State) : Host.Outcome State Fault Refusal :=
  .next (s.requestArrives tag (.handback boom))

/-- SAFE_RETRACT (R159). -/
def execSafeRetract (tag : Byte) (boom : Byte) (s : State) : Host.Outcome State Fault Refusal :=
  .next (s.requestArrives tag (.safeRetract boom))

/-- RETRACT_CLEAR (R163). -/
def execRetractClear (tag : Byte) (boom : Byte) (s : State) : Host.Outcome State Fault Refusal :=
  .next (s.requestArrives tag (.retractClear boom))

/-- RESERVE_FLOW (R123). -/
def execReserveFlow (tag : Byte) (amount : Half) (s : State) : Host.Outcome State Fault Refusal :=
  .next (s.requestArrives tag (.reserveFlow amount))

/-- RELEASE_FLOW (R124). -/
def execReleaseFlow (tag : Byte) (s : State) : Host.Outcome State Fault Refusal :=
  .next (s.requestArrives tag .releaseFlow)

/-- GET_FLOW (R126). -/
def execGetFlow (tag : Byte) (s : State) : Host.Outcome State Fault Refusal :=
  .next (s.requestArrives tag .getFlow)

/-- FETCH_RECORD (R173). -/
def execFetchRecord (tag : Byte) (s : State) : Host.Outcome State Fault Refusal :=
  .next (s.requestArrives tag .fetchRecord)

/-- DROP_RECORD (R174). -/
def execDropRecord (tag : Byte) (s : State) : Host.Outcome State Fault Refusal :=
  .next (s.requestArrives tag .dropRecord)

/-- MARK_START (R181). -/
def execMarkStart (tag : Byte) (boom : Byte) (holeId : Half) (slot : Byte) (posTag : Half)
    (s : State) : Host.Outcome State Fault Refusal :=
  .next (s.requestArrives tag (.markStart boom holeId slot posTag))

/-- MARK_END (R183). -/
def execMarkEnd (tag : Byte) (boom : Byte) (s : State) : Host.Outcome State Fault Refusal :=
  .next (s.requestArrives tag (.markEnd boom))

end Sys2Proof.Machine
end

