-- ==== Sys2Proof/Machine/ExecTimed.lean ====
section
/-! DEFINITION. The meanings of the timer and count events (log entry 2). -/

namespace Sys2Proof.Machine

/-- FEED_STALL (R37). -/
def execFeedStall (b : Slot) (s : State) : Host.Outcome State Fault Refusal :=
  .next (s.timedEvent b (fun t => t.stallDue b))

/-- RETRACT_TIMEOUT (R38). -/
def execRetractTimeout (b : Slot) (s : State) : Host.Outcome State Fault Refusal :=
  .next (s.timedEvent b (fun t => t.retractDue b))

/-- ABANDON_RETRACT_OVERDUE (R47). -/
def execAbandonRetractOverdue (b : Slot) (s : State) : Host.Outcome State Fault Refusal :=
  .next (s.timedEvent b (fun t => t.abandonOverdue b))

/-- SAFE_RETRACT_OVERDUE (R162). -/
def execSafeRetractOverdue (b : Slot) (s : State) : Host.Outcome State Fault Refusal :=
  .next (s.timedEvent b (fun t => t.safeOverdue b))

/-- MIX_SHORT (R95). -/
def execMixShort (b : Slot) (s : State) : Host.Outcome State Fault Refusal :=
  .next (s.timedEvent b (fun t => t.mixDue b))

/-- HOLD_TIMER_ELAPSED (R40). -/
def execHoldTimerElapsed (b : Slot) (s : State) : Host.Outcome State Fault Refusal :=
  .next (s.timedEvent b (fun t => t.holdDue b))

/-- TORQUE_TIMEOUT (R102). -/
def execTorqueTimeout (b : Slot) (s : State) : Host.Outcome State Fault Refusal :=
  .next (s.timedEvent b (fun t => t.torqueDue b))

/-- GEL_LIMIT_REACHED (R96). -/
def execGelLimitReached (b : Slot) (s : State) : Host.Outcome State Fault Refusal :=
  .next (s.timedEvent b (fun t => t.gelTimer b))

/-- POSITION_LOST (R52). -/
def execPositionLost (b : Slot) (s : State) : Host.Outcome State Fault Refusal :=
  .next (s.timedEvent b (fun t => t.positionDue b))

/-- FLOW_STARVED (R122). -/
def execFlowStarved (b : Slot) (s : State) : Host.Outcome State Fault Refusal :=
  .next (s.timedEvent b (fun t => t.starveTimer b true))

/-- MANUAL_HOLD_EXPIRY (R156). -/
def execManualHoldExpiry (b : Slot) (s : State) : Host.Outcome State Fault Refusal :=
  .next (s.timedEvent b (fun t => t.manualDue b))

/-- INTERVAL_FORCED_CLOSE (R69). -/
def execIntervalForcedClose (b : Slot) (s : State) : Host.Outcome State Fault Refusal :=
  .next (s.timedEvent b (fun t => t.intervalDue b))

/-- LINK_SILENT (R194). -/
def execLinkSilent (s : State) : Host.Outcome State Fault Refusal :=
  .next (atDueTick State.silenceExpiry s).finish

end Sys2Proof.Machine
end

