-- ==== Sys2Proof/Machine/Dispatch.lean ====
section
/-! DEFINITION. The dispatch: one arm for each command, one direct call of its meaning. -/

namespace Sys2Proof.Machine

def exec (i : Instr) (s : State) : Host.Outcome State Fault Refusal :=
  match i with
  | .powerOn => Sys2Proof.Machine.execPowerOn s
  | .sampleTick drive line rs => Sys2Proof.Machine.execSampleTick drive line rs s
  | .driveEnableFall => Sys2Proof.Machine.execDriveEnableFall s
  | .driveEnableReturn => Sys2Proof.Machine.execDriveEnableReturn s
  | .retractLineAssert => Sys2Proof.Machine.execRetractLineAssert s
  | .retractLineRelease => Sys2Proof.Machine.execRetractLineRelease s
  | .loaderDone b => Sys2Proof.Machine.execLoaderDone b s
  | .loaderFault b => Sys2Proof.Machine.execLoaderFault b s
  | .loadTimeout b => Sys2Proof.Machine.execLoadTimeout b s
  | .feedStall b => Sys2Proof.Machine.execFeedStall b s
  | .retractTimeout b => Sys2Proof.Machine.execRetractTimeout b s
  | .abandonRetractOverdue b => Sys2Proof.Machine.execAbandonRetractOverdue b s
  | .safeRetractOverdue b => Sys2Proof.Machine.execSafeRetractOverdue b s
  | .mixShort b => Sys2Proof.Machine.execMixShort b s
  | .holdTimerElapsed b => Sys2Proof.Machine.execHoldTimerElapsed b s
  | .torqueTimeout b => Sys2Proof.Machine.execTorqueTimeout b s
  | .gelLimitReached b => Sys2Proof.Machine.execGelLimitReached b s
  | .positionLost b => Sys2Proof.Machine.execPositionLost b s
  | .flowStarved b => Sys2Proof.Machine.execFlowStarved b s
  | .manualHoldExpiry b => Sys2Proof.Machine.execManualHoldExpiry b s
  | .intervalForcedClose b => Sys2Proof.Machine.execIntervalForcedClose b s
  | .linkSilent => Sys2Proof.Machine.execLinkSilent s
  | .frameReceived kind tag payload crc => Sys2Proof.Machine.execFrameReceived kind tag payload crc s
  | .frameGapTimeout => Sys2Proof.Machine.execFrameGapTimeout s
  | .unknownKind kind tag payload => Sys2Proof.Machine.execUnknownKind kind tag payload s
  | .frameTransmitEnd => Sys2Proof.Machine.execFrameTransmitEnd s
  | .getStatus tag => Sys2Proof.Machine.execGetStatus tag s
  | .setMode tag mode => Sys2Proof.Machine.execSetMode tag mode s
  | .restart tag => Sys2Proof.Machine.execRestart tag s
  | .warmRestart => Sys2Proof.Machine.execWarmRestart s
  | .setParam tag id value => Sys2Proof.Machine.execSetParam tag id value s
  | .getParam tag id => Sys2Proof.Machine.execGetParam tag id s
  | .loadRecipe tag slot fields => Sys2Proof.Machine.execLoadRecipe tag slot fields s
  | .clearRecipe tag slot => Sys2Proof.Machine.execClearRecipe tag slot s
  | .getRecipe tag slot => Sys2Proof.Machine.execGetRecipe tag slot s
  | .queueHole tag boom holeId slot posTag override => Sys2Proof.Machine.execQueueHole tag boom holeId slot posTag override s
  | .cancelHole tag holeId => Sys2Proof.Machine.execCancelHole tag holeId s
  | .flushQueue tag boom => Sys2Proof.Machine.execFlushQueue tag boom s
  | .getQueue tag boom => Sys2Proof.Machine.execGetQueue tag boom s
  | .go tag boom => Sys2Proof.Machine.execGo tag boom s
  | .abandon tag boom => Sys2Proof.Machine.execAbandon tag boom s
  | .setEnables tag boom set => Sys2Proof.Machine.execSetEnables tag boom set s
  | .resolveContinue tag boom value => Sys2Proof.Machine.execResolveContinue tag boom value s
  | .resolveRetry tag boom value => Sys2Proof.Machine.execResolveRetry tag boom value s
  | .resolveSetCartridges tag boom value => Sys2Proof.Machine.execResolveSetCartridges tag boom value s
  | .resolveAbandon tag boom value => Sys2Proof.Machine.execResolveAbandon tag boom value s
  | .getFrame tag boom => Sys2Proof.Machine.execGetFrame tag boom s
  | .getProfile tag boom => Sys2Proof.Machine.execGetProfile tag boom s
  | .takeover tag boom => Sys2Proof.Machine.execTakeover tag boom s
  | .manualDrive tag boom feed rotation chuck => Sys2Proof.Machine.execManualDrive tag boom feed rotation chuck s
  | .handback tag boom => Sys2Proof.Machine.execHandback tag boom s
  | .safeRetract tag boom => Sys2Proof.Machine.execSafeRetract tag boom s
  | .retractClear tag boom => Sys2Proof.Machine.execRetractClear tag boom s
  | .reserveFlow tag amount => Sys2Proof.Machine.execReserveFlow tag amount s
  | .releaseFlow tag => Sys2Proof.Machine.execReleaseFlow tag s
  | .getFlow tag => Sys2Proof.Machine.execGetFlow tag s
  | .fetchRecord tag => Sys2Proof.Machine.execFetchRecord tag s
  | .dropRecord tag => Sys2Proof.Machine.execDropRecord tag s
  | .markStart tag boom holeId slot posTag => Sys2Proof.Machine.execMarkStart tag boom holeId slot posTag s
  | .markEnd tag boom => Sys2Proof.Machine.execMarkEnd tag boom s
  | .byteReceived byte => Sys2Proof.Machine.execByteReceived byte s

end Sys2Proof.Machine
end

