-- ==== Sys2Proof/Safety.lean ====
section
/-! DEFINITION. What statements about the part are made of: when a command is taken at once, what a step leaves alone, what a
stopped boom looks like, and what a safe state is. -/

namespace Sys2Proof.Machine

/-! ## When a command is taken at once -/

/-- A request that arrives now is taken now: the reply slot is empty, no frame waits, and RESTART has not been taken
(R185, R190). -/
abbrev State.ready (s : State) : Prop := s.link.reply = none ∧ s.link.waiting = [] ∧ s.link.restarting = false

/-- No mode change is due: none is requested, or some fitted boom is not quiescent (R179). Every step keeps this. -/
abbrev State.settled (s : State) : Prop := s.requested = none ∨ s.quiescent = false

/-- No request frame waits for the reply slot, so an event is followed by no request. -/
abbrev State.unhurried (s : State) : Prop := s.link.waiting = []

/-- No requester waits for flow, so an evaluation has nothing to grant (R118). -/
abbrev State.flowQuiet (s : State) : Prop := s.arbiter.waitList = []

/-- No requester but this boom waits for flow. -/
abbrev State.waitsAlone (s : State) (b : Slot) : Prop := ∀ e ∈ s.arbiter.waitList, e.requester = .boom b

/-! ## What every step adds to a command's own effect -/

/-- Each boom's memory of the command its CHUCK output shows, brought up to date (R164). -/
def State.noted (s : State) : State := forFitted (fun b t => t.noteChuck b) s

/-- The part as a valid frame has just arrived: the assembler hunts, silence is over and its timer runs from zero, and an idle
transmitter has started a report if one was queued (R189, R193). -/
def State.heard (s : State) : State :=
  { s with link := { s.link with assembler := .hunt, silenceTicks := 0, silent := false } }.startNext

/-- The part with a reply formed: in the slot, or on its way when the transmitter was idle (R190, R193). -/
def State.answered (s : State) (kind tag : Byte) (payload : List Byte) : State :=
  (s.setReply { kind := kind, tag := tag, payload := payload }).startNext

/-- A request refused: nothing but the link has changed, and the reply carries the status alone (R190, R191). -/
def State.refused (s : State) (kind tag : Byte) (st : Status) : State :=
  s.heard.noted.answered kind tag (le1 st.code)

/-- The reply with this kind, tag and payload is in the slot or being transmitted. -/
def State.replies (s : State) (kind tag : Byte) (payload : List Byte) : Prop :=
  s.link.reply = some { kind := kind, tag := tag, payload := payload } ∨
    s.link.sending = some { kind := kind, tag := tag, payload := payload }

/-! ## What a command on one boom leaves alone -/

/-- The parts no command on a boom writes. -/
structure State.SameStore (s t : State) : Prop where
  pending : t.pending = s.pending
  clock : t.clock = s.clock
  mode : t.mode = s.mode
  requested : t.requested = s.requested
  restartCause : t.restartCause = s.restartCause
  params : t.params = s.params
  recipes : t.recipes = s.recipes
  drive : t.drive = s.drive
  driveLine : t.driveLine = s.driveLine
  retractLine : t.retractLine = s.retractLine

/-- The hole queues and the record log are as they were. -/
structure State.SameLists (s t : State) : Prop where
  queues : t.queues = s.queues
  log : t.log = s.log
  nextSeq : t.nextSeq = s.nextSeq
  writers : t.writers = s.writers

/-- The other booms and the reserve are as they were, but for the memory of what a CHUCK output shows. -/
structure State.SameOthers (s t : State) (b : Slot) : Prop where
  booms : ∀ c, c ≠ b → t.boom c = s.noted.boom c
  grants : ∀ c, c ≠ b → t.grant c = s.grant c
  reserve : t.arbiter.reserve = s.arbiter.reserve

/-- What no sample, exception, resolve or intervention changes of the boom itself: its readings and its enable set. -/
structure Boom.SameReadings (x y : Boom) : Prop where
  raw : y.raw = x.raw
  lastGood : y.lastGood = x.lastGood
  inForce : y.inForce = x.inForce
  posLoss : y.posLoss = x.posLoss
  enabled : y.enabled = x.enabled

/-! ## A boom stopped by an immediate exception -/

/-- The frame an immediate exception makes of a boom at a tick (R137). The condition is in the current set by then (R131). -/
def State.frameAt (s : State) (b : Slot) (h : Hole) (c : Cond) (operand : Nat) (now : Tick) : ExFrame :=
  { slot := b, holeId := h.plan.holeId, kind := .inPhase, cause := c, current := CondSet.put (s.boom b).current c,
    posted := (s.boom b).posted, raisedIn := h.phase, phase := h.phase, depth := (s.boom b).depth,
    thrust := shownValue (s.boom b).inForce.thrust (s.boom b).lastGood.thrust,
    torque := shownValue (s.boom b).inForce.torque (s.boom b).lastGood.torque,
    speed := shownValue (s.boom b).inForce.speed (s.boom b).lastGood.speed,
    lastSE := (s.boom b).profile.lastSE, refSE := (s.boom b).profile.refSE, time := now, operand := operand }

/-- The hole of a boom stopped: one exception more, the torque run empty (R100, R134). -/
def Hole.stopped (h : Hole) : Hole := { h with exceptions := min (h.exceptions + 1) 65535, torqueRun := [] }

/-- The boom stopped: feed, rotation and loader at 0, the chuck as it was, the loader command cancelled, the condition in its
sets, and the context EXCEPTION with its frame (R134). -/
def State.boomStopped (s : State) (b : Slot) (h : Hole) (c : Cond) (operand : Nat) (now : Tick) : Boom :=
  { s.boom b with
    feed := 0, rotation := 0, loaderOut := none, handshake := .none, current := CondSet.put (s.boom b).current c,
    accrued := CondSet.put (s.boom b).accrued c, auto := .exception (s.frameAt b h c operand now) h.stopped }

/-- The grant an immediate exception leaves a boom: at most the effective HOLDING demand in INSERTING to TORQUING, else 0
(R134, step 4). -/
def State.grantStopped (s : State) (b : Slot) (p : Phase) : Nat :=
  if p = .inserting ∨ p = .mixing ∨ p = .holding ∨ p = .torquing then
    min (min s.params.demandHolding s.params.pumpCapacity) (s.grant b)
  else 0

/-- The whole part after an immediate exception of one boom that no other requester waits beside (R134, R139). -/
def State.stopped (s : State) (b : Slot) (h : Hole) (c : Cond) (operand : Nat) (now : Tick) : State :=
  { s with
    booms := s.booms.set b (s.boomStopped b h c operand now)
    arbiter :=
      { grants := s.arbiter.grants.set b (s.grantStopped b h.phase), reserve := s.arbiter.reserve,
        grantList :=
          if s.grantStopped b h.phase = 0 then s.arbiter.grantList.filter (fun q => q ≠ .boom b) else s.arbiter.grantList,
        waitList := [] }
    link :=
      { s.link with
        exceptionReport := s.link.exceptionReport.set b (some (s.frameAt b h c operand now))
        boomStatus := s.link.boomStatus.set b true } }

/-! ## One boom's part of a tick -/

/-- An out-of-range count after a reading: one more for a reading out of range, stopping at 65535, while it counts (R53). -/
def countRead (counts : Bool) (n : Nat) : Reading → Nat
  | .value _ => n
  | .low => if counts then min (n + 1) 65535 else n
  | .high => if counts then min (n + 1) 65535 else n

/-- One channel's value in force and last good value after a reading, under a policy code (0 CLAMP, 1 HOLD, 2 DROP): a number is
both; LOW and HIGH leave the last good value and give an end of the range, the last good value, or nothing (R50, R51). -/
structure ChannelRead (policy top before : Nat) (r : Reading) (inForce : Option Nat) (good : Nat) : Prop where
  number : ∀ n, r = .value n → inForce = some n ∧ good = n
  kept : r = .low ∨ r = .high → good = before
  clampLow : r = .low → policy = 0 → inForce = some 0
  clampHigh : r = .high → policy = 0 → inForce = some top
  hold : r = .low ∨ r = .high → policy = 1 → inForce = some before
  drop : r = .low ∨ r = .high → policy = 2 → inForce = none

/-- The boom with a tick's four readings in (R49 to R53). The out-of-range counts run for a hole whose record has not been
assembled: in CYCLE, EXCEPTION, ABANDONING and OBSERVING. The LOADER output's one tick is over, and outside OBSERVING the sample
counts as not eligible until the sequencer finds it so. -/
def Boom.read (x : Boom) (ps : Params) (r : Quad Reading) : Boom :=
  { x with
    raw := some r
    lastGood := goodAfter x.lastGood r
    inForce := valuesInForce ps x.lastGood r
    posLoss :=
      match r.position with
      | .value _ => 0
      | .low => min (x.posLoss + 1) 20
      | .high => min (x.posLoss + 1) 20
    outOfRange :=
      { thrust := countRead x.auto.counts x.outOfRange.thrust r.thrust
        torque := countRead x.auto.counts x.outOfRange.torque r.torque
        speed := countRead x.auto.counts x.outOfRange.speed r.speed
        position := countRead x.auto.counts x.outOfRange.position r.position }
    loaderOut := none
    wasEligible :=
      match x.auto with
      | .observing _ => x.wasEligible
      | _ => false }

/-- One slot's part of a tick: a fitted boom's readings are in, its sample is taken by its active context, and a mode change this
has made possible follows; a slot outside FITTED_BOOMS is not sampled (R25, R49, R179). -/
def State.slotSampled (s : State) (b : Slot) (r : Quad Reading) : State :=
  if s.fits b then ((s.setBoom b ((s.boom b).read s.params r)).contextSample b).settle else s

/-! ## What one boom's sample, resolve or pop leads to -/

/-- Everything but one boom's own work, its flow and the link is as it was: an event inside a step, before what follows every
event. -/
structure State.OnlyBoom (s t : State) (b : Slot) : Prop where
  store : State.SameStore s t
  lists : State.SameLists s t
  booms : ∀ c, c ≠ b → t.boom c = s.boom c
  grants : ∀ c, c ≠ b → t.grant c = s.grant c
  reserve : t.arbiter.reserve = s.arbiter.reserve
  readings : Boom.SameReadings (s.boom b) (t.boom b)

/-- A phase's demand limited to the capacity in force (R111). -/
def State.demandOf (s : State) (p : Phase) : Nat := min (s.params.demand p) s.params.pumpCapacity

/-- The boom's grant covers a demand, or the free flow covers the rest of it (R27, R118). -/
abbrev State.covers (s : State) (b : Slot) (d : Nat) : Prop := d ≤ s.grant b ∨ d - s.grant b ≤ s.free

/-- A CYCLE context that asks for flow when no requester waits and it may move: ACTIVE with its phase's demand granted where that
is covered, else waiting at rest with its one entry (R27, R31, R118). `g` is its hole, in the phase that asks. -/
def State.FlowAsked (s t : State) (b : Slot) (g : Hole) : Prop :=
  (s.covers b (s.demandOf g.phase) →
    (t.boom b).auto = .cycle .active g ∧ t.grant b = s.demandOf g.phase ∧ t.arbiter.waitList = []) ∧
  (¬ s.covers b (s.demandOf g.phase) →
    (t.boom b).auto = .cycle .waitFlow g ∧ t.grant b = s.grant b ∧ (t.boom b).feed = 0 ∧ (t.boom b).rotation = 0 ∧
    t.arbiter.waitList =
      [{ requester := .boom b, cls := g.phase.flowClass, demand := s.demandOf g.phase, join := s.clock,
         waitStart := s.clock, backedOff := false }])

/-- A phase entered from a hole when no requester waits and the boom may move: the current set and the seen marks are emptied, and
its flow is asked for (R27). `g` is the hole in the new phase, which keeps its plan and its counts. -/
structure State.PhaseEntered (s t : State) (b : Slot) (h g : Hole) (p : Phase) : Prop where
  phase : g.phase = p
  plan : g.plan = h.plan
  drilled : g.drilled = h.drilled
  planned : g.planned = h.planned
  exceptions : g.exceptions = h.exceptions
  current : (t.boom b).current = 0
  seen : (t.boom b).seen = Quad.fill false
  asked : s.FlowAsked t b g

/-- The boom stopped before phase `p`, which was not entered, on a condition posted in phase `e` (R136). -/
structure State.StoppedBefore (s t : State) (b : Slot) (g : Hole) (f : ExFrame) (e p : Phase) : Prop where
  context : (t.boom b).auto = .exception f g
  kind : f.kind = .prePhase
  raisedIn : f.raisedIn = e
  phase : f.phase = p
  next : g.phase = p
  still : (t.boom b).feed = 0 ∧ (t.boom b).rotation = 0 ∧ (t.boom b).loaderOut = none ∧ (t.boom b).handshake = .none
  grant : t.grant b = s.grantStopped b e
  reports : t.link.exceptionReport.get b = some f ∧ t.link.boomStatus.get b = true

/-- A record's resin section is the hole's (R107, R170): absent when RESIN_LOAD was never entered, and 0 for a figure whose event
has not happened. -/
structure Hole.ResinIn (h : Hole) (sec : Option ResinSection) : Prop where
  absent : h.resinEntered = false → sec = none
  counts : h.resinEntered = true →
    ∃ x, sec = some x ∧ x.planned = h.planned.getD 0 ∧ x.loaded = h.loaded ∧ x.mixRevs = h.mixSum / 600 ∧
      x.ageAtTorque = 10 * h.resinAgeAtTorque.getD 0
  times : ∀ x, sec = some x →
    (∀ a e, h.mixStart = some a → h.mixEnd = some e → x.mixTime = 10 * ticksSince e a) ∧
    (h.mixStart = none ∨ h.mixEnd = none → x.mixTime = 0) ∧
    (∀ a e, h.mixEnd = some a → h.holdEnd = some e → x.holdTime = 10 * ticksSince e a) ∧
    (h.mixEnd = none ∨ h.holdEnd = none → x.holdTime = 0)

/-- A record's tension section is the hole's (R107, R170): absent when TORQUING was never entered. -/
structure Hole.TensionIn (h : Hole) (sec : Option TensionSection) : Prop where
  absent : h.torqueEntered = false → sec = none
  figures : h.torqueEntered = true →
    sec =
      some { peak := h.peak, final := h.finalTorque.getD 0, tension := h.tension.getD 0, retorques := h.retorques }

/-- A hole ended: the boom at rest with grant 0, and its record, assembled at this tick, in the log under the next sequence number,
or held in LOG_WAIT behind the other writers when the log is full (R43, R168, R172, R175). -/
structure State.HoleEnded (s t : State) (b : Slot) (h : Hole) (r : BoltRecord) : Prop where
  grant : t.grant b = 0
  still : (t.boom b).feed = 0 ∧ (t.boom b).rotation = 0 ∧ (t.boom b).loaderOut = none ∧ (t.boom b).handshake = .none
  hole : r.holeId = h.plan.holeId ∧ r.slot = b ∧ r.recipeSlot = h.plan.recipeSlot ∧ r.posTag = h.plan.posTag
  times : r.start = h.plan.start ∧ r.finish = s.clock
  phase : r.endPhase = some h.phase
  drilled : r.target = h.plan.target ∧ r.drilled = h.drilled.getD (s.boom b).profile.frontier
  profile : r.bands = (s.boom b).profile.bands ∧ r.truncated = (s.boom b).profile.truncated ∧
    r.anchor = (s.boom b).profile.anchor
  counts : r.exceptions = h.exceptions ∧ r.resolveCount = h.resolveCount ∧ r.resolves = h.resolves ∧
    r.takeovers = h.takeovers ∧ r.retracts = h.retracts ∧ r.movedDistance = h.movedDistance ∧ r.starves = h.starves
  sets : r.accrued = (t.boom b).accrued ∧ r.outOfRange = (s.boom b).outOfRange
  resin : h.ResinIn r.resin
  tension : h.TensionIn r.tension
  logged : s.log.length < 48 →
    t.log = s.log ++ [{ r with seq := s.nextSeq }] ∧ t.nextSeq = (if s.nextSeq = 65535 then 1 else s.nextSeq + 1) ∧
    (t.boom b).auto = .idle ∧ t.writers = s.writers ∧ t.link.recordReady = true
  waits : 48 ≤ s.log.length →
    t.log = s.log ∧ t.nextSeq = s.nextSeq ∧ (t.boom b).auto = .logWait r ∧ t.writers = s.writers ++ [b]
  store : State.SameStore s t
  queues : t.queues = s.queues
  others : ∀ c, c ≠ b → t.boom c = s.boom c ∧ t.grant c = s.grant c

/-- How far the boom has moved since its level-0 context was set aside, 0.1 mm (R165). -/
def State.movedAway (s : State) (b : Slot) : Nat :=
  (s.depth b - (s.boom b).awayDepth) + ((s.boom b).awayDepth - s.depth b)

/-- What a pop leads to, by the level-0 context it makes active, when no requester waits and no mode change is asked for (R165,
R166). -/
structure State.PoppedTo (s t : State) (b : Slot) : Prop where
  level : (t.boom b).level = 0
  exception : ∀ f h, (s.boom b).auto = .exception f h →
    t.grant b = s.grantStopped b f.raisedIn ∧ (t.boom b).feed = 0 ∧ (t.boom b).rotation = 0 ∧
    (t.boom b).chuck = (s.boom b).chuckShown ∧
    (t.boom b).auto =
      .exception f
        { h with
          movedDistance := min (h.movedDistance + s.movedAway b) 65535
          moved := h.moved || decide (10 * s.params.reentryTolerance < s.movedAway b) }
  logWait : ∀ r, (s.boom b).auto = .logWait r →
    (t.boom b).auto = .logWait r ∧ t.grant b = 0 ∧ (t.boom b).feed = 0 ∧ (t.boom b).rotation = 0 ∧
    (t.boom b).chuck = (s.boom b).chuckShown
  abandoning : ∀ sub h, (s.boom b).auto = .abandoning sub h → 10 * s.params.homeTolerance < s.depth b →
    s.covers b (s.demandOf .retractDrill) →
    ∃ g, (t.boom b).auto = .abandoning (if s.drive = some true then .active else .driveHeld) g ∧
      g.movedDistance = min (h.movedDistance + s.movedAway b) 65535 ∧ g.phase = h.phase ∧ g.plan = h.plan ∧
      t.grant b = s.demandOf .retractDrill
  moved : ∀ sub h, (s.boom b).auto = .cycle sub h →
    10 * s.params.reentryTolerance < s.movedAway b ∨ (h.chuckReleased = true ∧ 5 ≤ h.phase.num ∧ h.phase.num ≤ 9) →
    ∃ f g, (t.boom b).auto = .exception f g ∧ f.kind = .inPhase ∧ f.cause = .movedWhileAway ∧
      f.operand = s.movedAway b ∧ f.phase = h.phase ∧ g.phase = h.phase ∧
      g.movedDistance = min (h.movedDistance + s.movedAway b) 65535 ∧
      CondSet.has (t.boom b).accrued .movedWhileAway = true ∧ t.grant b = s.grantStopped b h.phase
  resumed : ∀ sub h, (s.boom b).auto = .cycle sub h → s.movedAway b ≤ 10 * s.params.reentryTolerance →
    h.chuckReleased = false → h.moved = false → s.drive = some true →
    ∃ g, s.FlowAsked t b g ∧ g.phase = h.phase ∧ g.plan = h.plan ∧ g.loaded = h.loaded ∧ g.mixSum = h.mixSum ∧
      g.movedDistance = min (h.movedDistance + s.movedAway b) 65535 ∧ (t.boom b).current = (s.boom b).current

/-! ## The hole profile -/

/-- The band takes in an addition: the bottom moves to it, a kept interval is counted, an SE goes into the count, the sum, the
minimum and the maximum, and a mark once set stays. Past the end of a count's or the sum's range R77 states no value (R78, R80;
log entry 12). -/
structure Band.TookIn (old : Band) (a : Addition) (new : Band) : Prop where
  top : new.top = old.top
  bottom : new.bottom = a.bottom
  count : (a.counts = false → new.count = old.count) ∧ (a.counts = true → old.count < 4095 → new.count = old.count + 1)
  noEnergy : a.se = none →
    new.seCount = old.seCount ∧ new.seSum = old.seSum ∧ new.seMin = old.seMin ∧ new.seMax = old.seMax
  energy : ∀ e, a.se = some e →
    (old.seCount < 4095 → new.seCount = old.seCount + 1) ∧ (old.seSum + e ≤ 268365825 → new.seSum = old.seSum + e) ∧
    new.seMin = some (min e (old.seMin.getD e)) ∧ new.seMax = some (max e (old.seMax.getD e))
  marks : new.isPartial = (old.isPartial || a.isPartial) ∧ new.isForced = (old.isForced || a.isForced) ∧
    new.isSuspect = (old.isSuspect || a.isSuspect)

/-- The band an addition is appended as (R78, R80, R82). -/
def Addition.asBand (a : Addition) : Band :=
  { cls := a.cls, top := a.top, bottom := a.bottom, count := if a.counts then 1 else 0,
    seCount := if a.se = none then 0 else 1, seMin := a.se, seMax := a.se, seSum := a.se.getD 0,
    isPartial := a.isPartial, isForced := a.isForced, isSuspect := a.isSuspect, isMerged := false }

/-- The first of the classes, most severe first, that is one of these two (R79). -/
def BandClass.moreSevere (a b : BandClass) : Option BandClass :=
  [BandClass.void, .soft, .unknown, .unlogged, .hard, .competent, .collar].find? (fun c => decide (c = a ∨ c = b))

/-- What an addition makes of the band list: the first band; more of a last band of its class; a new band where there is
room; or, beside 32 bands, more of the last band under the more severe class, MERGED and TRUNCATED (R78, R79). -/
structure Profile.Added (p : Profile) (a : Addition) (q : Profile) : Prop where
  first : p.bands = [] → q = { p with bands := [a.asBand] }
  same : ∀ l last, p.bands = l ++ [last] → last.cls = a.cls →
    ∃ x, last.TookIn a x ∧ x.cls = last.cls ∧ x.isMerged = last.isMerged ∧ q = { p with bands := l ++ [x] }
  room : ∀ l last, p.bands = l ++ [last] → last.cls ≠ a.cls → p.bands.length < 32 →
    q = { p with bands := l ++ [last, a.asBand] }
  full : ∀ l last, p.bands = l ++ [last] → last.cls ≠ a.cls → 32 ≤ p.bands.length →
    ∃ x, last.TookIn a x ∧ BandClass.moreSevere last.cls a.cls = some x.cls ∧ x.isMerged = true ∧
      q = { p with bands := l ++ [x], truncated := true }

/-- An open interval that starts at a depth, every sum and count at 0 (R65, R69, R82). -/
def Interval.opensAt (start : Nat) : Interval :=
  { start := start, samples := 0, sumForce := 0, forceCount := 0, sumWork := 0, workCount := 0, drops := 0 }

/-- The interval with one contributing sample more (R67, steps 2 to 5). -/
def Interval.withSample (iv : Interval) (thrust torque speed : Option Nat) : Interval :=
  { start := iv.start, samples := iv.samples + 1, sumForce := iv.sumForce + thrust.getD 0,
    forceCount := if thrust = none then iv.forceCount else iv.forceCount + 1,
    sumWork := iv.sumWork + torque.getD 0 * speed.getD 0,
    workCount := if torque = none ∨ speed = none then iv.workCount else iv.workCount + 1,
    drops := if thrust = none ∨ torque = none ∨ speed = none then iv.drops + 1 else iv.drops }

/-- The figures of a closing interval and what it leaves (R71): its SE over the advance, none without one (R72, R73); its class
against the reference as it stood (R74); the last SE, and the reference of a COMPETENT interval an eighth of the way to the SE,
truncated toward zero and never below 1 (R75); its addition to the bands (R78 to R80); and whether its class is VOID (R76). -/
structure Profile.Closed (g : StrataFigures) (kind : CloseKind) (iv : Interval) (p : Profile) (q : Profile) (struck : Bool) :
    Prop where
  noEnergy : p.frontier ≤ iv.start →
    struck = false ∧
    p.Added { cls := .unknown, top := iv.start, bottom := p.frontier, counts := true, se := none,
              isPartial := decide (kind = .partialClose), isForced := decide (kind = .forced), isSuspect := false } q
  energy : iv.start < p.frontier →
    ∃ work e c, work = (if iv.workCount = 0 then 0
        else if iv.workCount < iv.samples then roundDiv (iv.sumWork * iv.samples) iv.workCount else iv.sumWork) ∧
      e = min 65535
        ((if iv.forceCount = 0 then 0 else roundDiv (4096 * iv.sumForce) (3217 * g.bit ^ 2 * iv.forceCount)) +
          roundDiv (4 * work) (3 * g.bit ^ 2 * (p.frontier - iv.start))) ∧
      c = (if iv.start < p.collarLimit then BandClass.collar
        else if iv.samples < 4 * iv.drops then .unknown
        else if 100 * e / p.refSE < g.voidPct then .void
        else if 100 * e / p.refSE < g.softPct then .soft
        else if 100 * e / p.refSE ≤ g.hardPct then .competent
        else .hard) ∧
      struck = decide (c = .void) ∧
      Profile.Added
        { p with
          lastSE := e
          refSE := if c ≠ .competent then p.refSE
            else if p.refSE ≤ e then max 1 (p.refSE + (e - p.refSE) / 8)
            else max 1 (p.refSE - (p.refSE - e) / 8) }
        { cls := c, top := iv.start, bottom := p.frontier, counts := true, se := some e,
          isPartial := decide (kind = .partialClose), isForced := decide (kind = .forced),
          isSuspect := decide (p.collarLimit ≤ iv.start ∧ iv.samples < 4 * iv.drops) } q

/-- A profile under the worked figures of 4.4 and 4.6 (a 27 mm bit, the parameters at their defaults), whose open interval
has taken 99 whole samples with this work and no thrust, after one more sample of no work at a depth; and whether it closed
a VOID interval. -/
def Profile.worked (p : Profile) (work depth : Nat) : Profile × Bool :=
  Profile.sample { bit := 27, interval := 20, voidPct := 15, softPct := 60, hardPct := 180 } depth
    { thrust := some 0, torque := some 0, speed := some 0, position := some depth }
    { p with
      interval := p.interval.map (fun iv =>
        { iv with samples := 99, forceCount := 99, sumWork := work, workCount := 99 }) }

/-- A band of intervals that each have an SE, with no mark set. -/
def Band.figures (cls : BandClass) (top bottom count least most sum : Nat) : Band :=
  { cls := cls, top := top, bottom := bottom, count := count, seCount := count, seMin := some least, seMax := some most,
    seSum := sum, isPartial := false, isForced := false, isSuspect := false, isMerged := false }

/-- The bands run end to end from one depth to another (R77). That a band may have its top equal to its bottom is log entry
14. -/
def bandsReach : Nat → List Band → Nat → Prop
  | top, [], bottom => top = bottom
  | top, b :: bs, bottom => b.top = top ∧ b.top ≤ b.bottom ∧ bandsReach b.bottom bs bottom

/-- A profile within what R64 to R87 give it: at most 32 bands, end to end from 0, and 32 of them once TRUNCATED; an open
interval exactly while OPEN, which starts where the bands end, no deeper than the frontier, holds fewer than 4095 samples
and counts none of them twice; a reference of at least 1 since the opening; and nothing at all while EMPTY. -/
structure Profile.Sound (p : Profile) : Prop where
  count : p.bands.length ≤ 32
  truncated : p.truncated = true → p.bands.length = 32
  bands : ∃ e, bandsReach 0 p.bands e ∧ e ≤ p.frontier ∧ ∀ iv, p.interval = some iv → iv.start = e
  frontier : p.frontier ≤ 30000
  interval : p.interval.isSome = true ↔ p.cond = .opened
  samples : ∀ iv, p.interval = some iv →
    iv.samples < 4095 ∧ iv.forceCount ≤ iv.samples ∧ iv.workCount ≤ iv.samples ∧ iv.drops ≤ iv.samples
  energies : p.lastSE ≤ 65535 ∧ p.refSE ≤ 65535 ∧ (p.cond ≠ .empty → 1 ≤ p.refSE)
  empty : p.cond = .empty → p = Profile.vacant

/-- The context takes samples into its profile: an observed hole, or a hole not abandoned in COLLARING or DRILLING (R65, R66,
R70). -/
def Auto.profiles : Auto → Bool
  | .cycle _ h => decide (h.phase.num ≤ 2)
  | .exception _ h => decide (h.phase.num ≤ 2)
  | .observing _ => true
  | .idle => false
  | .abandoning _ _ => false
  | .logWait _ => false

/-- Every profile is sound, OPEN exactly while its boom's level-0 context takes samples into it (R64, R65, R70), with depths and
expected SEs in their ranges (R4, R22). -/
structure State.Profiled (s : State) : Prop where
  sound : ∀ b, (s.boom b).profile.Sound
  opened : ∀ b, (s.boom b).profile.cond = .opened ↔ (s.boom b).auto.profiles = true
  position : ∀ b, (s.boom b).lastGood.position ≤ 30000
  recipes : ∀ i r, s.recipeAt i = some r → 10 ≤ r.expectedSE ∧ r.expectedSE ≤ 2000

/-! ## Safe states -/

/-- The flow granted never exceeds the pump capacity in force (R109). -/
def State.flowSafe (s : State) : Prop := s.arbiter.total ≤ s.params.pumpCapacity

/-- The bounds the spec gives the log, the next-sequence counter, the hole queues, the position-loss run counts and the enable
sets (R9, R52, R129, R172). -/
structure State.Bounded (s : State) : Prop where
  log : s.log.length ≤ Config.logSize
  seqLow : 1 ≤ s.nextSeq
  seqHigh : s.nextSeq ≤ 65535
  queues : ∀ b, (s.queues.get b).length ≤ Config.queueSize
  posLoss : ∀ b, (s.boom b).posLoss ≤ 20
  enabled : ∀ b c, Cond.maskable c = false → CondSet.has (s.boom b).enabled c = false

/-- The boom's active context waits for flow (R27, R47, R155, R161). -/
def Boom.waitsForFlow (x : Boom) : Prop :=
  match x.retract, x.manual, x.auto with
  | some r, _, _ => r.sub = .waitFlow
  | none, some m, _ => m.sub = .waitFlow
  | none, none, .cycle sub _ => sub = .waitFlow ∨ sub = .backedOff
  | none, none, .abandoning sub _ => sub = .waitFlow
  | none, none, _ => False

/-- The level-0 context has no hole under way, so it holds no flow while it is active (R44, R172, R182). -/
def Auto.holdsNone : Auto → Bool
  | .idle => true
  | .logWait _ => true
  | .observing _ => true
  | .cycle _ _ => false
  | .exception _ _ => false
  | .abandoning _ _ => false

/-- Where an entry's kind stands in the wait list: URGENT, CURING, then NORMAL with the backed-off mark and without it
(R114). -/
def WaitEntry.place (e : WaitEntry) : Nat :=
  match e.cls with
  | .urgent => 0
  | .curing => 1
  | .normal => if e.backedOff then 2 else 3

/-- Who holds and waits for what: the grants within the capacity (R109), one entry for each requester (R113) and only for one
that waits, the entries in the order of their classes and marks (R114, items 1 and 3), no flow for a boom without a hole or in
CONFIG (R172, R179), and the waiting writers, which are the booms in LOG_WAIT, each once, and only beside a full log (R175).
-/
structure State.Served (s : State) : Prop where
  capacity : s.flowSafe
  entries : ∀ e ∈ s.arbiter.waitList, ∀ b, e.requester = .boom b → (s.boom b).waitsForFlow
  once : (s.arbiter.waitList.map WaitEntry.requester).Nodup
  order : (s.arbiter.waitList.map WaitEntry.place).Pairwise (· ≤ ·)
  restful : ∀ b, (s.boom b).level = 0 → (s.boom b).auto.holdsNone = true → s.grant b = 0
  unfitted : ∀ b, s.fits b = false → (s.boom b).auto = .idle ∧ (s.boom b).level = 0
  config : s.mode = .config → ∀ b, (s.boom b).auto = .idle ∧ (s.boom b).level = 0
  writersOnce : s.writers.Nodup
  writersWait : ∀ b, b ∈ s.writers ↔ ∃ r, (s.boom b).auto = .logWait r
  logFull : s.writers ≠ [] → 48 ≤ s.log.length

/-- Every hole id that is held, queue entries first (R13). -/
def State.heldIds (s : State) : List Nat :=
  (Slot.all.flatMap (fun b => (s.queues.get b).map QueueEntry.holeId)) ++
    Slot.all.filterMap (fun b => (s.boom b).auto.holeId)

/-- The loader command a handshake stands for: one outstanding, or one due again. -/
def Handshake.command : Handshake → Option LoaderCmd
  | .none => Option.none
  | .outstanding cmd _ _ => some cmd
  | .reissueDue cmd => some cmd

/-- The condition set holds POOR_ANCHOR or SHORT_RESIN. -/
def CondSet.askForResin (c : CondSet) : Prop := CondSet.has c .poorAnchor = true ∨ CondSet.has c .shortResin = true

/-- The holes and their loads: no id held twice (R13), every queue entry names a recipe (R7), a loader command only from an ACTIVE
RESIN_LOAD short of its planned count or BOLT_LOAD without its bolt (R62), and no more cartridges loaded than planned (R34, R92),
none before RESIN_LOAD. POOR_ANCHOR and SHORT_RESIN stand posted only in an exception before RETRACT_DRILL (R84, R90), so that
SET_CARTRIDGES meets a hole without a cartridge. -/
structure State.Planned (s : State) : Prop where
  ids : s.heldIds.Nodup
  recipes : ∀ b, ∀ e ∈ s.queues.get b, ∃ r, s.recipeOf (BitVec.ofNat 8 e.recipeSlot) = some r ∧ e.recipeSlot < 16
  push : ∀ b, (s.boom b).handshake.command = some .push →
    ∃ h, (s.boom b).running = some (.active, h) ∧ h.phase = .resinLoad ∧ h.loaded < h.planned.getD 0
  index : ∀ b, (s.boom b).handshake.command = some .index →
    ∃ h, (s.boom b).running = some (.active, h) ∧ h.phase = .boltLoad ∧ h.indexDone = false
  loaded : ∀ b h, (s.boom b).auto.hole = some h → h.loaded ≤ h.planned.getD 0
  early : ∀ b h, (s.boom b).auto.hole = some h → h.phase.num ≤ 3 → h.loaded = 0
  posted : ∀ b, (s.boom b).posted.askForResin →
    ∃ f h, (s.boom b).auto = .exception f h ∧ f.kind = .prePhase ∧ h.phase = .retractDrill
  frames : ∀ b f h, (s.boom b).auto = .exception f h → f.kind = .prePhase → f.posted.askForResin →
    h.phase = .retractDrill

/-! ## Layouts -/

/-- The bytes have this length, and each field, given as its offset, its size and its bytes, stands in its place (R196). -/
def LaidOut (l : List Byte) (length : Nat) (fields : List (Nat × Nat × List Byte)) : Prop :=
  l.length = length ∧ ∀ f ∈ fields, f.2.2.length = f.2.1 ∧ (l.drop f.1).take f.2.1 = f.2.2

end Sys2Proof.Machine

/-! ## Requests and the rows that carry them -/

namespace Sys2Proof

/-- The command is the arrival of this request with this tag (R190, R199). -/
def Instr.carries (c : Instr) (tag : Byte) (r : Request) : Prop :=
  match c with
  | .getStatus t => t = tag ∧ r = .getStatus
  | .setMode t m => t = tag ∧ r = .setMode m
  | .restart t => t = tag ∧ r = .restart
  | .setParam t id v => t = tag ∧ r = .setParam id v
  | .getParam t id => t = tag ∧ r = .getParam id
  | .loadRecipe t slot fields => t = tag ∧ r = .loadRecipe slot fields
  | .clearRecipe t slot => t = tag ∧ r = .clearRecipe slot
  | .getRecipe t slot => t = tag ∧ r = .getRecipe slot
  | .queueHole t b id slot pos ov =>
    t = tag ∧ r = .queueHole b id slot pos (match ov with | none => 0 | some _ => 1) ov
  | .cancelHole t id => t = tag ∧ r = .cancelHole id
  | .flushQueue t b => t = tag ∧ r = .flushQueue b
  | .getQueue t b => t = tag ∧ r = .getQueue b
  | .go t b => t = tag ∧ r = .go b
  | .abandon t b => t = tag ∧ r = .abandon b
  | .setEnables t b w => t = tag ∧ r = .setEnables b w
  | .resolveContinue t b v => t = tag ∧ r = .resolve b 0 v
  | .resolveRetry t b v => t = tag ∧ r = .resolve b 1 v
  | .resolveSetCartridges t b v => t = tag ∧ r = .resolve b 2 v
  | .resolveAbandon t b v => t = tag ∧ r = .resolve b 3 v
  | .getFrame t b => t = tag ∧ r = .getFrame b
  | .getProfile t b => t = tag ∧ r = .getProfile b
  | .takeover t b => t = tag ∧ r = .takeover b
  | .manualDrive t b f rot c => t = tag ∧ r = .manualDrive b f rot c
  | .handback t b => t = tag ∧ r = .handback b
  | .safeRetract t b => t = tag ∧ r = .safeRetract b
  | .retractClear t b => t = tag ∧ r = .retractClear b
  | .reserveFlow t n => t = tag ∧ r = .reserveFlow n
  | .releaseFlow t => t = tag ∧ r = .releaseFlow
  | .getFlow t => t = tag ∧ r = .getFlow
  | .fetchRecord t => t = tag ∧ r = .fetchRecord
  | .dropRecord t => t = tag ∧ r = .dropRecord
  | .markStart t b id slot pos => t = tag ∧ r = .markStart b id slot pos
  | .markEnd t b => t = tag ∧ r = .markEnd b
  | .powerOn => False
  | .sampleTick _ _ _ => False
  | .driveEnableFall => False
  | .driveEnableReturn => False
  | .retractLineAssert => False
  | .retractLineRelease => False
  | .loaderDone _ => False
  | .loaderFault _ => False
  | .loadTimeout _ => False
  | .feedStall _ => False
  | .retractTimeout _ => False
  | .abandonRetractOverdue _ => False
  | .safeRetractOverdue _ => False
  | .mixShort _ => False
  | .holdTimerElapsed _ => False
  | .torqueTimeout _ => False
  | .gelLimitReached _ => False
  | .positionLost _ => False
  | .flowStarved _ => False
  | .manualHoldExpiry _ => False
  | .intervalForcedClose _ => False
  | .linkSilent => False
  | .frameReceived _ _ _ _ => False
  | .frameGapTimeout => False
  | .unknownKind _ _ _ => False
  | .frameTransmitEnd => False
  | .warmRestart => False
  | .byteReceived _ => False

end Sys2Proof
end

