-- ==== Sys2Proof/Certificates/Slice0/Obligations.lean ====
section
/-! DEFINITION. The statements for the provers. Those about a command say what it answers for every state and operands that meet
hypotheses on the state and the operands alone, and what it leaves as it was. -/

open Sys2Proof Sys2Proof.Machine

/-! ## Steps and resets -/

/-- A step runs the command at the front of the queue, on the state with the rest of the queue; on an empty queue the block
idles. The idling is the model's choice (log entry 1): the host's form of a block asks for it. -/
def Obligations.StepRunsFrontCommand : Prop :=
  (∀ (c : Instr) (rest : List Instr) (s : State),
    step { s with pending := c :: rest } = exec c { s with pending := rest }) ∧
  ∀ s : State, s.pending = [] → step s = .next s

/-- POWER_ON gives every block its power-on value, whatever the part was doing (R3, R18, R48, R87, R127, R151, R176, R177, R185,
R195). -/
def Obligations.PowerOnValues : Prop :=
  ∀ s : State, ∃ t, exec .powerOn s = .next t ∧ t.pending = s.pending ∧ t.clock = 0 ∧ t.mode = .config ∧
    t.requested = none ∧ t.restartCause = .power ∧ t.params = Params.default ∧ (∀ i, t.recipeAt i = none) ∧
    (∀ b, t.queues.get b = [] ∧ t.grant b = 0 ∧ t.outputs b = Outputs.rest ∧ t.link.boomStatus.get b = false ∧
      t.link.exceptionReport.get b = none) ∧
    (∀ b, (t.boom b).auto = .idle ∧ (t.boom b).level = 0 ∧ (t.boom b).p0 = 0 ∧ (t.boom b).chuck = .none ∧
      (t.boom b).handshake = .none ∧ (t.boom b).lastGood = Quad.fill 0 ∧ (t.boom b).posLoss = 0 ∧
      (t.boom b).outOfRange = Quad.fill 0 ∧ (t.boom b).seen = Quad.fill false ∧ (t.boom b).profile.cond = .empty ∧
      (t.boom b).current = 0 ∧ (t.boom b).posted = 0 ∧ (t.boom b).accrued = 0) ∧
    (∀ b c, CondSet.has (t.boom b).enabled c = true ↔
      c = .poorAnchor ∨ c = .shortResin ∨ c = .underTension ∨ c = .overTension) ∧
    t.arbiter.reserve = 0 ∧ t.arbiter.grantList = [] ∧ t.arbiter.waitList = [] ∧ t.log = [] ∧ t.nextSeq = 1 ∧
    t.writers = [] ∧ t.link.assembler = .hunt ∧ t.link.waiting = [] ∧ t.link.reply = none ∧ t.link.sending = none ∧
    t.link.silenceTicks = 0 ∧ t.link.silent = false ∧ t.link.modeReport = some .power ∧ t.link.flowGranted = false ∧
    t.link.recordReady = false

/-- When RESTART's own reply has gone out, the warm restart gives the power-on values but for the parameters and recipes, which
are kept, and the cause, which is RESTART (R185). That WARM_RESTART and the end of that reply's transmission are one event is
log entry 8, and the values a reset leaves where the spec states none are log entries 5 and 13. -/
def Obligations.WarmRestartValues : Prop :=
  ∀ (s : State) (f : Frame), s.link.restarting = true → s.link.reply = none → s.link.sending = some f →
    exec .warmRestart s =
      .next
        { State.reset with
          pending := s.pending, restartCause := .restart, params := s.params, recipes := s.recipes,
          link := { State.reset.link with modeReport := some .restart } } ∧
    exec .frameTransmitEnd s = exec .warmRestart s

/-- RESTART is answered OK in every mode, and after it no request is taken: whichever request arrives then, its frame waits and
nothing but the link changes (R185). -/
def Obligations.RestartTakesNoMore : Prop :=
  ∀ (s : State) (tag : Byte), s.ready → s.settled →
    exec (.restart tag) s =
      .next (({ s.heard with link := { s.heard.link with restarting := true } } : State).noted.answered 0x83 tag (le1 0)) ∧
    ∀ (u : State) (c : Instr) (k : Byte) (r : Request), c.carries k r → u.link.restarting = true →
      r.payload.length + 7 ≤ u.link.room →
      ∃ l, exec c u = .next { u with link := l } ∧ l.restarting = true ∧
        l.waiting = u.link.waiting ++ [{ kind := r.kind, tag := k, payload := r.payload }]

/-! ## The tick and the machine inputs -/

/-- SAMPLE_TICK: the run clock rises by one and goes round, the two inputs and every fitted boom's readings are taken
in, with last good values, values in force, the position-loss run and the out-of-range counts as R50 to R53 give, and
the store is as it was: by its policy CLAMP gives an end of the channel's range, HOLD the last good value, DROP nothing,
and POSITION always holds. The tick itself is each fitted boom's own part in slot order, its readings in and its sample
taken by its active context, then the timers no sample advances, the link-silence timer and the retract line (R25, R49,
R160, R194); that order is log entry 4. -/
def Obligations.SampleTickReads : Prop :=
  (∀ (drive line : Bool) (rs : Four (Quad Reading)) (s : State), s.unhurried →
    readingsInRange rs.b1 = true → readingsInRange rs.b2 = true → readingsInRange rs.b3 = true →
    readingsInRange rs.b4 = true →
    ∃ t, exec (.sampleTick drive line rs) s = .next t ∧ t.clock = s.clock + 1 ∧ t.drive = some drive ∧
      t.driveLine = some drive ∧ t.retractLine = some line ∧ t.pending = s.pending ∧ t.params = s.params ∧
      t.recipes = s.recipes ∧
      t.queues = s.queues ∧ t.restartCause = s.restartCause ∧
      ∀ b, s.fits b = true →
        (t.boom b).raw = some (rs.get b) ∧ (t.boom b).lastGood = goodAfter (s.boom b).lastGood (rs.get b) ∧
        (t.boom b).inForce = valuesInForce s.params (s.boom b).lastGood (rs.get b) ∧
        ChannelRead s.params.thrustPolicy 60000 (s.boom b).lastGood.thrust (rs.get b).thrust (t.boom b).inForce.thrust
          (t.boom b).lastGood.thrust ∧
        ChannelRead s.params.torquePolicy 5000 (s.boom b).lastGood.torque (rs.get b).torque (t.boom b).inForce.torque
          (t.boom b).lastGood.torque ∧
        ChannelRead s.params.speedPolicy 1200 (s.boom b).lastGood.speed (rs.get b).speed (t.boom b).inForce.speed
          (t.boom b).lastGood.speed ∧
        ChannelRead 1 30000 (s.boom b).lastGood.position (rs.get b).position (t.boom b).inForce.position
          (t.boom b).lastGood.position ∧
        (t.boom b).posLoss =
          (match (rs.get b).position with
            | .value _ => 0
            | .low => min ((s.boom b).posLoss + 1) 20
            | .high => min ((s.boom b).posLoss + 1) 20) ∧
        (t.boom b).outOfRange = ((s.boom b).read s.params (rs.get b)).outOfRange ∧
        (t.boom b).enabled = (s.boom b).enabled) ∧
  (∀ (drive line : Bool) (rs : Four (Quad Reading)) (s s0 : State),
    readingsInRange rs.b1 = true → readingsInRange rs.b2 = true → readingsInRange rs.b3 = true →
    readingsInRange rs.b4 = true →
    s0 = { s with
           clock := s.clock + 1, drive := some drive, driveLine := some drive, arbiter := s.arbiter.tickComes } →
    exec (.sampleTick drive line rs) s =
      .next
        (((forFitted State.boomTimers
          ((((s0.slotSampled .s1 rs.b1).slotSampled .s2 rs.b2).slotSampled .s3 rs.b3).slotSampled .s4
            rs.b4)).silenceTimer.readLine line).settle).serve)

/-- An ACTIVE sample at which no condition stops the boom, in the phases that end on a depth. DRILLING short of the target
drives its feed and rotation on, enters the profile and lets the stall window go on; COLLARING, RETRACT_DRILL and INSERTING
short of their depths drive on; at their depths, with nothing posted, they enter the next phase. DRILLING at its target closes
the last interval, assesses the anchor and counts the cartridges, and enters RETRACT_DRILL when nothing raised is enabled, or
stops before it on an enabled POOR_ANCHOR or SHORT_RESIN (R23, R25, R26, R27, R37, R66, R70, R83, R84, R89, R90, R136). Stated
of the boom's own part of the tick, after its readings are in. -/
def Obligations.DrillingSampleGoesOn : Prop :=
  (∀ (s : State) (b : Slot) (h : Hole), (s.boom b).running = some (.active, h) → h.phase = .drilling →
     s.stopCause b (s.activeConds b (h.sampleTimers (s.depth b) s.clock)) = none → s.depth b < h.plan.target →
     ∃ x, s.contextSample b = s.setBoom b x ∧ x.auto = .cycle .active (h.sampleTimers (s.depth b) s.clock) ∧
       x.feed = (h.plan.recipe.drillFeed : Int) ∧ x.rotation = (h.plan.recipe.drillRotation : Int) ∧
       x.profile =
         ((s.boom b).profile.sample (strataFigures s.params h.plan.recipe) (s.depth b) (s.boom b).inForce).1 ∧
       x.chuck = (s.boom b).chuck ∧ x.handshake = (s.boom b).handshake ∧ Boom.SameReadings (s.boom b) x) ∧
  (∀ (s : State) (b : Slot) (h : Hole) (feed rotation : Int), (s.boom b).running = some (.active, h) →
    s.stopCause b (s.activeConds b (h.sampleTimers (s.depth b) s.clock)) = none →
    (h.phase = .collaring ∧ s.depth b < 10 * h.plan.recipe.collarDepth ∧ feed = h.plan.recipe.collarFeed ∧
        rotation = h.plan.recipe.collarRotation) ∨
      (h.phase = .retractDrill ∧ 10 * s.params.homeTolerance < s.depth b ∧ feed = -(s.params.retractFeed : Int) ∧
        rotation = 0) ∨
      (h.phase = .inserting ∧ s.depth b < h.drilled.getD 0 - 10 * s.params.mixStroke ∧
        feed = h.plan.recipe.insertFeed ∧ rotation = 0) →
    ∃ x, s.contextSample b = s.setBoom b x ∧ x.auto = .cycle .active (h.sampleTimers (s.depth b) s.clock) ∧
      x.feed = feed ∧ x.rotation = rotation ∧ x.chuck = (s.boom b).chuck ∧ x.handshake = (s.boom b).handshake ∧
      Boom.SameReadings (s.boom b) x) ∧
  (∀ (s : State) (b : Slot) (h : Hole), (s.boom b).running = some (.active, h) →
    s.stopCause b (s.activeConds b (h.sampleTimers (s.depth b) s.clock)) = none →
    s.flowQuiet → s.drive = some true → s.link.silent = false → (s.boom b).posted = 0 →
    CondSet.has (s.boom b).enabled .voidStruck = false → CondSet.has (s.boom b).enabled .sensorRange = false →
    (h.phase = .collaring → 10 * h.plan.recipe.collarDepth ≤ s.depth b →
      ∃ t g, s.contextSample b = t ∧ s.OnlyBoom t b ∧ s.PhaseEntered t b h g .drilling ∧
        (t.boom b).profile =
          ((s.boom b).profile.sample (strataFigures s.params h.plan.recipe) (s.depth b) (s.boom b).inForce).1) ∧
    (h.phase = .retractDrill → s.depth b ≤ 10 * s.params.homeTolerance →
      ∃ t g, s.contextSample b = t ∧ s.OnlyBoom t b ∧ s.PhaseEntered t b h g .resinLoad ∧ g.loaded = 0 ∧
        g.resinEntered = true) ∧
    (h.phase = .inserting → h.drilled.getD 0 - 10 * s.params.mixStroke ≤ s.depth b →
      ∃ t g, s.contextSample b = t ∧ s.OnlyBoom t b ∧ s.PhaseEntered t b h g .mixing ∧ g.mixSum = 0 ∧
        g.mixStart = none)) ∧
  (∀ (s : State) (b : Slot) (h : Hole) (p : Profile) (a : Anchor) (n : Nat), (s.boom b).running = some (.active, h) →
    s.stopCause b (s.activeConds b (h.sampleTimers (s.depth b) s.clock)) = none →
    h.phase = .drilling → h.plan.target ≤ s.depth b → s.fits b = true → s.flowQuiet → s.drive = some true →
    s.link.silent = false → (s.boom b).posted = 0 → (s.boom b).profile.cond = .opened →
    p = (((s.boom b).profile.sample (strataFigures s.params h.plan.recipe) (s.depth b)
          (s.boom b).inForce).1.closePartial (strataFigures s.params h.plan.recipe)).1 →
    a = p.assess s.params h.plan.recipe.encapsulation →
    n = baseCount h.plan.recipe +
      (if a.grade = .fair ∨ (a.grade = .poor ∧ CondSet.has (s.boom b).enabled .poorAnchor = false) then 1 else 0) →
    ∃ t g, s.contextSample b = t ∧ s.OnlyBoom t b ∧ (t.boom b).auto.hole = some g ∧ p.cond = .closed ∧ p.interval = none ∧
      (t.boom b).profile = { p with anchor := some a } ∧ g.plan = h.plan ∧ g.drilled = some p.frontier ∧
      g.computed = some n ∧ g.planned = some (min n h.plan.recipe.maxCartridges) ∧
      (a.grade = .poor → CondSet.has (t.boom b).accrued .poorAnchor = true) ∧
      (h.plan.recipe.maxCartridges < n → CondSet.has (t.boom b).accrued .shortResin = true) ∧
      (a.grade = .poor → CondSet.has (s.boom b).enabled .poorAnchor = true →
        ∃ f, s.StoppedBefore t b g f .drilling .retractDrill ∧ f.cause = .poorAnchor ∧ f.operand = a.percent) ∧
      (¬ (a.grade = .poor ∧ CondSet.has (s.boom b).enabled .poorAnchor = true) → h.plan.recipe.maxCartridges < n →
        CondSet.has (s.boom b).enabled .shortResin = true →
        ∃ f, s.StoppedBefore t b g f .drilling .retractDrill ∧ f.cause = .shortResin ∧ f.operand = n) ∧
      ((s.boom b).enabled = 0 → g.phase = .retractDrill ∧ (t.boom b).current = 0 ∧ s.FlowAsked t b g) ∧
      ((a.grade = .poor → CondSet.has (s.boom b).enabled .poorAnchor = false) →
        (h.plan.recipe.maxCartridges < n → CondSet.has (s.boom b).enabled .shortResin = false) →
        ((s.boom b).newlyOut = true → CondSet.has (s.boom b).enabled .sensorRange = false) →
        (((s.boom b).profile.sample (strataFigures s.params h.plan.recipe) (s.depth b) (s.boom b).inForce).2 = true ∨
            (((s.boom b).profile.sample (strataFigures s.params h.plan.recipe) (s.depth b)
              (s.boom b).inForce).1.closePartial (strataFigures s.params h.plan.recipe)).2 = true →
          CondSet.has (s.boom b).enabled .voidStruck = false) →
        g.phase = .retractDrill ∧ (t.boom b).current = 0 ∧ (t.boom b).seen = Quad.fill false ∧ s.FlowAsked t b g))

/-- A fall of drive-enable, by the state of each boom: outputs zero everywhere, DRIVE_LOST for a moving cycle, DRIVE_HELD for a
retract, a takeover stopped in place, nothing for a boom that waits or stands (R47, R57, R141, R157, R162). A boom that waits is
as it was unless the flow a stopped boom gives back is granted to it: then the motion-start check stops its cycle too, and its
retract is held (R28, R47, R161). That is the fall as it is read. Before it is read the outputs alone are zero, a loader command
on the harness is lost, and its handshake stands (R57, R62). A sample with drive-enable absent does each of these by R57's
table. That the fall is a command of its own, of the input and, when it comes again, of its reading, is the model's choice (log
entry 3). -/
def Obligations.DriveFallStopsMotion : Prop :=
  (∀ s : State, s.drive = some true → s.driveLine = some false → s.flowQuiet → s.unhurried → s.requested = none →
    ∃ t, exec .driveEnableFall s = .next t ∧ t.drive = some false ∧ t.driveLine = some false ∧
      State.SameStore { s with drive := some false } t ∧
      State.SameLists s t ∧ (∀ b, t.outputs b = Outputs.rest) ∧
      (∀ b sub h, s.fits b = true → (s.boom b).running = some (sub, h) → sub = .active ∨ sub = .reEngage →
        t.boom b = s.boomStopped b h .driveLost 0 s.clock ∧ t.grant b = s.grantStopped b h.phase) ∧
      (∀ b sub h, s.fits b = true → (s.boom b).running = some (sub, h) → sub = .waitFlow ∨ sub = .backedOff →
        t.boom b = s.boom b ∧ t.grant b = s.grant b) ∧
      (∀ b h, s.fits b = true → (s.boom b).level = 0 → (s.boom b).auto = .abandoning .active h →
        t.boom b = { s.boom b with auto := .abandoning .driveHeld h, feed := 0, rotation := 0 } ∧ t.grant b = s.grant b) ∧
      (∀ b m, s.fits b = true → (s.boom b).level = 1 → (s.boom b).manual = some m →
        t.boom b = { s.boom b with feed := 0, rotation := 0, manual := some { m with hold := none } } ∧
        t.grant b = s.grant b) ∧
      (∀ b r, s.fits b = true → (s.boom b).retract = some r → r.sub = .active →
        t.boom b = { s.boom b with retract := some { r with sub := .driveHeld }, feed := 0, rotation := 0 } ∧
        t.grant b = s.grant b) ∧
      (∀ b, s.fits b = true → (s.boom b).level = 0 → (∀ sub h, (s.boom b).auto ≠ .cycle sub h) →
        (∀ h, (s.boom b).auto ≠ .abandoning .active h) → t.boom b = s.boom b ∧ t.grant b = s.grant b) ∧
      (∀ b r, s.fits b = true → (s.boom b).retract = some r → r.sub ≠ .active →
        t.boom b = s.boom b ∧ t.grant b = s.grant b)) ∧
  (∀ s : State, s.drive = some true → s.driveLine = some false → s.unhurried → s.requested = none →
    ∃ t, exec .driveEnableFall s = .next t ∧ t.drive = some false ∧ t.driveLine = some false ∧
      State.SameStore { s with drive := some false } t ∧
      State.SameLists s t ∧ (∀ b, t.outputs b = Outputs.rest) ∧
      (∀ b sub h, s.fits b = true → (s.boom b).running = some (sub, h) → sub = .waitFlow ∨ sub = .backedOff →
        (t.boom b = s.boom b ∧ t.grant b = s.grant b) ∨
          ∃ f g, (t.boom b).auto = .exception f g ∧ f.kind = .inPhase ∧ f.cause = .driveLost ∧ f.operand = 0 ∧
            f.phase = h.phase ∧ g.phase = h.phase ∧ (t.boom b).feed = 0 ∧ (t.boom b).rotation = 0 ∧
            (t.boom b).handshake = .none ∧ (t.boom b).chuck = (s.boom b).chuck) ∧
      (∀ b h, s.fits b = true → (s.boom b).level = 0 → (s.boom b).auto = .abandoning .waitFlow h →
        (t.boom b = s.boom b ∧ t.grant b = s.grant b) ∨
          t.boom b = { s.boom b with auto := .abandoning .driveHeld h, feed := 0, rotation := 0 }) ∧
      (∀ b r, s.fits b = true → (s.boom b).retract = some r → r.sub = .waitFlow →
        (t.boom b = s.boom b ∧ t.grant b = s.grant b) ∨
          t.boom b = { s.boom b with retract := some { r with sub := .driveHeld }, feed := 0, rotation := 0 }) ∧
      (∀ b m, s.fits b = true → (s.boom b).level = 1 → (s.boom b).manual = some m →
        t.boom b = { s.boom b with feed := 0, rotation := 0, manual := some { m with hold := none } } ∨
          t.boom b = { s.boom b with feed := 0, rotation := 0, manual := some { m with sub := .ready, hold := none } }) ∧
      (∀ b, s.fits b = true → (s.boom b).level = 0 → (∀ sub h, (s.boom b).auto ≠ .cycle sub h) →
        (∀ h, (s.boom b).auto ≠ .abandoning .active h) → (∀ h, (s.boom b).auto ≠ .abandoning .waitFlow h) →
        t.boom b = s.boom b ∧ (s.arbiter.entryOf (.boom b) = none → t.grant b = s.grant b)) ∧
      (∀ b r, s.fits b = true → (s.boom b).retract = some r → r.sub = .driveHeld ∨ r.sub = .retracted →
        t.boom b = s.boom b ∧ (s.arbiter.entryOf (.boom b) = none → t.grant b = s.grant b))) ∧
  (∀ s : State, s.unhurried → s.settled →
    (s.driveLine = some false → s.drive ≠ some true → exec .driveEnableFall s = .next s.noted.startNext) ∧
    (s.driveLine ≠ some false → ∃ t, exec .driveEnableFall s = .next t ∧ State.SameStore { s with driveLine := some false } t ∧
      State.SameLists s t ∧ t.arbiter = s.arbiter ∧ (∀ b, t.outputs b = Outputs.rest) ∧
      ∀ b, s.fits b = true → t.boom b = { s.boom b with loaderOut := none })) ∧
  (∀ (s : State) (b : Slot), s.drive ≠ some true →
    (∀ sub h, s.fits b = true → s.flowQuiet → (s.boom b).running = some (sub, h) → sub = .active ∨ sub = .reEngage →
      ∃ t f g, s.contextSample b = t ∧ s.OnlyBoom t b ∧ (t.boom b).auto = .exception f g ∧ f.kind = .inPhase ∧
        f.cause = .driveLost ∧ f.operand = 0 ∧ f.phase = h.phase ∧ CondSet.has f.current .driveLost = true ∧
        g.phase = h.phase ∧ g.exceptions = min (h.exceptions + 1) 65535 ∧ (t.boom b).feed = 0 ∧
        (t.boom b).rotation = 0 ∧ (t.boom b).handshake = .none ∧ (t.boom b).chuck = (s.boom b).chuck ∧
        (t.boom b).profile = (s.boom b).profile ∧ t.grant b = s.grantStopped b h.phase ∧
        t.link.exceptionReport.get b = some f ∧ t.link.boomStatus.get b = true) ∧
    (∀ sub h, (s.boom b).running = some (sub, h) → sub = .waitFlow ∨ sub = .backedOff →
      ∃ x, s.contextSample b = s.setBoom b x ∧ x.auto = .cycle sub h ∧ x.feed = (s.boom b).feed ∧
        x.rotation = (s.boom b).rotation ∧ x.chuck = (s.boom b).chuck) ∧
    (∀ h, (s.boom b).level = 0 → (s.boom b).auto = .abandoning .active h →
      (s.contextSample b).boom b = { s.boom b with auto := .abandoning .driveHeld h, feed := 0, rotation := 0 } ∧
      (s.contextSample b).grant b = s.grant b ∧ s.OnlyBoom (s.contextSample b) b) ∧
    (∀ m, (s.boom b).level = 1 → (s.boom b).manual = some m →
      s.contextSample b =
        s.setBoom b { s.boom b with feed := 0, rotation := 0, manual := some { m with hold := none } }) ∧
    (∀ r, (s.boom b).retract = some r → r.sub = .active →
      (s.contextSample b).boom b =
        { s.boom b with retract := some { r with sub := .driveHeld }, feed := 0, rotation := 0 } ∧
      (s.contextSample b).grant b = s.grant b ∧ s.OnlyBoom (s.contextSample b) b) ∧
    ((s.boom b).level = 0 → (∀ sub h, (s.boom b).auto ≠ .cycle sub h) → (∀ h, (s.boom b).auto ≠ .abandoning .active h) →
      (∀ p, (s.boom b).auto ≠ .observing p) → s.contextSample b = s) ∧
    (∀ r, (s.boom b).retract = some r → r.sub ≠ .active → s.contextSample b = s))

/-- A return of drive-enable: a held retract becomes ACTIVE with a new retract motion, and nothing else starts: a boom in any
other context, a takeover, an exception or a waiting or resting retract among them, is as it was but for the memory of what its
CHUCK output shows again (R47, R57, R141, R157, R162, R164). That is the return as it is read. Before it is read every output
again shows what its context asks for, and nothing else has changed (R57). That the return is a command of its own, of the input
and, when it comes again, of its reading, is the model's choice (log entry 3). -/
def Obligations.DriveReturnResumesRetracts : Prop :=
  (∀ s : State, s.drive = some false → s.driveLine = some true → s.unhurried → s.requested = none →
    ∃ t, exec .driveEnableReturn s = .next t ∧ t.drive = some true ∧
      State.SameStore { s with drive := some true } t ∧
      State.SameLists s t ∧ t.arbiter = s.arbiter ∧
      (∀ b h, s.fits b = true → (s.boom b).level = 0 → (s.boom b).auto = .abandoning .driveHeld h →
        (t.boom b).auto = .abandoning .active { h with retractTicks := 0 } ∧
        (t.boom b).feed = -(s.params.retractFeed : Int) ∧ (t.boom b).rotation = 0) ∧
      (∀ b r, s.fits b = true → (s.boom b).retract = some r → r.sub = .driveHeld →
        (t.boom b).retract = some { r with sub := .active, ticks := 0 } ∧
        (t.boom b).feed = -(s.params.retractFeed : Int) ∧ (t.boom b).rotation = 0) ∧
      (∀ b sub h, s.fits b = true → (s.boom b).running = some (sub, h) →
        (t.boom b).auto = .cycle sub h ∧ (t.boom b).feed = (s.boom b).feed ∧ (t.boom b).rotation = (s.boom b).rotation) ∧
      (∀ b, s.fits b = true → (∀ r, (s.boom b).retract = some r → r.sub ≠ .driveHeld) →
        (∀ h, (s.boom b).level = 0 → (s.boom b).auto ≠ .abandoning .driveHeld h) →
        t.boom b = ({ s with drive := some true } : State).noted.boom b ∧ t.grant b = s.grant b)) ∧
  (∀ s : State, s.unhurried → s.settled →
    (s.driveLine = some true → s.drive ≠ some false → exec .driveEnableReturn s = .next s.noted.startNext) ∧
    (s.driveLine ≠ some true → ∃ t, exec .driveEnableReturn s = .next t ∧
      t = ({ s with driveLine := some true } : State).noted.startNext ∧
      ∀ b, s.fits b = true → s.mode ≠ .config →
        t.outputs b =
          { feed := (s.boom b).feed, rotation := (s.boom b).rotation, chuck := (s.boom b).chuck,
            loader := (s.boom b).loaderOut }))

/-- An assertion of the retract line in RUN puts every fitted boom at level 2, with its chuck commanded OPEN unless it was there
already; outside RUN an assertion makes no sweep, and in every mode a release pops nothing (R160, R161, step 1). That an
assertion or release as a command of its own reaches the booms at once is the model's choice (log entry 3). -/
def Obligations.RetractLineSweeps : Prop :=
  ∀ s : State, s.unhurried →
    (s.retractLine = some false → s.mode = .run → s.requested = none →
      ∃ t, exec .retractLineAssert s = .next t ∧ State.SameStore { s with retractLine := some true } t ∧
        t.queues = s.queues ∧
        ∀ b, s.fits b = true → (t.boom b).level = 2 ∧ ((s.boom b).level ≠ 2 → (t.boom b).chuck = .opened) ∧
          Boom.SameReadings (s.boom b) (t.boom b)) ∧
    (s.settled →
      (s.retractLine = some false → s.mode ≠ .run →
        exec .retractLineAssert s = .next ({ s with retractLine := some true } : State).noted.startNext) ∧
      (s.retractLine = some true →
        exec .retractLineRelease s = .next ({ s with retractLine := some false } : State).noted.startNext))

/-! ## The loader -/

/-- The loader handshake. An ACTIVE sample of RESIN_LOAD short of its planned count, or of BOLT_LOAD without its bolt, issues a
PUSH or an INDEX when none stands, issues the second attempt when one is due, and leaves an outstanding one; a finished load or
a loaded bolt enters the next phase. DONE completes the command: a PUSH raises the loaded count by one, an INDEX closes the
chuck on the bolt and clears the chuck-released flag. FAULT on attempt 1 leaves the second attempt due, and on attempt 2
LOADER_JAM stops the boom. With nothing outstanding both are ignored (R23, R26, R33, R58, R59, R60, R92, R134). -/
def Obligations.LoaderAnswers : Prop :=
  (∀ (b : Slot) (s : State), s.fits b = true → s.unhurried →
     (∀ sub h n t, (s.boom b).running = some (sub, h) → (s.boom b).handshake = .outstanding .push n t →
       exec (.loaderDone b) s =
         .next (s.setBoom b { s.boom b with
           handshake := .none, auto := .cycle sub { h with loaded := h.loaded + 1 } }).noted.startNext) ∧
     (∀ sub h n t, (s.boom b).running = some (sub, h) → (s.boom b).handshake = .outstanding .index n t →
       exec (.loaderDone b) s =
         .next (s.setBoom b { s.boom b with
           handshake := .none, chuck := .closed,
           auto := .cycle sub { h with indexDone := true, chuckReleased := false } }).noted.startNext) ∧
     (∀ c t, s.settled → (s.boom b).handshake = .outstanding c 1 t →
       exec (.loaderFault b) s = .next (s.setBoom b { s.boom b with handshake := .reissueDue c }).noted.startNext) ∧
     (∀ c t sub h, s.waitsAlone b → (s.boom b).running = some (sub, h) → (s.boom b).handshake = .outstanding c 2 t →
       exec (.loaderFault b) s = .next (s.stopped b h .loaderJam 0 s.clock).noted.startNext) ∧
     (s.settled → (∀ c n t, (s.boom b).handshake ≠ .outstanding c n t) →
       exec (.loaderDone b) s = .next s.noted.startNext ∧ exec (.loaderFault b) s = .next s.noted.startNext)) ∧
  (∀ (s : State) (b : Slot) (h : Hole) (cmd : LoaderCmd), (s.boom b).running = some (.active, h) →
    s.stopCause b (s.activeConds b (h.sampleTimers (s.depth b) s.clock)) = none →
    (cmd = .push ∧ h.phase = .resinLoad ∧ h.loaded ≠ h.planned.getD 0) ∨
      (cmd = .index ∧ h.phase = .boltLoad ∧ h.indexDone = false) →
    ∃ x, s.contextSample b = s.setBoom b x ∧ x.auto = .cycle .active h ∧ x.feed = 0 ∧ x.rotation = 0 ∧
      (cmd = .push → x.chuck = (s.boom b).chuck) ∧ (cmd = .index → x.chuck = .opened) ∧
      ((s.boom b).handshake = .none → x.handshake = .outstanding cmd 1 s.clock ∧ x.loaderOut = some cmd) ∧
      ((s.boom b).handshake = .reissueDue cmd → x.handshake = .outstanding cmd 2 s.clock ∧ x.loaderOut = some cmd) ∧
      (∀ c n t, (s.boom b).handshake = .outstanding c n t →
        x.handshake = .outstanding c n t ∧ x.loaderOut = (s.boom b).loaderOut) ∧
      Boom.SameReadings (s.boom b) x) ∧
  (∀ (s : State) (b : Slot) (h : Hole), (s.boom b).running = some (.active, h) →
    s.stopCause b (s.activeConds b (h.sampleTimers (s.depth b) s.clock)) = none →
    s.flowQuiet → s.drive = some true → s.link.silent = false → (s.boom b).posted = 0 →
    CondSet.has (s.boom b).enabled .sensorRange = false →
    (h.phase = .resinLoad → h.loaded = h.planned.getD 0 →
      ∃ t g, s.contextSample b = t ∧ s.OnlyBoom t b ∧ s.PhaseEntered t b h g .boltLoad ∧ g.loaded = h.loaded ∧
        g.indexDone = false) ∧
    (h.phase = .boltLoad → h.indexDone = true →
      ∃ t g, s.contextSample b = t ∧ s.OnlyBoom t b ∧ s.PhaseEntered t b h g .inserting ∧ g.loaded = h.loaded))

/-! ## Timers and counts of a boom -/

/-- The immediate conditions of the timers and counts: each, at its limit at the tick falling due, stops the boom with R134's
fixed response, its frame in every field, its reports queued, and the rest of the part as it was. That the event as a command of
its own belongs to the tick falling due is the model's choice (log entry 2). Of a boom's own part of the tick: a thrust at its
ceiling stops it with OVER_THRUST in COLLARING, DRILLING, INSERTING and MIXING, its profile taking nothing in, a position-loss
run count at 20 stops it with POSITION_LOST in ACTIVE and RE_ENGAGE, and a channel newly out of range raises SENSOR_RANGE,
posted when enabled, which never stops it there (R25, R52, R54, R55, R66, R131, R133). -/
def Obligations.TimersStopTheBoom : Prop :=
  (∀ (b : Slot) (s : State) (sub : CycleSub) (h : Hole), s.fits b = true → s.unhurried → s.waitsAlone b →
     (s.boom b).running = some (sub, h) →
     (∀ c n t, (s.boom b).handshake = .outstanding c n t →
       (match c with | .push => s.params.loadTimeout | .index => 2 * s.params.loadTimeout) ≤
         10 * ticksSince (s.clock + 1) t →
       exec (.loadTimeout b) s = .next (s.stopped b h .loaderJam 0 (s.clock + 1)).noted.startNext) ∧
     (sub = .active → h.phase = .collaring ∨ h.phase = .drilling ∨ h.phase = .inserting →
       s.params.stallWindow ≤ 10 * (h.stallTicks + 1) →
       exec (.feedStall b) s =
         .next (s.stopped b { h with stallTicks := h.stallTicks + 1 } .feedStall 0 (s.clock + 1)).noted.startNext) ∧
     (sub = .active → h.phase = .retractDrill ∨ (h.phase = .releasing ∧ h.releaseFeeding = true) →
       s.params.retractTimeout ≤ 10 * (h.retractTicks + 1) →
       exec (.retractTimeout b) s =
         .next (s.stopped b { h with retractTicks := h.retractTicks + 1 } .retractTimeout 0 (s.clock + 1)).noted.startNext) ∧
     (∀ t, sub = .active → h.phase = .mixing → h.mixDone s.params (s.depth b) = false → h.mixStart = some t →
       h.plan.recipe.mixTimeMax ≤ 10 * ticksSince (s.clock + 1) t →
       exec (.mixShort b) s =
         .next (s.stopped b h .mixShort (10 * h.resinAge (s.clock + 1)) (s.clock + 1)).noted.startNext) ∧
     (sub = .active ∨ sub = .reEngage → (s.boom b).posLoss = 20 →
       exec (.positionLost b) s = .next (s.stopped b h .positionLost 0 (s.clock + 1)).noted.startNext)) ∧
  (∀ (s : State) (b : Slot) (h : Hole) (v : Nat), (s.boom b).running = some (.active, h) → s.fits b = true → s.flowQuiet →
    s.drive = some true → (s.boom b).posLoss ≠ 20 →
    h.phase = .collaring ∨ h.phase = .drilling ∨ h.phase = .inserting ∨ h.phase = .mixing →
    (s.boom b).inForce.thrust = some v → h.plan.recipe.thrustCeiling ≤ v →
    ∃ t f g, s.contextSample b = t ∧ s.OnlyBoom t b ∧ (t.boom b).auto = .exception f g ∧ f.kind = .inPhase ∧
      f.cause = .overThrust ∧ f.operand = 0 ∧ f.phase = h.phase ∧ CondSet.has f.current .overThrust = true ∧
      g.phase = h.phase ∧ g.exceptions = min (h.exceptions + 1) 65535 ∧ (t.boom b).feed = 0 ∧ (t.boom b).rotation = 0 ∧
      (t.boom b).chuck = (s.boom b).chuck ∧ (t.boom b).profile = (s.boom b).profile ∧
      t.grant b = s.grantStopped b h.phase ∧ t.link.exceptionReport.get b = some f ∧ t.link.boomStatus.get b = true) ∧
  (∀ (s : State) (b : Slot) (sub : CycleSub) (h : Hole), (s.boom b).running = some (sub, h) →
    sub = .active ∨ sub = .reEngage → s.fits b = true → s.flowQuiet → s.drive = some true → (s.boom b).posLoss = 20 →
    ∃ t f g, s.contextSample b = t ∧ s.OnlyBoom t b ∧ (t.boom b).auto = .exception f g ∧ f.kind = .inPhase ∧
      f.cause = .positionLost ∧ f.operand = 0 ∧ f.phase = h.phase ∧ CondSet.has f.current .positionLost = true ∧
      g.phase = h.phase ∧ g.exceptions = min (h.exceptions + 1) 65535 ∧ (t.boom b).feed = 0 ∧ (t.boom b).rotation = 0 ∧
      (t.boom b).handshake = .none ∧ (t.boom b).chuck = (s.boom b).chuck ∧ (t.boom b).profile = (s.boom b).profile ∧
      t.grant b = s.grantStopped b h.phase ∧ t.link.exceptionReport.get b = some f ∧ t.link.boomStatus.get b = true) ∧
  (∀ (s : State) (b : Slot) (sub : CycleSub) (h : Hole), (s.boom b).running = some (sub, h) →
    sub = .waitFlow ∨ sub = .backedOff ∨
      (sub = .active ∧ h.phase = .retractDrill ∧ 10 * s.params.homeTolerance < s.depth b ∧
        s.stopCause b (s.activeConds b (h.sampleTimers (s.depth b) s.clock)) = none) →
    ∃ x, s.contextSample b = s.setBoom b x ∧ x.seen = (s.boom b).markSeen.seen ∧
      ((s.boom b).newlyOut = true →
        x.current = CondSet.put (s.boom b).current .sensorRange ∧
        x.accrued = CondSet.put (s.boom b).accrued .sensorRange ∧
        x.posted =
          (if CondSet.has (s.boom b).enabled .sensorRange then CondSet.put (s.boom b).posted .sensorRange
          else (s.boom b).posted)) ∧
      ((s.boom b).newlyOut = false →
        x.current = (s.boom b).current ∧ x.accrued = (s.boom b).accrued ∧ x.posted = (s.boom b).posted))

/-- FLOW_STARVED at WAIT_LIMIT: enabled, it stops the boom with the wait time as operand; masked, the wait is timed afresh from
that tick, the starve count rises, and the entry keeps its place (R122). That it belongs to the tick falling due, and the mark
that says so, are the model's choice (log entry 2). -/
def Obligations.StarvationMaskedOrEnabled : Prop :=
  ∀ (b : Slot) (s : State) (sub : CycleSub) (h : Hole) (e : WaitEntry), s.fits b = true → s.unhurried → s.settled →
    (s.boom b).running = some (sub, h) → s.arbiter.waitList = [e] → e.requester = .boom b → e.cls ≠ .urgent →
    s.params.waitLimit ≤ 10 * ticksSince (s.clock + 1) e.waitStart →
    (CondSet.has (s.boom b).enabled .flowStarved = true →
      exec (.flowStarved b) s =
        .next (s.stopped b h .flowStarved (10 * ticksSince (s.clock + 1) e.waitStart) (s.clock + 1)).noted.startNext) ∧
    (CondSet.has (s.boom b).enabled .flowStarved = false →
      exec (.flowStarved b) s =
        .next
          ({ s with
            booms := s.booms.set b { s.boom b with
              current := CondSet.put (s.boom b).current .flowStarved
              accrued := CondSet.put (s.boom b).accrued .flowStarved
              auto := .cycle sub { h with starves := min (h.starves + 1) 65535 } }
            arbiter := { s.arbiter with
              waitList := [{ e with waitStart := s.clock + 1, waitAhead := true }] } } : State).noted.startNext)

/-- MIXING and HOLDING. At an ACTIVE MIXING sample the speed in force joins the mix sum; with the revolutions met and the bolt
seated HOLDING is entered, else MIXING goes on, or MIX_SHORT stops it when the mix window has elapsed (R93 to R95). A HOLDING
sample before the gel hold holds on. HOLD_TIMER_ELAPSED at an ACTIVE HOLDING boom with nothing posted, or a HOLDING sample at
it, ends HOLDING, and TORQUING is entered, ACTIVE when its demand is covered or granted, else waiting for it at class CURING
(R26, R27, R40, R99). That the event as a command of its own belongs to the tick falling due, and the marks of the entry it
places, are the model's choice (log entry 2). -/
def Obligations.HoldTimerEntersTorquing : Prop :=
  (∀ (b : Slot) (s : State) (h : Hole) (m : Tick), s.fits b = true → s.unhurried → s.flowQuiet →
     (s.boom b).running = some (.active, h) → h.phase = .holding → h.mixEnd = some m →
     h.plan.recipe.gelHold ≤ 10 * ticksSince (s.clock + 1) m → h.chuckReleased = false → h.moved = false →
     (s.boom b).posted = 0 → s.drive = some true → s.link.silent = false →
     ∃ t sub g, exec (.holdTimerElapsed b) s = .next t ∧ (t.boom b).auto = .cycle sub g ∧ g.phase = .torquing ∧
       g.holdEnd = some (s.clock + 1) ∧ g.torqueRun = [] ∧ g.peak = 0 ∧ g.finalTorque = none ∧ g.torqueStart = none ∧
       g.resinAgeAtTorque = some (h.resinAgeAtTorque.getD (h.resinAge (s.clock + 1))) ∧ g.plan = h.plan ∧
       g.loaded = h.loaded ∧ (t.boom b).current = 0 ∧ (t.boom b).accrued = (s.boom b).accrued ∧
       (t.boom b).profile = (s.boom b).profile ∧ Boom.SameReadings (s.boom b) (t.boom b) ∧ State.SameStore s t ∧
       State.SameLists s t ∧ State.SameOthers s t b ∧
       (if min s.params.demandTorquing s.params.pumpCapacity ≤ s.grant b ∨
           min s.params.demandTorquing s.params.pumpCapacity - s.grant b ≤ s.free then
         sub = .active ∧ t.grant b = min s.params.demandTorquing s.params.pumpCapacity ∧ t.arbiter.waitList = []
       else
         sub = .waitFlow ∧ t.grant b = s.grant b ∧ (t.boom b).feed = 0 ∧ (t.boom b).rotation = 0 ∧
         t.arbiter.waitList =
           [{ requester := .boom b, cls := .curing, demand := min s.params.demandTorquing s.params.pumpCapacity,
              join := s.clock + 1, waitStart := s.clock + 1, backedOff := false, joinAhead := true,
              waitAhead := true }])) ∧
  (∀ (s : State) (b : Slot) (h : Hole) (sum : Nat) (start : Tick), (s.boom b).running = some (.active, h) →
    s.stopCause b (s.activeConds b (h.sampleTimers (s.depth b) s.clock)) = none →
    h.phase = .mixing → sum = h.mixSum + (s.boom b).inForce.speed.getD 0 → start = h.mixStart.getD s.clock →
    (6000 * h.plan.recipe.mixRevs ≤ sum → h.drilled.getD 0 - 10 * s.params.seatTolerance ≤ s.depth b →
      h.chuckReleased = false → h.moved = false → s.flowQuiet → s.drive = some true → s.link.silent = false →
      (s.boom b).posted = 0 → CondSet.has (s.boom b).enabled .sensorRange = false →
      ∃ t g, s.contextSample b = t ∧ s.OnlyBoom t b ∧ s.PhaseEntered t b h g .holding ∧ g.mixEnd = some s.clock ∧
        g.mixSum = sum ∧ g.mixStart = some start ∧ g.resinStart = some (h.resinStart.getD s.clock)) ∧
    (sum < 6000 * h.plan.recipe.mixRevs ∨ s.depth b < h.drilled.getD 0 - 10 * s.params.seatTolerance →
      (10 * ticksSince s.clock start < h.plan.recipe.mixTimeMax →
        ∃ x, s.contextSample b = s.setBoom b x ∧ x.feed = h.plan.recipe.mixFeed ∧
          x.rotation = h.plan.recipe.mixRotation ∧
          x.auto =
            .cycle .active
              { h with mixSum := sum, mixStart := some start, resinStart := some (h.resinStart.getD s.clock) }) ∧
      (h.plan.recipe.mixTimeMax ≤ 10 * ticksSince s.clock start → s.flowQuiet →
        ∃ t f g, s.contextSample b = t ∧ s.OnlyBoom t b ∧ (t.boom b).auto = .exception f g ∧ f.kind = .inPhase ∧
          f.cause = .mixShort ∧ f.operand = 10 * ticksSince s.clock (h.resinStart.getD s.clock) ∧ g.mixSum = sum ∧
          t.grant b = s.grantStopped b .mixing))) ∧
  (∀ (s : State) (b : Slot) (h : Hole) (m : Tick), (s.boom b).running = some (.active, h) →
    s.stopCause b (s.activeConds b (h.sampleTimers (s.depth b) s.clock)) = none →
    h.phase = .holding → h.mixEnd = some m →
    (10 * ticksSince s.clock m < h.plan.recipe.gelHold →
      ∃ x, s.contextSample b = s.setBoom b x ∧ x.auto = .cycle .active h ∧ x.feed = s.params.holdFeed ∧ x.rotation = 0) ∧
    (h.plan.recipe.gelHold ≤ 10 * ticksSince s.clock m → h.chuckReleased = false → h.moved = false → s.flowQuiet →
      s.drive = some true → s.link.silent = false → (s.boom b).posted = 0 →
      CondSet.has (s.boom b).enabled .sensorRange = false →
      ∃ t g, s.contextSample b = t ∧ s.OnlyBoom t b ∧ s.PhaseEntered t b h g .torquing ∧ g.holdEnd = some s.clock ∧
        g.torqueRun = [] ∧ g.peak = 0))

/-- TORQUING ends on the third sample in a row at the target torque, with the smallest of the three as final torque, or at
TORQUE_TIMEOUT on the peak torque; a sample below the target or dropped empties the run. The tension is worked out from the
final torque; when nothing raised is enabled the hole goes on into RELEASING, and an enabled UNDER_TENSION or TORQUE_TIMEOUT
stops it at the boundary (R100 to R104, R136). That the timeout as a command of its own belongs to the tick falling due is the
model's choice (log entry 2). -/
def Obligations.TorqueTimeoutEndsOnPeak : Prop :=
  (∀ (b : Slot) (s : State) (h : Hole) (m : Tick), s.fits b = true → s.unhurried → s.flowQuiet →
     (s.boom b).running = some (.active, h) → h.phase = .torquing → h.torqueRun.length < 3 → h.torqueStart = some m →
     h.plan.recipe.torqueTimeout ≤ 10 * ticksSince (s.clock + 1) m → s.drive = some true → s.link.silent = false →
     min s.params.demandReleasing s.params.pumpCapacity ≤ s.grant b →
     ∃ t g, exec (.torqueTimeout b) s = .next t ∧ (t.boom b).auto.hole = some g ∧ g.phase = .releasing ∧
       g.finalTorque = some h.peak ∧ g.tension = some (tensionOf h.plan.recipe h.peak) ∧ g.peak = h.peak ∧ g.plan = h.plan ∧
       CondSet.has (t.boom b).accrued .torqueTimeout = true ∧
       (tensionOf h.plan.recipe h.peak < h.plan.recipe.tensionMin →
         CondSet.has (t.boom b).accrued .underTension = true) ∧
       ((s.boom b).posted = 0 → (s.boom b).enabled = 0 →
         (∃ k, (t.boom b).auto = .cycle .active k) ∧ (t.boom b).current = 0 ∧
         t.grant b = min s.params.demandReleasing s.params.pumpCapacity) ∧
       ((s.boom b).posted = 0 → CondSet.has (s.boom b).enabled .torqueTimeout = false →
         (tensionOf h.plan.recipe h.peak < h.plan.recipe.tensionMin →
           CondSet.has (s.boom b).enabled .underTension = false) →
         (h.plan.recipe.tensionMin ≤ tensionOf h.plan.recipe h.peak →
           h.plan.recipe.tensionMax < tensionOf h.plan.recipe h.peak →
           CondSet.has (s.boom b).enabled .overTension = false) →
         (∃ k, (t.boom b).auto = .cycle .active k) ∧ (t.boom b).current = 0 ∧
         t.grant b = min s.params.demandReleasing s.params.pumpCapacity) ∧
       ((s.boom b).posted = 0 → CondSet.has (s.boom b).enabled .torqueTimeout = true →
         ∃ f, (t.boom b).auto = .exception f g ∧ f.kind = .prePhase ∧ f.cause = .torqueTimeout ∧ f.operand = h.peak ∧
           f.raisedIn = .torquing ∧ f.phase = .releasing ∧
           t.grant b = min (min s.params.demandHolding s.params.pumpCapacity) (s.grant b)) ∧
       Boom.SameReadings (s.boom b) (t.boom b) ∧ State.SameStore s t ∧ State.SameLists s t ∧ State.SameOthers s t b) ∧
  (∀ (s : State) (b : Slot) (h : Hole) (x y q : Nat), (s.boom b).running = some (.active, h) →
    s.stopCause b (s.activeConds b (h.sampleTimers (s.depth b) s.clock)) = none →
    h.phase = .torquing → h.torqueRun = [x, y] → (s.boom b).inForce.torque = some q → h.plan.recipe.targetTorque ≤ q →
    s.fits b = true → s.flowQuiet → s.drive = some true → s.link.silent = false → (s.boom b).posted = 0 →
    ∃ t g, s.contextSample b = t ∧ s.OnlyBoom t b ∧ (t.boom b).auto.hole = some g ∧ g.phase = .releasing ∧
      g.plan = h.plan ∧ g.finalTorque = some (min x (min y q)) ∧
      g.tension = some (tensionOf h.plan.recipe (min x (min y q))) ∧ g.peak = max h.peak q ∧
      (tensionOf h.plan.recipe (min x (min y q)) < h.plan.recipe.tensionMin →
        CondSet.has (t.boom b).accrued .underTension = true) ∧
      (h.plan.recipe.tensionMin ≤ tensionOf h.plan.recipe (min x (min y q)) →
        h.plan.recipe.tensionMax < tensionOf h.plan.recipe (min x (min y q)) →
        CondSet.has (t.boom b).accrued .overTension = true) ∧
      (tensionOf h.plan.recipe (min x (min y q)) < h.plan.recipe.tensionMin →
        CondSet.has (s.boom b).enabled .underTension = true →
        ∃ f, s.StoppedBefore t b g f .torquing .releasing ∧ f.cause = .underTension ∧
          f.operand = tensionOf h.plan.recipe (min x (min y q))) ∧
      ((s.boom b).enabled = 0 → (t.boom b).current = 0 ∧ s.FlowAsked t b g) ∧
      ((tensionOf h.plan.recipe (min x (min y q)) < h.plan.recipe.tensionMin →
          CondSet.has (s.boom b).enabled .underTension = false) →
        (h.plan.recipe.tensionMin ≤ tensionOf h.plan.recipe (min x (min y q)) →
          h.plan.recipe.tensionMax < tensionOf h.plan.recipe (min x (min y q)) →
          CondSet.has (s.boom b).enabled .overTension = false) →
        ((s.boom b).newlyOut = true → CondSet.has (s.boom b).enabled .sensorRange = false) →
        (t.boom b).current = 0 ∧ s.FlowAsked t b g)) ∧
  (∀ (s : State) (b : Slot) (h : Hole) (run : List Nat) (start : Tick), (s.boom b).running = some (.active, h) →
    s.stopCause b (s.activeConds b (h.sampleTimers (s.depth b) s.clock)) = none →
    h.phase = .torquing → start = h.torqueStart.getD s.clock →
    (∃ q, (s.boom b).inForce.torque = some q ∧ h.plan.recipe.targetTorque ≤ q ∧ h.torqueRun.length < 2 ∧
        run = h.torqueRun ++ [q]) ∨
      ((∀ q, (s.boom b).inForce.torque = some q → q < h.plan.recipe.targetTorque) ∧ run = []) →
    10 * ticksSince s.clock start < h.plan.recipe.torqueTimeout →
    ∃ x, s.contextSample b = s.setBoom b x ∧ x.feed = s.params.holdFeed ∧ x.rotation = h.plan.recipe.torqueRotation ∧
      x.auto =
        .cycle .active
          { h with torqueRun := run, torqueStart := some start,
                   peak := max h.peak ((s.boom b).inForce.torque.getD 0) })

/-- GEL_LIMIT_REACHED: from the tick at which the resin age reaches the gel limit, the limit is marked reached in the hole,
whether it runs or stands in an exception, and nothing else changes (R42, R96). The mark, and that the event as a command of its
own belongs to the tick falling due and comes ahead of its sample, are the model's choice (log entry 2). -/
def Obligations.GelLimitIsMarked : Prop :=
  ∀ (b : Slot) (s : State) (h : Hole) (m : Tick), s.fits b = true → s.unhurried → h.resinStart = some m →
    h.plan.recipe.gelLimit ≤ 10 * ticksSince (s.clock + 1) m →
    (∀ sub, (s.boom b).auto = .cycle sub h →
      exec (.gelLimitReached b) s =
        .next (s.setBoom b { s.boom b with auto := .cycle sub { h with gelReached := true } }).noted.startNext) ∧
    (∀ f, (s.boom b).auto = .exception f h →
      exec (.gelLimitReached b) s =
        .next (s.setBoom b { s.boom b with auto := .exception f { h with gelReached := true } }).noted.startNext)

/-- An abandon or safety retract whose timer reaches RETRACT_TIMEOUT sets its overdue flag, queues BOOM_STATUS, and goes on; a
takeover whose hold timer reaches MANUAL_HOLD has feed and rotation at 0 and its timer stopped, the chuck command staying (R47,
R156, R162). That the events as commands of their own belong to the tick falling due is the model's choice (log entry 2). -/
def Obligations.InterventionTimersRunOut : Prop :=
  ∀ (b : Slot) (s : State), s.fits b = true → s.unhurried →
    (∀ h, (s.boom b).level = 0 → (s.boom b).auto = .abandoning .active h → h.overdue = false →
      s.params.retractTimeout ≤ 10 * (h.retractTicks + 1) →
      exec (.abandonRetractOverdue b) s =
        .next
          ((s.setBoom b { s.boom b with auto := .abandoning .active { h with overdue := true } }).queueStatus
            b).noted.startNext) ∧
    (∀ r, (s.boom b).retract = some r → r.sub = .active → r.overdue = false →
      s.params.retractTimeout ≤ 10 * (r.ticks + 1) →
      exec (.safeRetractOverdue b) s =
        .next
          ((s.setBoom b { s.boom b with retract := some { r with overdue := true } }).queueStatus b).noted.startNext) ∧
    (∀ m n, (s.boom b).retract = none → (s.boom b).manual = some m → m.hold = some n →
      s.params.manualHold ≤ 10 * (n + 1) →
      exec (.manualHoldExpiry b) s =
        .next
          (s.setBoom b { s.boom b with
            feed := 0, rotation := 0, manual := some { m with hold := none } }).noted.startNext)

/-- How an interval closes. The tick closes a FORCED one itself: a sample that brings the interval to 4095 and does not
reach its length ends the last band at the frontier, marked FORCED, and opens the next interval there, in COLLARING and
DRILLING and in OBSERVING. INTERVAL_FORCED_CLOSE does the same to an interval that holds 4095 samples; that the event as
a command of its own takes in no sample is the model's choice (log entry 2). The rules they rest on are said of every
profile: which samples enter it and the 1 mm tolerance (R67), the close tests (R69), the PARTIAL close (R70), the
energy, class, reference and bands of a close (R71 to R80), the gap test and its UNLOGGED band (R81, R82), a profile
that is not OPEN (R65), and the anchor assessment (R83). Past the end of a band's counts no value is stated (log entry
12), and a FORCED interval without advance goes into the bands as it stands (log entry 14). -/
def Obligations.ForcedCloseStartsAfresh : Prop :=
  (∀ (b : Slot) (s : State) (h : Hole) (iv : Interval), s.fits b = true → s.unhurried →
    (s.boom b).running = some (.active, h) → h.phase = .collaring ∨ h.phase = .drilling →
    (s.boom b).profile.cond = .opened → (s.boom b).profile.interval = some iv → 4095 ≤ iv.samples →
    (s.boom b).profile.frontier < iv.start + 10 * s.params.profileInterval →
    ∃ t x last, exec (.intervalForcedClose b) s = .next t ∧ t = (s.setBoom b x).noted.startNext ∧
      x.auto = (s.boom b).auto ∧ x.profile.frontier = (s.boom b).profile.frontier ∧
      x.profile.interval = some (Interval.opensAt x.profile.frontier) ∧
      x.profile.bands.getLast? = some last ∧ last.isForced = true ∧ last.bottom = x.profile.frontier ∧
      x.feed = (s.boom b).feed ∧ x.rotation = (s.boom b).rotation ∧ x.chuck = (s.boom b).chuck ∧
      x.posted.toNat ≥ (s.boom b).posted.toNat ∧ Boom.SameReadings (s.boom b) x) ∧
  (∀ (b : Slot) (s : State) (h : Hole) (iv : Interval), (s.boom b).running = some (.active, h) →
    (h.phase = .collaring ∧ s.depth b < 10 * h.plan.recipe.collarDepth) ∨
      (h.phase = .drilling ∧ s.depth b < h.plan.target) →
    s.stopCause b (s.activeConds b (h.sampleTimers (s.depth b) s.clock)) = none →
    (s.boom b).profile.cond = .opened → (s.boom b).profile.interval = some iv → iv.samples = 4094 →
    (s.boom b).profile.frontier ≤ s.depth b + 10 →
    max (s.boom b).profile.frontier (s.depth b) < iv.start + 10 * s.params.profileInterval →
    ∃ x last, s.contextSample b = s.setBoom b x ∧ x.auto = .cycle .active (h.sampleTimers (s.depth b) s.clock) ∧
      x.profile.cond = .opened ∧ x.profile.frontier = max (s.boom b).profile.frontier (s.depth b) ∧
      x.profile.interval = some (Interval.opensAt x.profile.frontier) ∧
      x.profile.bands.getLast? = some last ∧ last.isForced = true ∧ last.bottom = x.profile.frontier ∧
      Boom.SameReadings (s.boom b) x) ∧
  (∀ (b : Slot) (s : State) (p : Plan) (iv : Interval), (s.boom b).level = 0 → (s.boom b).auto = .observing p →
    0 < (s.boom b).inForce.speed.getD 0 → (s.boom b).wasEligible = true →
    (s.boom b).profile.cond = .opened → (s.boom b).profile.interval = some iv → iv.samples = 4094 →
    (s.boom b).profile.frontier ≤ s.depth b + 10 →
    max (s.boom b).profile.frontier (s.depth b) < iv.start + 10 * s.params.profileInterval →
    ∃ x last, s.contextSample b = s.setBoom b x ∧ x.auto = .observing p ∧
      x.profile.cond = .opened ∧ x.profile.frontier = max (s.boom b).profile.frontier (s.depth b) ∧
      x.profile.interval = some (Interval.opensAt x.profile.frontier) ∧
      x.profile.bands.getLast? = some last ∧ last.isForced = true ∧ last.bottom = x.profile.frontier ∧
      x.current = (s.boom b).current ∧ x.posted = (s.boom b).posted ∧ Boom.SameReadings (s.boom b) x) ∧
  (∀ (g : StrataFigures) (depth : Nat) (v : Quad (Option Nat)) (p q : Profile) (iv jv : Interval),
    p.cond = .opened → p.interval = some iv → q = { p with frontier := max p.frontier depth } →
    jv = iv.withSample v.thrust v.torque v.speed →
    (depth + 10 < p.frontier → p.sample g depth v = (p, false)) ∧
    (p.frontier ≤ depth + 10 → iv.start + 10 * g.interval ≤ q.frontier →
      ∃ r c, q.Closed g .normal jv r c ∧
        p.sample g depth v = ({ r with interval := some (Interval.opensAt q.frontier) }, c)) ∧
    (p.frontier ≤ depth + 10 → q.frontier < iv.start + 10 * g.interval → 4095 ≤ jv.samples →
      ∃ r c, q.Closed g .forced jv r c ∧
        p.sample g depth v = ({ r with interval := some (Interval.opensAt q.frontier) }, c)) ∧
    (p.frontier ≤ depth + 10 → q.frontier < iv.start + 10 * g.interval → jv.samples < 4095 →
      p.sample g depth v = ({ q with interval := some jv }, false))) ∧
  (∀ (g : StrataFigures) (p : Profile) (iv : Interval), p.cond = .opened → p.interval = some iv →
    (p.frontier < iv.start + 10 → p.closePartial g = ({ p with interval := none, cond := .closed }, false)) ∧
    (iv.start + 10 ≤ p.frontier →
      ∃ r c, p.Closed g .partialClose iv r c ∧ p.closePartial g = ({ r with interval := none, cond := .closed }, c))) ∧
  (∀ (depth : Nat) (p : Profile) (iv : Interval), p.cond = .opened → p.interval = some iv →
    (depth ≤ p.frontier + 10 → p.gapTest depth = p) ∧
    (p.frontier + 10 < depth →
      ∃ r,
        p.Added
          { cls := .unlogged, top := iv.start, bottom := depth, counts := false, se := none, isPartial := false,
            isForced := false, isSuspect := false } r ∧
        p.gapTest depth = { r with frontier := depth, interval := some (Interval.opensAt depth) })) ∧
  (∀ (g : StrataFigures) (depth : Nat) (v : Quad (Option Nat)) (p : Profile), p.cond ≠ .opened →
    p.sample g depth v = (p, false) ∧ p.closePartial g = (p, false) ∧ p.gapTest depth = p) ∧
  (∀ (ps : Params) (encapsulation : Nat) (p : Profile) (z c pc : Nat), z = max p.collarLimit (p.frontier - 10 * encapsulation) →
    c = ((p.bands.filter (fun b => decide (b.cls = .competent ∨ b.cls = .hard))).map
      (fun b => min b.bottom p.frontier - max b.top z)).sum →
    pc = (if z < p.frontier then 100 * c / (p.frontier - z) else 0) →
    (p.assess ps encapsulation).percent = pc ∧
    ((p.assess ps encapsulation).grade = .poor ↔
      p.frontier ≤ z ∨ pc < ps.anchorFairPct ∨
        ∃ b ∈ p.bands, b.cls = .void ∧ max b.top z < min b.bottom p.frontier ∧ 10 * ps.voidLimit < b.bottom - b.top) ∧
    ((p.assess ps encapsulation).grade ≠ .poor →
      (p.assess ps encapsulation).grade = (if pc < ps.anchorGoodPct then .fair else .good)))

/-! ## Link silence and frames -/

/-- LINK_SILENT: the state is entered, LINK_SILENT stops each fitted boom in CYCLE, ACTIVE or RE_ENGAGE, a takeover is stopped
in place, and retracts, observed holes and booms that wait or stand ignore it (R142, R157, R194). The tick is log entry 2's. -/
def Obligations.SilenceStopsMovingBooms : Prop :=
  ∀ s : State, s.link.silent = false → s.params.linkSilence ≠ 0 → s.params.linkSilence ≤ 10 * (s.link.silenceTicks + 1) →
    s.flowQuiet → s.unhurried → s.requested = none →
    ∃ t, exec .linkSilent s = .next t ∧ t.link.silent = true ∧ State.SameStore s t ∧ State.SameLists s t ∧
      (∀ b sub h, s.fits b = true → (s.boom b).running = some (sub, h) → sub = .active ∨ sub = .reEngage →
        (t.boom b).auto = .exception (s.frameAt b h .linkSilent 0 (s.clock + 1)) h.stopped ∧ (t.boom b).feed = 0 ∧
        (t.boom b).rotation = 0 ∧ (t.boom b).chuck = (s.boom b).chuck ∧ t.grant b = s.grantStopped b h.phase) ∧
      (∀ b m, s.fits b = true → (s.boom b).level = 1 → (s.boom b).manual = some m →
        (t.boom b).manual = some { m with hold := none } ∧ (t.boom b).feed = 0 ∧ (t.boom b).rotation = 0 ∧
        (t.boom b).auto = (s.boom b).auto ∧ t.grant b = s.grant b) ∧
      (∀ b, s.fits b = true → (s.boom b).level = 2 →
        (t.boom b).retract = (s.boom b).retract ∧ (t.boom b).feed = (s.boom b).feed ∧ t.grant b = s.grant b) ∧
      (∀ b, s.fits b = true → (s.boom b).level = 0 → (∀ h, (s.boom b).auto ≠ .cycle .active h) →
        (∀ h, (s.boom b).auto ≠ .cycle .reEngage h) → (t.boom b).auto = (s.boom b).auto ∧ t.grant b = s.grant b)

/-- A valid frame that carries a well-formed request does what the request's row does, silence over and its timer restarted
(R189, R190). That the row and the frame are one event is log entry 7. -/
def Obligations.FrameCarriesItsRequest : Prop :=
  ∀ (c : Instr) (tag : Byte) (r : Request) (s : State), c.carries tag r → r.wellFormed = true → s.settled →
    exec (.frameReceived r.kind tag r.payload (crc16 (crcSpan r.kind tag r.payload))) s = exec c s.noted

/-- The assembler's other events: a frame whose CRC differs, or that finds no room in the buffer, or that a gap breaks off,
leaves nothing but an assembler that hunts; in HUNT every byte but the marker is dropped, and the marker starts a frame (R187 to
R189). -/
def Obligations.BadFramesLeaveNoTrace : Prop :=
  ∀ s : State, s.settled → s.unhurried →
    (∀ (kind tag : Byte) (payload : List Byte) (crc : Half),
      payload.length ≤ 1024 → crc16 (crcSpan kind tag payload) ≠ crc ∨ 505 < payload.length →
      exec (.frameReceived kind tag payload crc) s =
        .next ({ s with link := { s.link with assembler := .hunt } } : State).noted.startNext) ∧
    exec .frameGapTimeout s = .next ({ s with link := { s.link with assembler := .hunt } } : State).noted.startNext ∧
    (s.link.assembler = .hunt → ∀ x : Byte, x ≠ 0xC3 → exec (.byteReceived x) s = .next s.noted.startNext) ∧
    (s.link.assembler = .hunt →
      exec (.byteReceived 0xC3) s =
        .next ({ s with link := { s.link with assembler := .header [] } } : State).noted.startNext)

/-- A valid frame whose kind is no request kind is answered UNKNOWN_KIND and ends silence; one whose payload length its kind
does not allow is answered BAD_ARG; neither changes anything else (R189, R190, R199). -/
def Obligations.OddFramesAreAnswered : Prop :=
  ∀ (kind tag : Byte) (payload : List Byte) (s : State), s.ready → s.settled → payload.length ≤ 505 →
    (isRequestKind kind = false →
      exec (.unknownKind kind tag payload) s =
        .next (s.refused (kind ||| 0x80) tag .unknownKind)) ∧
    (decodeRequest kind payload = .badLength →
      exec (.frameReceived kind tag payload (crc16 (crcSpan kind tag payload))) s =
        .next (s.noted.refused (kind ||| 0x80) tag .badArg))

/-- The bytes of a frame, one BYTE_RECEIVED each, bring the Link Unit exactly where the whole frame's reception brings it:
valid, discarded for its CRC, or counted through for want of room. A frame whose length field is above 1024 is given up at that
field and hunted through from the byte after it, byte by byte; a frame in its own envelope is read back as that frame (R187 to
R189, R198). That FRAME_RECEIVED is the moment of a frame's last byte, and that one above 1024 bytes acts as its bytes do, is
log entry 11. -/
def Obligations.BytesMakeTheFrame : Prop :=
  (∀ (kind tag : Byte) (payload : List Byte) (crc : Half) (l : Link), l.assembler = .hunt → payload.length ≤ 1024 →
     (wireBytes kind tag payload crc).foldl Link.receiveByte l = l.receiveFrame kind tag payload crc) ∧
  (∀ (kind tag : Byte) (payload : List Byte) (crc : Half) (l : Link), l.assembler = .hunt → 1024 < payload.length →
    payload.length < 65536 →
    (wireBytes kind tag payload crc).foldl Link.receiveByte l =
      (kind :: tag :: (payload ++ halfBytes crc)).foldl Link.receiveByte l) ∧
  (∀ (kind tag : Byte) (payload : List Byte) (crc : Half) (s : State), s.link.assembler = .hunt → 1024 < payload.length →
    exec (.frameReceived kind tag payload crc) s =
      .next
        ((wireBytes kind tag payload crc).foldl
          (fun t x => match exec (.byteReceived x) t with | .next u => u | .fault _ => t | .refused _ => t) s)) ∧
  (∀ (f : Frame) (l : Link), l.assembler = .hunt → f.payload.length ≤ 505 → f.payload.length + 7 ≤ l.room →
    f.wire.foldl Link.receiveByte l =
      { l with assembler := .hunt, silenceTicks := 0, silent := false, waiting := l.waiting ++ [f] })

/-- FRAME_TRANSMIT_END: the next frame is the reply, else the EXCEPTION report of the lowest slot, MODE, FLOW_GRANTED,
RECORD_READY, and last the BOOM_STATUS of the lowest slot; with nothing queued the transmitter is idle (R192, R193). An
idle transmitter with nothing queued has ended nothing. With a frame queued, as a reset leaves MODE, that frame is the
one that ends, and the next is chosen after it; that it has begun by then is log entry 8. The reports' fields stand
where R199 and R202 put them; what LOG_WAIT and OBSERVING show as their phase is not said (log entry 17). -/
def Obligations.TransmitterChoosesInOrder : Prop :=
  (∀ s : State, s.link.sending = none → s.unhurried →
    (s.startNext = s → exec .frameTransmitEnd s = .next s) ∧
    (∀ f, s.startNext.link.sending = some f → s.link.restarting = false →
      exec .frameTransmitEnd s = .next s.startNext.sent.startNext)) ∧
  (∀ (s : State) (b : Slot),
    LaidOut (s.statusBytes b) 12
      [(0, 1, le1 (slotNum b)), (1, 1, le1 (s.boom b).view.state), (2, 1, le1 (s.boom b).view.phase),
       (3, 1, le1 (s.boom b).view.sub), (4, 1, le1 (s.boom b).view.level), (5, 2, le2 (s.grant b)),
       (7, 2, le2 ((s.boom b).auto.holeId.getD 0)), (9, 2, le2 ((s.boom b).lastGood.position - (s.boom b).p0)),
       (11, 1, le1 (if (s.boom b).overdueShown then 1 else 0))] ∧
    LaidOut s.modeBytes 2
      [(0, 1, le1 (match s.mode with | .config => 0 | .run => 1 | .observe => 2)),
       (1, 1, le1 (match s.requested with | none => 0xFF | some .config => 0 | some .run => 1 | some .observe => 2))] ∧
    LaidOut s.reserveBytes 4
      [(0, 2, le2 s.arbiter.reserve),
       (2, 2, le2 (match s.arbiter.waitList.find? (fun e => e.requester = .reserve) with | none => 0 | some e => e.demand))] ∧
    ModeCause.code .power = 0 ∧ ModeCause.code .restart = 1 ∧ ModeCause.code .change = 2) ∧
  (∀ x : Boom,
    (∀ r, x.retract = some r →
      x.view = { state := 7, phase := 0, level := 2,
                 sub := match r.sub with | .waitFlow => 1 | .active => 2 | .driveHeld => 5 | .retracted => 6 } ∧
      x.overdueShown = r.overdue) ∧
    (∀ m, x.retract = none → x.manual = some m →
      x.view = { state := 6, phase := 0, level := 1, sub := match m.sub with | .waitFlow => 1 | .ready => 7 } ∧
      x.overdueShown = false) ∧
    (x.retract = none → x.manual = none →
      (x.auto = .idle → x.view = { state := 0, phase := 0, sub := 0, level := 0 }) ∧
      (∀ c h, x.auto = .cycle c h →
        x.view = { state := 1, phase := h.phase.num, level := 0,
                   sub := match c with | .waitFlow => 1 | .active => 2 | .backedOff => 3 | .reEngage => 4 }) ∧
      (∀ f h, x.auto = .exception f h → x.view = { state := 2, phase := h.phase.num, sub := 0, level := 0 }) ∧
      (∀ c h, x.auto = .abandoning c h →
        x.view = { state := 3, phase := h.phase.num, level := 0,
                   sub := match c with | .waitFlow => 1 | .active => 2 | .driveHeld => 5 } ∧
        x.overdueShown = h.overdue) ∧
      (∀ r, x.auto = .logWait r → x.view.state = 4 ∧ x.view.sub = 0 ∧ x.view.level = 0) ∧
      (∀ p, x.auto = .observing p → x.view.state = 5 ∧ x.view.sub = 0 ∧ x.view.level = 0))) ∧
  exec .frameTransmitEnd State.reset =
    .next { State.reset with link := { State.reset.link with modeReport := none, sending := none } } ∧
  ∀ (s : State) (f : Frame), s.link.sending = some f → s.link.restarting = false → s.unhurried →
    ∃ l, exec .frameTransmitEnd s = .next { s with link := l } ∧
      (∀ r, s.link.reply = some r → l.sending = some r ∧ l.reply = none ∧ l.exceptionReport = s.link.exceptionReport ∧
        l.modeReport = s.link.modeReport) ∧
      (s.link.reply = none →
        (∀ b e, s.link.exceptionReport.get b = some e → (∀ c, slotNum c < slotNum b → s.link.exceptionReport.get c = none) →
          l.sending = some { kind := 0x71, tag := 0, payload := e.bytes } ∧
          l.exceptionReport = s.link.exceptionReport.set b none) ∧
        ((∀ b, s.link.exceptionReport.get b = none) →
          (∀ c, s.link.modeReport = some c →
            l.sending = some { kind := 0x72, tag := 0, payload := le1 c.code ++ s.modeBytes } ∧ l.modeReport = none) ∧
          (s.link.modeReport = none →
            (s.link.flowGranted = true →
              l.sending = some { kind := 0x73, tag := 0, payload := s.reserveBytes } ∧ l.flowGranted = false) ∧
            (s.link.flowGranted = false →
              (s.link.recordReady = true →
                l.sending = some { kind := 0x74, tag := 0, payload := le1 s.log.length } ∧ l.recordReady = false) ∧
              (s.link.recordReady = false →
                (∀ b, s.link.boomStatus.get b = true → (∀ c, slotNum c < slotNum b → s.link.boomStatus.get c = false) →
                  l.sending = some { kind := 0x70, tag := 0, payload := s.statusBytes b } ∧
                  l.boomStatus = s.link.boomStatus.set b false) ∧
                ((∀ b, s.link.boomStatus.get b = false) → l.sending = none))))))

/-- A request that becomes valid while a reply waits joins the receive buffer and ends silence, and nothing else happens (R189,
R190), whether its row or its frame is the event: that the row is its frame's arrival is log entry 7. -/
def Obligations.RequestsWaitTheirTurn : Prop :=
  ∀ (c : Instr) (tag : Byte) (r : Request) (s : State) (f g : Frame), c.carries tag r →
    s.link.reply = some f → s.link.sending = some g → r.payload.length + 7 ≤ s.link.room →
    ∃ l : Link,
      l = { s.link with
            assembler := .hunt, silenceTicks := 0, silent := false,
            waiting := s.link.waiting ++ [{ kind := r.kind, tag := tag, payload := r.payload }] } ∧
      exec c s = .next { s with link := l } ∧
      (s.settled →
        exec (.frameReceived r.kind tag r.payload (crc16 (crcSpan r.kind tag r.payload))) s =
          .next { s.noted with link := l })

/-- Every request survives its encoding. The bytes that R199 and R201 lay out for a request are read back as that
request, with every argument at every value. -/
def Obligations.RequestsSurviveEncoding : Prop :=
  ∀ r : Request, r.wellFormed = true → decodeRequest r.kind r.payload = .request r

/-- A reply of 8 or above means that the request changed nothing anywhere, for every request, state and argument (R10, R191). -/
def Obligations.RefusalsChangeNothing : Prop :=
  ∀ (r : Request) (s : State), 8 ≤ (handleRequest r s).2.status.code → (handleRequest r s).1 = s

/-! ## Reads -/

/-- GET_STATUS, GET_PARAM, GET_FLOW, GET_RECIPE and GET_QUEUE are taken in every mode, change nothing, and carry what
their rules name, or the refusal these give (R8, R16, R126, R184, R186). The width of GET_PARAM's figure is the model's
choice (log entry 10). The figures stand at the offsets that R201 and R204 give, with their counts and entries; what a
boom block shows before the first tick after a reset is log entry 21, the line states before it and between two ticks
are log entries 3 and 5, and the wait of an entry that a timer row has placed is log entry 2. -/
def Obligations.DeviceAndPlanReads : Prop :=
  (∀ (s : State) (tag a : Byte), s.ready → s.settled →
    exec (.getStatus tag) s = .next (s.heard.noted.answered 0x81 tag (le1 0 ++ s.deviceStatus)) ∧
    exec (.getFlow tag) s = .next (s.heard.noted.answered 0x9A tag (le1 0 ++ s.flowBytes)) ∧
    exec (.getParam tag a) s =
      .next
        (match ParamId.ofCode a.toNat with
          | none => s.refused 0x85 tag .badArg
          | some p => s.heard.noted.answered 0x85 tag (le1 0 ++ le4 (s.params.get p))) ∧
    exec (.getRecipe tag a) s =
      .next
        (match recipeIndex a with
          | none => s.refused 0x88 tag .badArg
          | some i =>
            match s.recipeAt i with
            | none => s.refused 0x88 tag .empty
            | some r => s.heard.noted.answered 0x88 tag (le1 0 ++ r.bytes)) ∧
    exec (.getQueue tag a) s =
      .next
        (match s.slotOf a with
          | none => s.refused 0x8C tag .badArg
          | some b =>
            s.heard.noted.answered 0x8C tag
              (le1 0 ++ (le1 (s.queues.get b).length ++ (s.queues.get b).flatMap QueueEntry.bytes)))) ∧
  (∀ (s : State) (n : Nat), n = s.fittedSlots.length →
    s.fittedSlots = [Slot.s1, .s2, .s3, .s4].filter (fun b => s.fits b) ∧
    LaidOut s.deviceStatus (11 + 20 * n)
      [(0, 1, le1 (match s.mode with | .config => 0 | .run => 1 | .observe => 2)),
       (1, 1, le1 (match s.requested with | none => 0xFF | some .config => 0 | some .run => 1 | some .observe => 2)),
       (2, 1, le1 (match s.restartCause with | .power => 0 | .restart => 1 | .change => 2)), (3, 4, le4 s.clock.toNat),
       (7, 1, le1 ((if s.drive = some true then 1 else 0) + (if s.retractLine = some true then 2 else 0))),
       (8, 1, le1 s.log.length), (9, 1, le1 s.writers.length), (10, 1, le1 n)] ∧
    (∀ k b, s.fittedSlots[k]? = some b → (s.deviceStatus.drop (11 + 20 * k)).take 20 = s.boomBlock b)) ∧
  (∀ (s : State) (b : Slot) (o : Quad Bool),
    (∀ r, (s.boom b).raw = some r →
      o = { thrust := decide (r.thrust = .low ∨ r.thrust = .high), torque := decide (r.torque = .low ∨ r.torque = .high),
            speed := decide (r.speed = .low ∨ r.speed = .high),
            position := decide (r.position = .low ∨ r.position = .high) }) →
    ((s.boom b).raw = none → o = Quad.fill false) →
    LaidOut (s.boomBlock b) 20
      [(0, 1, le1 (slotNum b)), (1, 1, le1 (s.boom b).view.state), (2, 1, le1 (s.boom b).view.phase),
       (3, 1, le1 (s.boom b).view.sub), (4, 1, le1 (s.boom b).view.level), (5, 2, le2 (s.grant b)),
       (7, 2, le2 ((s.boom b).auto.holeId.getD 0)), (9, 2, le2 ((s.boom b).lastGood.position - (s.boom b).p0)),
       (11, 2, le2 ((s.boom b).inForce.thrust.getD (s.boom b).lastGood.thrust)),
       (13, 2, le2 ((s.boom b).inForce.torque.getD (s.boom b).lastGood.torque)),
       (15, 2, le2 ((s.boom b).inForce.speed.getD (s.boom b).lastGood.speed)),
       (17, 2, le2 ((s.boom b).inForce.position.getD (s.boom b).lastGood.position)),
       (19, 1, le1 ((if o.thrust then 1 else 0) + (if o.torque then 2 else 0) + (if o.speed then 4 else 0) +
         (if o.position then 8 else 0) + (if (s.boom b).overdueShown then 16 else 0)))]) ∧
  (∀ (s : State) (g w : Nat), g = s.arbiter.grantList.length → w = s.arbiter.waitList.length →
    LaidOut s.flowBytes (16 + g + 11 * w)
      [(0, 2, le2 s.params.pumpCapacity),
       (2, 2, le2 (s.params.pumpCapacity -
         (s.grant .s1 + s.grant .s2 + s.grant .s3 + s.grant .s4 + s.arbiter.reserve))),
       (4, 2, le2 (if s.fits .s1 then s.grant .s1 else 0)), (6, 2, le2 (if s.fits .s2 then s.grant .s2 else 0)),
       (8, 2, le2 (if s.fits .s3 then s.grant .s3 else 0)), (10, 2, le2 (if s.fits .s4 then s.grant .s4 else 0)),
       (12, 2, le2 s.arbiter.reserve), (14, 1, le1 g), (15 + g, 1, le1 w)] ∧
    (∀ k r, s.arbiter.grantList[k]? = some r → (s.flowBytes.drop (15 + k)).take 1 = le1 r.num) ∧
    (∀ k e, s.arbiter.waitList[k]? = some e →
      (s.flowBytes.drop (16 + g + 11 * k)).take 11 = s.waitBytes e ∧
      LaidOut (s.waitBytes e) 11
        [(0, 1, le1 (match e.requester with | .boom b => slotNum b | .reserve => 5)),
         (1, 1, le1 (match e.cls with | .urgent => 0 | .curing => 1 | .normal => 2)), (2, 2, le2 e.demand),
         (4, 2, le2 (match e.requester with | .boom b => s.grant b | .reserve => s.arbiter.reserve)),
         (6, 4, le4 (min (10 * (if e.waitAhead then 0 else ticksSince s.clock e.waitStart)) 4294967295)),
         (10, 1, le1 (if e.backedOff then 1 else 0))])) ∧
  (∀ r : Recipe, r.bytes.length = 56 ∧
    ∀ i v,
      [r.bitDiameter, r.boltDiameter, r.encapsulation, r.targetDepth, r.collarDepth, r.expectedSE, r.collarFeed,
       r.collarRotation, r.drillFeed, r.drillRotation, r.insertFeed, r.mixFeed, r.mixRotation, r.torqueRotation,
       r.thrustCeiling, r.cartDiameter, r.cartLength, r.waste, r.maxCartridges, r.mixRevs, r.mixTimeMax, r.gelLimit,
       r.gelHold, r.targetTorque, r.torqueTimeout, r.nutFactor, r.tensionMin, r.tensionMax][i]? = some v →
      (r.bytes.drop (2 * i)).take 2 = le2 v) ∧
  (∀ e : QueueEntry,
    (e.depth = none →
      LaidOut e.bytes 6 [(0, 2, le2 e.holeId), (2, 1, le1 e.recipeSlot), (3, 2, le2 e.posTag), (5, 1, le1 0)]) ∧
    (∀ d, e.depth = some d →
      LaidOut e.bytes 8
        [(0, 2, le2 e.holeId), (2, 1, le1 e.recipeSlot), (3, 2, le2 e.posTag), (5, 1, le1 1), (6, 2, le2 d)]))

/-- GET_FRAME, GET_PROFILE and FETCH_RECORD: taken in every mode, changing nothing, answered as R140, R86 and R173 give. The
frame, the profile, a band entry and a record are laid out as R202 to R204 give, field by field. -/
def Obligations.HoleReads : Prop :=
  (∀ (s : State) (tag a : Byte), s.ready → s.settled →
    (∀ b f h, s.slotOf a = some b → (s.boom b).auto = .exception f h →
      exec (.getFrame tag a) s =
        .next (s.heard.noted.answered 0x91 tag (le1 0 ++ (le1 (if (s.boom b).level = 0 then 0 else 1) ++ f.bytes)))) ∧
    (∀ b, s.slotOf a = some b → (∀ f h, (s.boom b).auto ≠ .exception f h) →
      exec (.getFrame tag a) s = .next (s.refused 0x91 tag .empty)) ∧
    (∀ b, s.slotOf a = some b →
      exec (.getProfile tag a) s =
        .next
          (if (s.boom b).profile.cond = .empty then s.refused 0x92 tag .empty
          else s.heard.noted.answered 0x92 tag (le1 0 ++ (s.boom b).profile.bytes))) ∧
    (s.slotOf a = none →
      exec (.getFrame tag a) s = .next (s.refused 0x91 tag .badArg) ∧
      exec (.getProfile tag a) s = .next (s.refused 0x92 tag .badArg)) ∧
    exec (.fetchRecord tag) s =
      .next
        (match s.log with
          | [] => s.refused 0x9B tag .empty
          | r :: _ => s.heard.noted.answered 0x9B tag (le1 0 ++ r.bytes))) ∧
  (∀ f : ExFrame,
    LaidOut f.bytes 35
      [(0, 1, le1 (slotNum f.slot)), (1, 2, le2 f.holeId),
       (3, 1, le1 (match f.kind with | .inPhase => 0 | .prePhase => 1)), (4, 1, le1 f.cause.priority),
       (5, 4, le4 f.current.toNat), (9, 4, le4 f.posted.toNat), (13, 1, le1 f.raisedIn.num), (14, 1, le1 f.phase.num),
       (15, 2, le2 f.depth), (17, 2, le2 f.thrust), (19, 2, le2 f.torque), (21, 2, le2 f.speed), (23, 2, le2 f.lastSE),
       (25, 2, le2 f.refSE), (27, 4, le4 f.time.toNat), (31, 4, le4 (min f.operand 4294967295))]) ∧
  (∀ b : Band,
    LaidOut b.bytes 26
      [(0, 1, le1 (match b.cls with
          | .collar => 0 | .void => 1 | .soft => 2 | .competent => 3 | .hard => 4 | .unknown => 5 | .unlogged => 6)),
       (1, 1, le1 ((if b.isPartial then 1 else 0) + (if b.isForced then 2 else 0) + (if b.isSuspect then 4 else 0) +
         (if b.isMerged then 8 else 0) + (if b.seMin = none then 0 else 16))),
       (2, 4, le4 b.top), (6, 4, le4 b.bottom), (10, 4, le4 b.count), (14, 4, le4 (b.seMin.getD 0)),
       (18, 4, le4 (b.seMax.getD 0)), (22, 4, le4 (if b.seMin = none then 0 else b.seSum / b.seCount))]) ∧
  (∀ (p : Profile) (k m n : Nat), k = (if p.interval = none then 1 else 7) → m = (if p.anchor = none then 1 else 3) →
    n = p.bands.length →
    LaidOut p.bytes (9 + k + m + 26 * n)
      [(0, 1, le1 (match p.cond with | .empty => 0 | .opened => 1 | .closed => 2)), (1, 2, le2 p.frontier),
       (3, 2, le2 p.refSE), (5, 2, le2 p.lastSE), (7, 1, le1 (if p.truncated then 1 else 0)),
       (8, k, match p.interval with | none => le1 0 | some iv => le1 1 ++ le2 iv.start ++ le2 iv.samples ++ le2 iv.drops),
       (8 + k, m, match p.anchor with | none => le1 0 | some a => le1 1 ++ a.bytes), (8 + k + m, 1, le1 n)] ∧
    ∀ i b, p.bands[i]? = some b → (p.bytes.drop (9 + k + m + 26 * i)).take 26 = b.bytes) ∧
  (∀ a : Anchor,
    LaidOut a.bytes 2 [(0, 1, le1 a.percent), (1, 1, le1 (match a.grade with | .good => 0 | .fair => 1 | .poor => 2))]) ∧
  (∀ (r : BoltRecord) (k m q u n : Nat), k = (if r.anchor = none then 1 else 3) → m = (if r.resin = none then 1 else 19) →
    q = (if r.tension = none then 1 else 14) → u = r.resolves.length → n = r.bands.length →
    LaidOut r.bytes (77 + k + m + q + (1 + 2 * u) + (1 + 26 * n))
      [(0, 4, le4 r.seq), (4, 4, le4 r.holeId), (8, 1, le1 (slotNum r.slot)), (9, 1, le1 r.recipeSlot),
       (10, 4, le4 r.posTag),
       (14, 1, le1 (match r.verdict with | .accepted => 0 | .flagged => 1 | .rejected => 2 | .logged => 3)),
       (15, 4, le4 r.start.toNat), (19, 4, le4 r.finish.toNat),
       (23, 1, le1 (match r.endPhase with | none => 0 | some p => p.num)), (24, 4, le4 r.target), (28, 4, le4 r.drilled),
       (32, 1, le1 (if r.truncated then 1 else 0)), (33, 4, le4 r.accrued.toNat), (37, 4, le4 r.exceptions),
       (41, 4, le4 r.resolveCount), (45, 4, le4 r.takeovers), (49, 4, le4 r.retracts), (53, 4, le4 r.movedDistance),
       (57, 4, le4 r.starves), (61, 4, le4 r.outOfRange.thrust), (65, 4, le4 r.outOfRange.torque),
       (69, 4, le4 r.outOfRange.speed), (73, 4, le4 r.outOfRange.position),
       (77, k, match r.anchor with | none => le1 0 | some a => le1 1 ++ a.bytes),
       (77 + k, m, match r.resin with
         | none => le1 0
         | some x => le1 1 ++ le1 x.planned ++ le1 x.loaded ++ le4 x.mixRevs ++ le4 (min x.mixTime 4294967295) ++
             le4 (min x.holdTime 4294967295) ++ le4 (min x.ageAtTorque 4294967295)),
       (77 + k + m, q, match r.tension with
         | none => le1 0
         | some x => le1 1 ++ le4 x.peak ++ le4 x.final ++ le4 x.tension ++ le1 x.retorques),
       (77 + k + m + q, 1, le1 u), (78 + k + m + q + 2 * u, 1, le1 n)] ∧
    (∀ i c a, r.resolves[i]? = some (c, a) →
      (r.bytes.drop (78 + k + m + q + 2 * i)).take 2 =
        le1 c.priority ++ le1 (match a with | .resume => 0 | .retry => 1 | .setCartridges => 2 | .abandon => 3)) ∧
    ∀ i b, r.bands[i]? = some b → (r.bytes.drop (79 + k + m + q + 2 * u + 26 * i)).take 26 = b.bytes)

/-! ## The Plan Store and the parameters -/

/-- LOAD_RECIPE: refused outside CONFIG and for a slot outside 0..15; each field clamped into its own range; refused when a
relation fails after clamping; else stored whole, answered OK or CLAMPED with the recipe as it stands (R5, R6). -/
def Obligations.LoadRecipeClampsThenRelates : Prop :=
  ∀ (s : State) (tag slot : Byte) (fields : List Half), s.ready → s.settled → fields.length = 28 →
    (s.mode ≠ .config → exec (.loadRecipe tag slot fields) s = .next (s.refused 0x86 tag .refusedMode)) ∧
    (s.mode = .config → recipeIndex slot = none →
      exec (.loadRecipe tag slot fields) s = .next (s.refused 0x86 tag .badArg)) ∧
    (∀ i, s.mode = .config → recipeIndex slot = some i →
      ∃ r, r.toList = List.zipWith (fun lim (v : Nat) => max lim.1 (min lim.2 v)) Recipe.ranges (fields.map BitVec.toNat) ∧
        exec (.loadRecipe tag slot fields) s =
          .next
            (if r.boltDiameter + 3 ≤ r.bitDiameter ∧ r.encapsulation ≤ r.targetDepth ∧ r.mixTimeMax ≤ r.gelLimit ∧
                r.tensionMin < r.tensionMax then
              ({ s.heard with recipes := s.recipes.set i (some r) } : State).noted.answered 0x86 tag
                (le1 (if r.toList = fields.map BitVec.toNat then 0 else 1) ++ r.bytes)
            else s.refused 0x86 tag .badArg))

/-- CLEAR_RECIPE: refused outside CONFIG and for a slot outside 0..15; ALREADY when empty; IN_USE when a queue entry names the
slot; else the slot is emptied (R7). -/
def Obligations.ClearRecipeKeepsNamedSlots : Prop :=
  ∀ (s : State) (tag slot : Byte), s.ready → s.settled →
    (s.mode ≠ .config → exec (.clearRecipe tag slot) s = .next (s.refused 0x87 tag .refusedMode)) ∧
    (s.mode = .config → recipeIndex slot = none → exec (.clearRecipe tag slot) s = .next (s.refused 0x87 tag .badArg)) ∧
    (∀ i, s.mode = .config → recipeIndex slot = some i →
      (s.recipeAt i = none → exec (.clearRecipe tag slot) s = .next (s.refused 0x87 tag .already)) ∧
      (∀ r b e, s.recipeAt i = some r → e ∈ s.queues.get b → e.recipeSlot = i.val →
        exec (.clearRecipe tag slot) s = .next (s.refused 0x87 tag .inUse)) ∧
      (∀ r, s.recipeAt i = some r → (∀ b e, e ∈ s.queues.get b → e.recipeSlot ≠ i.val) →
        exec (.clearRecipe tag slot) s =
          .next (({ s.heard with recipes := s.recipes.set i none } : State).noted.answered 0x87 tag (le1 0))))

/-- QUEUE_HOLE: the five checks in their order, then the entry joins the tail with the override brought into [E, 3000] mm
(R11, R12). The one-byte count of the reply is the model's choice (log entry 10). -/
def Obligations.QueueHoleChecksThenJoins : Prop :=
  ∀ (s : State) (tag boom : Byte) (id : Half) (slot : Byte) (pos : Half) (override : Option Half), s.ready → s.settled →
    exec (.queueHole tag boom id slot pos override) s =
      .next
        (match s.slotOf boom with
          | none => s.refused 0x89 tag .badArg
          | some b =>
            if id = 0 then s.refused 0x89 tag .badArg
            else
              match s.recipeOf slot with
              | none => s.refused 0x89 tag .badArg
              | some r =>
                if 8 ≤ (s.queues.get b).length then s.refused 0x89 tag .full
                else if s.idHeld id.toNat then s.refused 0x89 tag .duplicate
                else
                  ({ s.heard with
                    queues := s.queues.set b
                      (s.queues.get b ++
                        [{ holeId := id.toNat, recipeSlot := slot.toNat, posTag := pos.toNat,
                           depth := override.map (fun d => if d.toNat < r.encapsulation then r.encapsulation
                             else min d.toNat 3000) }]) } : State).noted.answered 0x89 tag
                    (le1 (match override with
                        | none => 0
                        | some d => if r.encapsulation ≤ d.toNat ∧ d.toNat ≤ 3000 then 0 else 1) ++
                      le1 ((s.queues.get b).length + 1)))

/-- CANCEL_HOLE and FLUSH_QUEUE: what leaves which queue, and every refusal (R14, R15). The one-byte count of FLUSH_QUEUE's
reply is the model's choice (log entry 10). -/
def Obligations.EntriesLeaveTheQueues : Prop :=
  ∀ (s : State) (tag : Byte), s.ready → s.settled →
    (∀ id : Half,
      exec (.cancelHole tag id) s =
        .next
          (if id = 0 then s.refused 0x8A tag .badArg
          else if s.idQueued id.toNat then
            ({ s.heard with
              queues :=
                { b1 := s.queues.b1.filter (fun e => e.holeId ≠ id.toNat),
                  b2 := s.queues.b2.filter (fun e => e.holeId ≠ id.toNat),
                  b3 := s.queues.b3.filter (fun e => e.holeId ≠ id.toNat),
                  b4 := s.queues.b4.filter (fun e => e.holeId ≠ id.toNat) } } : State).noted.answered 0x8A tag (le1 0)
          else if s.idInHole id.toNat then s.refused 0x8A tag .refusedState
          else s.refused 0x8A tag .notFound)) ∧
    (∀ boom : Byte,
      exec (.flushQueue tag boom) s =
        .next
          (match s.slotOf boom with
            | none => s.refused 0x8B tag .badArg
            | some b =>
              if s.queues.get b = [] then s.refused 0x8B tag .empty
              else
                ({ s.heard with queues := s.queues.set b [] } : State).noted.answered 0x8B tag
                  (le1 0 ++ le1 (s.queues.get b).length)))

/-- SET_PARAM: refused outside CONFIG, for an unknown id, for a value its kind refuses, and where an ordering check
fails; else the treated value is stored, PUMP_CAPACITY raised to the reserve's grant (R110, R184). FITTED_BOOMS has its
own statement. The width of the reply's figure is the model's choice (log entry 10). The treatments of R184 and the
table of R205 are spelled: a number is brought to the nearer end of its range, PROFILE_INTERVAL to the nearest step and
halfway to the larger, LINK_SILENCE to 0 or into its range; a policy other than CLAMP, HOLD and DROP, the empty set and
a bit above slot 4 are refused; and the orderings are VOID_PCT < SOFT_PCT < 100 < HARD_PCT and ANCHOR_FAIR_PCT ≤
ANCHOR_GOOD_PCT. -/
def Obligations.SetParamTreatsByKind : Prop :=
  (∀ (s : State) (tag id : Byte) (value : Word), s.ready → s.requested = none → s.flowQuiet →
    (s.mode ≠ .config → exec (.setParam tag id value) s = .next (s.refused 0x84 tag .refusedMode)) ∧
    (s.mode = .config → ParamId.ofCode id.toNat = none →
      exec (.setParam tag id value) s = .next (s.refused 0x84 tag .badArg)) ∧
    (∀ p, s.mode = .config → ParamId.ofCode id.toNat = some p → p.kind.treat value.toInt = none →
      exec (.setParam tag id value) s = .next (s.refused 0x84 tag .badArg)) ∧
    (∀ p v, s.mode = .config → ParamId.ofCode id.toNat = some p → p ≠ .fittedBooms →
      p.kind.treat value.toInt = some v →
      exec (.setParam tag id value) s =
        .next
          (if (s.params.set p (if p = .pumpCapacity then max v s.arbiter.reserve else v)).ordered then
            ({ s.heard with
              params := s.params.set p (if p = .pumpCapacity then max v s.arbiter.reserve else v) } : State).noted.answered
              0x84 tag
              (le1 (if ((if p = .pumpCapacity then max v s.arbiter.reserve else v : Nat) : Int) = value.toInt then 0 else 1) ++
                le4 (if p = .pumpCapacity then max v s.arbiter.reserve else v))
          else s.refused 0x84 tag .badArg))) ∧
  ((∀ n, 36 < n → ParamId.ofCode n = none) ∧
    (List.range 37).map (fun n => (ParamId.ofCode n).map (fun p => (p, p.kind, Params.default.get p))) =
      [none, some (.fittedBooms, .slots, 15), some (.pumpCapacity, .numeric 40 400, 160), some
       (.demandCollaring, .numeric 0 200, 30), some (.demandDrilling, .numeric 0 200, 45), some
       (.demandRetractDrill, .numeric 0 200, 25), some (.demandResinLoad, .numeric 0 200, 10), some
       (.demandBoltLoad, .numeric 0 200, 10), some (.demandInserting, .numeric 0 200, 20), some
       (.demandMixing, .numeric 0 200, 45), some (.demandHolding, .numeric 0 200, 5), some
       (.demandTorquing, .numeric 0 200, 35), some (.demandReleasing, .numeric 0 200, 25), some
       (.manualDemand, .numeric 0 200, 40), some (.waitLimit, .numeric 1000 120000, 20000), some
       (.stallWindow, .numeric 500 10000, 1500), some (.retractFeed, .numeric 100 1000, 600), some
       (.holdFeed, .numeric 0 300, 80), some (.homeTolerance, .numeric 5 100, 20), some
       (.retractTimeout, .numeric 2000 30000, 10000), some (.loadTimeout, .numeric 500 10000, 3000), some
       (.mixStroke, .numeric 0 200, 100), some (.seatTolerance, .numeric 1 20, 5), some
       (.profileInterval, .stepped, 20), some (.voidPct, .numeric 1 1000, 15), some (.softPct, .numeric 1 1000, 60),
       some (.hardPct, .numeric 1 1000, 180), some (.anchorGoodPct, .numeric 0 100, 80), some
       (.anchorFairPct, .numeric 0 100, 50), some (.voidLimit, .numeric 5 200, 40), some (.thrustPolicy, .policy, 0),
       some (.torquePolicy, .policy, 1), some (.speedPolicy, .policy, 1), some (.reentryTolerance, .numeric 1 50, 10),
       some (.manualHold, .numeric 100 1000, 300), some (.linkSilence, .zeroOrRange 200 5000, 1000), none]) ∧
  (∀ (ps : Params) (p q : ParamId) (v : Nat), (ps.set p v).get q = if q = p then v else ps.get q) ∧
  (∀ (lo hi : Nat) (v : Int), lo ≤ hi →
    (v < lo → (ParamKind.numeric lo hi).treat v = some lo) ∧ (hi < v → (ParamKind.numeric lo hi).treat v = some hi) ∧
    ∀ n : Nat, v = n → lo ≤ n → n ≤ hi → (ParamKind.numeric lo hi).treat v = some n) ∧
  (∀ v : Int, ∃ n, ParamKind.stepped.treat v = some n ∧ n ∈ [10, 20, 25, 50] ∧
    ∀ m ∈ [10, 20, 25, 50],
      (v - (n : Nat)).natAbs < (v - (m : Nat)).natAbs ∨ ((v - (n : Nat)).natAbs = (v - (m : Nat)).natAbs ∧ m ≤ n)) ∧
  (∀ (lo hi : Nat) (v : Int), lo ≤ hi →
    (v ≤ 0 → (ParamKind.zeroOrRange lo hi).treat v = some 0) ∧
    (0 < v → v < lo → (ParamKind.zeroOrRange lo hi).treat v = some lo) ∧
    (0 < v → hi < v → (ParamKind.zeroOrRange lo hi).treat v = some hi) ∧
    ∀ n : Nat, v = n → 0 < n → lo ≤ n → n ≤ hi → (ParamKind.zeroOrRange lo hi).treat v = some n) ∧
  (∀ v : Int,
    (v < 0 ∨ 2 < v → ParamKind.policy.treat v = none) ∧ (∀ n : Nat, v = n → n ≤ 2 → ParamKind.policy.treat v = some n) ∧
    (v < 1 ∨ 15 < v → ParamKind.slots.treat v = none) ∧
    ∀ n : Nat, v = n → 1 ≤ n → n ≤ 15 → ParamKind.slots.treat v = some n) ∧
  ∀ ps : Params,
    ps.ordered = true ↔
      ps.voidPct < ps.softPct ∧ ps.softPct < 100 ∧ 100 < ps.hardPct ∧ ps.anchorFairPct ≤ ps.anchorGoodPct

/-- SET_PARAM of FITTED_BOOMS: the empty set is refused; a slot added has its queue empty and its boom as after power-on, with
both its report slots empty; a slot that stays is as it was (R19, R192). That a slot removed is left the same way is log entry
15, what a boom after power-on shows where the spec states nothing is log entry 13, and the width of the reply's figure is log
entry 10. -/
def Obligations.FittedBoomsChangeSlots : Prop :=
  ∀ (s : State) (tag : Byte) (value : Word), s.ready → s.requested = none → s.mode = .config → s.params.ordered = true →
    (value = 0 → exec (.setParam tag 1 value) s = .next (s.refused 0x84 tag .badArg)) ∧
    (1 ≤ value.toInt → value.toInt ≤ 15 →
      ∃ t, exec (.setParam tag 1 value) s = .next t ∧ t.replies 0x84 tag (le1 0 ++ le4 value.toNat) ∧
        t.params = { s.params with fittedBooms := value.toNat } ∧
        (∀ b, t.fits b = value.getLsbD (slotNum b - 1)) ∧
        (∀ b, t.fits b ≠ s.fits b →
          t.queues.get b = [] ∧ t.boom b = Boom.fresh ∧ t.link.boomStatus.get b = false ∧
          t.link.exceptionReport.get b = none) ∧
        (∀ b, t.fits b = s.fits b → t.queues.get b = s.queues.get b ∧ t.boom b = s.boom b) ∧
        t.recipes = s.recipes ∧ t.log = s.log ∧ t.arbiter = s.arbiter ∧ t.mode = s.mode ∧ t.clock = s.clock)

/-! ## Holes -/

/-- GO's refusals, in the order of its checks, each changing nothing (R35). -/
def Obligations.GoChecksInOrder : Prop :=
  ∀ (s : State) (tag boom : Byte), s.ready → s.settled →
    (s.slotOf boom = none → exec (.go tag boom) s = .next (s.refused 0x8D tag .badArg)) ∧
    ∀ b, s.slotOf boom = some b →
      (s.mode ≠ .run → exec (.go tag boom) s = .next (s.refused 0x8D tag .refusedMode)) ∧
      (s.mode = .run →
        (∀ m, s.requested = some m → exec (.go tag boom) s = .next (s.refused 0x8D tag .pendingMode)) ∧
        (s.requested = none →
          ((s.boom b).auto ≠ .idle ∨ (s.boom b).level ≠ 0 →
            exec (.go tag boom) s = .next (s.refused 0x8D tag .refusedState)) ∧
          ((s.boom b).auto = .idle → (s.boom b).level = 0 →
            (s.lineOn = true ∨ s.driveOn = false → exec (.go tag boom) s = .next (s.refused 0x8D tag .causePresent)) ∧
            (s.lineOn = false → s.driveOn = true → s.queues.get b = [] →
              exec (.go tag boom) s = .next (s.refused 0x8D tag .empty)))))

/-- An accepted GO: the head entry leaves the queue, the recipe is copied, P0 latched, the profile opened, the sets emptied, the
chuck closed, and COLLARING entered: ACTIVE when its demand is granted at once, else waiting at class NORMAL (R17, R27, R36). -/
def Obligations.GoStartsTheHole : Prop :=
  ∀ (s : State) (tag boom : Byte) (b : Slot) (e : QueueEntry) (rest : List QueueEntry) (r : Recipe), s.ready →
    s.slotOf boom = some b → s.mode = .run → s.requested = none → (s.boom b).auto = .idle → (s.boom b).level = 0 →
    s.retractLine ≠ some true → s.drive = some true → s.queues.get b = e :: rest → e.recipeSlot < 16 →
    s.recipeOf (BitVec.ofNat 8 e.recipeSlot) = some r → s.flowQuiet → s.grant b = 0 →
    ∃ t sub h, exec (.go tag boom) s = .next t ∧ t.replies 0x8D tag (le1 0) ∧ t.queues = s.queues.set b rest ∧
      (t.boom b).auto = .cycle sub h ∧ h.phase = .collaring ∧ h.plan.holeId = e.holeId ∧
      h.plan.recipeSlot = e.recipeSlot ∧ h.plan.posTag = e.posTag ∧ h.plan.recipe = r ∧ h.plan.start = s.clock ∧
      h.plan.target = (match e.depth with | some d => 10 * max d r.encapsulation | none => 10 * r.targetDepth) ∧
      h.drilled = none ∧ h.exceptions = 0 ∧ h.loaded = 0 ∧ h.resolves = [] ∧ h.chuckReleased = false ∧ h.moved = false ∧
      (t.boom b).p0 = (s.boom b).lastGood.position ∧ (t.boom b).chuck = .closed ∧ (t.boom b).profile.cond = .opened ∧
      (t.boom b).profile.refSE = r.expectedSE ∧ (t.boom b).profile.bands = [] ∧ (t.boom b).profile.frontier = 0 ∧
      (t.boom b).current = 0 ∧ (t.boom b).posted = 0 ∧ (t.boom b).accrued = 0 ∧
      (t.boom b).outOfRange = Quad.fill 0 ∧ (t.boom b).seen = Quad.fill false ∧
      (if min s.params.demandCollaring s.params.pumpCapacity ≤ s.free then
        sub = .active ∧ t.grant b = min s.params.demandCollaring s.params.pumpCapacity ∧ t.arbiter.waitList = []
      else
        sub = .waitFlow ∧ t.grant b = 0 ∧
        t.arbiter.waitList =
          [{ requester := .boom b, cls := .normal, demand := min s.params.demandCollaring s.params.pumpCapacity,
             join := s.clock, waitStart := s.clock, backedOff := false }]) ∧
      Boom.SameReadings (s.boom b) (t.boom b) ∧ State.SameStore s t ∧ t.log = s.log ∧ t.nextSeq = s.nextSeq ∧
      t.writers = s.writers ∧ State.SameOthers s t b

/-- ABANDON and RESOLVE ABANDON away from home: the context is marked abandoned and ABANDONING with its phase kept, the chuck is
OPEN from BOLT_LOAD on, the current and posted sets are empty, and with its flow granted the boom retracts, or is held for want
of drive-enable (R45 to R47, R143, R149). That the outputs are driven in the very act is log entry 16 (R24, R47). -/
def Obligations.AbandonRetracts : Prop :=
  ∀ (s : State) (tag boom : Byte) (b : Slot) (h : Hole), s.ready → s.requested = none → s.slotOf boom = some b →
    s.waitsAlone b → (s.boom b).level = 0 → 10 * s.params.homeTolerance < s.depth b →
    min s.params.demandRetractDrill s.params.pumpCapacity ≤ s.grant b ∨
      min s.params.demandRetractDrill s.params.pumpCapacity - s.grant b ≤ s.free →
    ∀ (c : Instr) (kind : Byte) (resolves : Nat),
      (c = .abandon tag boom ∧ kind = 0x8E ∧ resolves = h.resolveCount ∧
          ((∃ sub, (s.boom b).auto = .cycle sub h) ∨ ∃ f, (s.boom b).auto = .exception f h)) ∨
        (c = .resolveAbandon tag boom none ∧ kind = 0x90 ∧ resolves = min (h.resolveCount + 1) 65535 ∧
          ∃ f, (s.boom b).auto = .exception f h) →
      ∃ t sub g, exec c s = .next t ∧ t.replies kind tag (le1 0) ∧ (t.boom b).auto = .abandoning sub g ∧
        g.abandoned = true ∧ g.phase = h.phase ∧ g.plan = h.plan ∧ g.resolveCount = resolves ∧
        sub = (if s.drive = some true then .active else .driveHeld) ∧
        t.grant b = min s.params.demandRetractDrill s.params.pumpCapacity ∧
        (t.boom b).feed = (if s.drive = some true then -(s.params.retractFeed : Int) else 0) ∧ (t.boom b).rotation = 0 ∧
        (t.boom b).chuck = (if 5 ≤ h.phase.num then .opened else (s.boom b).chuck) ∧
        (t.boom b).handshake = .none ∧ (t.boom b).current = 0 ∧ (t.boom b).posted = 0 ∧
        (t.boom b).accrued = (s.boom b).accrued ∧ Boom.SameReadings (s.boom b) (t.boom b) ∧ State.SameStore s t ∧
        State.SameLists s t ∧ State.SameOthers s t b

/-- The end of a hole at home. ABANDON at home ends it at once: a REJECTED record with the next sequence number goes into the
log, the boom is IDLE with grant 0, and RECORD_READY is queued; with the log full the boom waits in LOG_WAIT behind the other
writers. A sample at home ends an ABANDONING hole the same way, and a RELEASING one with verdict FLAGGED or ACCEPTED; away from
home both go on, RELEASING with its chuck OPEN and its feed 0 at the first sample and the retract from the next (R23, R43, R46,
R47, R168, R171, R172). ABANDON and RESOLVE ABANDON at home alike, from a CYCLE and an EXCEPTION, with the record's every count,
its profile, and its resin and tension sections (R107, R149, R170). -/
def Obligations.AbandonAtHomeEndsTheHole : Prop :=
  (∀ (s : State) (tag boom : Byte) (b : Slot) (sub : CycleSub) (h : Hole), s.ready → s.requested = none →
     s.slotOf boom = some b → s.waitsAlone b → (s.boom b).running = some (sub, h) →
     s.depth b ≤ 10 * s.params.homeTolerance →
     ∃ t r, exec (.abandon tag boom) s = .next t ∧ t.replies 0x8E tag (le1 0) ∧ t.grant b = 0 ∧ r.verdict = .rejected ∧
       r.holeId = h.plan.holeId ∧ r.slot = b ∧ r.posTag = h.plan.posTag ∧ r.endPhase = some h.phase ∧
       r.finish = s.clock ∧ r.start = h.plan.start ∧ r.exceptions = h.exceptions ∧ r.accrued = (s.boom b).accrued ∧
       r.outOfRange = (s.boom b).outOfRange ∧ (t.boom b).feed = 0 ∧ (t.boom b).rotation = 0 ∧
       State.SameStore s t ∧ t.queues = s.queues ∧ State.SameOthers s t b ∧
       (if s.log.length < 48 then
         t.log = s.log ++ [{ r with seq := s.nextSeq }] ∧ t.nextSeq = (if s.nextSeq = 65535 then 1 else s.nextSeq + 1) ∧
         (t.boom b).auto = .idle ∧ t.writers = s.writers ∧ t.link.recordReady = true
       else
         t.log = s.log ∧ t.nextSeq = s.nextSeq ∧ (t.boom b).auto = .logWait r ∧ t.writers = s.writers ++ [b])) ∧
  (∀ (s : State) (b : Slot) (h : Hole), (s.boom b).running = some (.active, h) →
    s.stopCause b (s.activeConds b (h.sampleTimers (s.depth b) s.clock)) = none →
    h.phase = .releasing →
    (10 * s.params.homeTolerance < s.depth b →
      ∃ x g, s.contextSample b = s.setBoom b x ∧ x.auto = .cycle .active g ∧ g.phase = .releasing ∧
        g.releaseOpened = true ∧ x.chuck = .opened ∧ x.rotation = 0 ∧
        x.feed = (if h.releaseOpened then -(s.params.retractFeed : Int) else 0)) ∧
    (s.depth b ≤ 10 * s.params.homeTolerance → s.flowQuiet → h.abandoned = false →
      ∃ t r, s.contextSample b = t ∧ s.HoleEnded t b h r ∧ (t.boom b).chuck = .opened ∧
        r.verdict =
          (if CondSet.has r.accrued .mixShort ∨ CondSet.has r.accrued .torqueTimeout ∨
              CondSet.has r.accrued .poorAnchor ∨ CondSet.has r.accrued .shortResin ∨
              CondSet.has r.accrued .underTension ∨ CondSet.has r.accrued .overTension ∨
              CondSet.has r.accrued .movedWhileAway then .flagged
          else .accepted))) ∧
  (∀ (s : State) (b : Slot) (h : Hole), (s.boom b).level = 0 → (s.boom b).auto = .abandoning .active h →
    s.drive = some true →
    (10 * s.params.homeTolerance < s.depth b →
      ((s.contextSample b).boom b).auto =
        .abandoning .active
          { h with
            retractTicks := h.retractTicks + 1
            overdue := h.overdue || decide (s.params.retractTimeout ≤ 10 * (h.retractTicks + 1)) } ∧
      s.OnlyBoom (s.contextSample b) b ∧ (s.contextSample b).grant b = s.grant b) ∧
    (s.depth b ≤ 10 * s.params.homeTolerance → s.flowQuiet → h.abandoned = true →
      ∃ t r, s.contextSample b = t ∧ s.HoleEnded t b h r ∧ r.verdict = .rejected)) ∧
  (∀ (s : State) (tag boom : Byte) (b : Slot) (h : Hole), s.ready → s.requested = none → s.slotOf boom = some b →
    s.waitsAlone b → (s.boom b).level = 0 → s.depth b ≤ 10 * s.params.homeTolerance →
    ∀ (c : Instr) (kind : Byte) (count : Nat) (list : List (Cond × Action)),
      (c = .abandon tag boom ∧ kind = 0x8E ∧ count = h.resolveCount ∧ list = h.resolves ∧
          ((∃ sub, (s.boom b).auto = .cycle sub h) ∨ ∃ f, (s.boom b).auto = .exception f h)) ∨
        (∃ f, c = .resolveAbandon tag boom none ∧ kind = 0x90 ∧ count = min (h.resolveCount + 1) 65535 ∧
          list = (if h.resolves.length < 6 then h.resolves ++ [(f.cause, .abandon)] else h.resolves) ∧
          (s.boom b).auto = .exception f h) →
      ∃ t r, exec c s = .next t ∧ t.replies kind tag (le1 0) ∧ t.grant b = 0 ∧ r.verdict = .rejected ∧
        r.holeId = h.plan.holeId ∧ r.slot = b ∧ r.recipeSlot = h.plan.recipeSlot ∧ r.posTag = h.plan.posTag ∧
        r.endPhase = some h.phase ∧ r.start = h.plan.start ∧ r.finish = s.clock ∧ r.target = h.plan.target ∧
        r.drilled = h.drilled.getD (t.boom b).profile.frontier ∧ r.bands = (t.boom b).profile.bands ∧
        r.truncated = (t.boom b).profile.truncated ∧ r.anchor = (t.boom b).profile.anchor ∧ r.exceptions = h.exceptions ∧
        r.resolveCount = count ∧ r.resolves = list ∧ r.takeovers = h.takeovers ∧ r.retracts = h.retracts ∧
        r.movedDistance = h.movedDistance ∧ r.starves = h.starves ∧ r.accrued = (s.boom b).accrued ∧
        r.outOfRange = (s.boom b).outOfRange ∧ h.ResinIn r.resin ∧ h.TensionIn r.tension ∧ (t.boom b).feed = 0 ∧
        (t.boom b).rotation = 0 ∧ (t.boom b).handshake = .none ∧
        (t.boom b).chuck = (if 5 ≤ h.phase.num then .opened else (s.boom b).chuck) ∧ (t.boom b).current = 0 ∧
        (t.boom b).posted = 0 ∧ State.SameStore s t ∧ t.queues = s.queues ∧ State.SameOthers s t b ∧
        (if s.log.length < 48 then
          t.log = s.log ++ [{ r with seq := s.nextSeq }] ∧ t.nextSeq = (if s.nextSeq = 65535 then 1 else s.nextSeq + 1) ∧
          (t.boom b).auto = .idle ∧ t.writers = s.writers ∧ t.link.recordReady = true
        else
          t.log = s.log ∧ t.nextSeq = s.nextSeq ∧ (t.boom b).auto = .logWait r ∧ t.writers = s.writers ++ [b]))

/-- SET_ENABLES replaces the enable set whole, in every mode and state; a set that names a nonmaskable condition, or an unfitted
slot, is BAD_ARG; nothing else changes (R130). -/
def Obligations.SetEnablesReplacesTheSet : Prop :=
  ∀ (s : State) (tag boom : Byte) (w : Word), s.ready → s.settled →
    (s.slotOf boom = none → exec (.setEnables tag boom w) s = .next (s.refused 0x8F tag .badArg)) ∧
    (∀ b, s.slotOf boom = some b → (∃ i, i < 32 ∧ w.getLsbD i = true ∧ (i < 9 ∨ 17 ≤ i)) →
      exec (.setEnables tag boom w) s = .next (s.refused 0x8F tag .badArg)) ∧
    (∀ b, s.slotOf boom = some b → (∀ i, w.getLsbD i = true → 9 ≤ i ∧ i < 17) →
      exec (.setEnables tag boom w) s =
        .next
          ((s.heard.setBoom b { s.boom b with enabled := w.setWidth 17 }).noted.answered 0x8F tag (le1 0 ++ le4 w.toNat)))

/-- ABANDON's refusals, RESOLVE's first three checks for each of its actions, what stands in the way of CONTINUE, and the checks
of RETRY and of SET_CARTRIDGES in their order: each refused with its status and nothing changed (R45, R143, R146 to R148). -/
def Obligations.AbandonAndResolveRefusals : Prop :=
  (∀ (s : State) (tag boom : Byte) (v : Option Byte), s.ready → s.settled →
     (s.slotOf boom = none → exec (.resolveContinue tag boom v) s = .next (s.refused 0x90 tag .badArg) ∧
       exec (.abandon tag boom) s = .next (s.refused 0x8E tag .badArg)) ∧
     ∀ b, s.slotOf boom = some b →
       ((s.boom b).level ≠ 0 ∨
           ((∀ sub h, (s.boom b).auto ≠ .cycle sub h) ∧ ∀ f h, (s.boom b).auto ≠ .exception f h) →
         exec (.abandon tag boom) s = .next (s.refused 0x8E tag .refusedState)) ∧
       (v ≠ none → exec (.resolveContinue tag boom v) s = .next (s.refused 0x90 tag .badArg) ∧
         exec (.resolveRetry tag boom v) s = .next (s.refused 0x90 tag .badArg) ∧
         exec (.resolveAbandon tag boom v) s = .next (s.refused 0x90 tag .badArg)) ∧
       exec (.resolveSetCartridges tag boom none) s = .next (s.refused 0x90 tag .badArg) ∧
       ((s.boom b).level ≠ 0 ∨ (∀ f h, (s.boom b).auto ≠ .exception f h) →
         exec (.resolveContinue tag boom none) s = .next (s.refused 0x90 tag .refusedState)) ∧
       (∀ f h, (s.boom b).level = 0 → (s.boom b).auto = .exception f h →
         s.lineOn = true ∨ (CondSet.has f.current .driveLost = true ∧ s.driveOn = false) ∨
           (CondSet.has f.current .positionLost = true ∧ (s.boom b).outNow.position = true) ∨
           ((h.phase = .inserting ∨ h.phase = .mixing) ∧ h.chuckReleased = true) →
         exec (.resolveContinue tag boom none) s = .next (s.refused 0x90 tag .causePresent))) ∧
  ∀ (s : State) (tag boom n : Byte), s.ready → s.settled →
    (s.slotOf boom = none →
      exec (.resolveRetry tag boom none) s = .next (s.refused 0x90 tag .badArg) ∧
      exec (.resolveSetCartridges tag boom (some n)) s = .next (s.refused 0x90 tag .badArg) ∧
      exec (.resolveAbandon tag boom none) s = .next (s.refused 0x90 tag .badArg)) ∧
    ∀ b, s.slotOf boom = some b →
      ((s.boom b).level ≠ 0 ∨ (∀ f h, (s.boom b).auto ≠ .exception f h) →
        exec (.resolveRetry tag boom none) s = .next (s.refused 0x90 tag .refusedState) ∧
        exec (.resolveSetCartridges tag boom (some n)) s = .next (s.refused 0x90 tag .refusedState) ∧
        exec (.resolveAbandon tag boom none) s = .next (s.refused 0x90 tag .refusedState)) ∧
      (∀ f h, (s.boom b).level = 0 → (s.boom b).auto = .exception f h →
        ((f.kind = .inPhase → f.cause ≠ .loaderJam ∧ f.cause ≠ .mixShort) →
          (f.kind = .prePhase → CondSet.has f.posted .underTension = false) →
          exec (.resolveRetry tag boom none) s = .next (s.refused 0x90 tag .refusedState)) ∧
        ((f.kind = .inPhase ∧ f.cause = .mixShort ∧ h.gelPassed s.clock = true) ∨
            (f.kind = .prePhase ∧ CondSet.has f.posted .underTension = true ∧ 2 ≤ h.retorques) →
          exec (.resolveRetry tag boom none) s = .next (s.refused 0x90 tag .tooLate)) ∧
        ((f.kind = .inPhase ∧ f.cause = .loaderJam) ∨
            (f.kind = .inPhase ∧ f.cause = .mixShort ∧ h.gelPassed s.clock = false) ∨
            (f.kind = .prePhase ∧ CondSet.has f.posted .underTension = true ∧ h.retorques < 2) →
          s.lineOn = true ∨ ((h.phase = .inserting ∨ h.phase = .mixing) ∧ h.chuckReleased = true) →
          exec (.resolveRetry tag boom none) s = .next (s.refused 0x90 tag .causePresent)) ∧
        (f.kind = .inPhase ∨
            (CondSet.has f.posted .poorAnchor = false ∧ CondSet.has f.posted .shortResin = false) →
          exec (.resolveSetCartridges tag boom (some n)) s = .next (s.refused 0x90 tag .refusedState)) ∧
        (f.kind = .prePhase → CondSet.has f.posted .poorAnchor = true ∨ CondSet.has f.posted .shortResin = true →
          (n.toNat < 1 ∨ 6 < n.toNat →
            exec (.resolveSetCartridges tag boom (some n)) s = .next (s.refused 0x90 tag .badArg)) ∧
          (1 ≤ n.toNat → n.toNat ≤ 6 →
            s.lineOn = true ∨ (CondSet.has f.current .driveLost = true ∧ s.driveOn = false) ∨
              (CondSet.has f.current .positionLost = true ∧ (s.boom b).outNow.position = true) ∨
              ((h.phase = .inserting ∨ h.phase = .mixing) ∧ h.chuckReleased = true) →
            exec (.resolveSetCartridges tag boom (some n)) s = .next (s.refused 0x90 tag .causePresent))))

/-- RESOLVE CONTINUE and SET_CARTRIDGES of a PRE_PHASE frame into RETRACT_DRILL: the frame goes, the resolve is counted and
listed, the posted and current sets are emptied, the phase is entered with its flow, and SET_CARTRIDGES stores its count, even
above the recipe's own maximum. CONTINUE of any frame, with no flag set: a PRE_PHASE frame enters the phase it names, MIX_SHORT
enters HOLDING, and any other IN_PHASE frame resumes its phase with its sets and its progress kept (R27, R31, R81, R91, R98,
R144, R145, R148). -/
def Obligations.ResolveEntersTheNextPhase : Prop :=
  (∀ (s : State) (tag boom : Byte) (b : Slot) (f : ExFrame) (h : Hole), s.ready → s.requested = none → s.flowQuiet →
     s.slotOf boom = some b → (s.boom b).level = 0 → (s.boom b).auto = .exception f h → f.kind = .prePhase →
     h.phase = .retractDrill → h.resolves.length < 6 → s.retractLine ≠ some true → s.drive = some true →
     (CondSet.has f.current .positionLost = true → (s.boom b).outNow.position = false) →
     min s.params.demandRetractDrill s.params.pumpCapacity ≤ s.grant b ∨
       min s.params.demandRetractDrill s.params.pumpCapacity - s.grant b ≤ s.free →
     ∀ (c : Instr) (a : Action) (planned : Option Nat),
       (c = .resolveContinue tag boom none ∧ a = .resume ∧ planned = h.planned) ∨
         (∃ n : Byte, c = .resolveSetCartridges tag boom (some n) ∧ a = .setCartridges ∧ planned = some n.toNat ∧
           1 ≤ n.toNat ∧ n.toNat ≤ 6 ∧
           (CondSet.has f.posted .poorAnchor = true ∨ CondSet.has f.posted .shortResin = true)) →
       ∃ t g, exec c s = .next t ∧ t.replies 0x90 tag (le1 0) ∧ (t.boom b).auto = .cycle .active g ∧
         g.phase = .retractDrill ∧ g.planned = planned ∧ g.computed = h.computed ∧
         g.resolveCount = min (h.resolveCount + 1) 65535 ∧ g.resolves = h.resolves ++ [(f.cause, a)] ∧ g.plan = h.plan ∧
         (t.boom b).current = 0 ∧ (t.boom b).posted = 0 ∧ (t.boom b).accrued = (s.boom b).accrued ∧
         (t.boom b).profile = (s.boom b).profile ∧
         t.grant b = min s.params.demandRetractDrill s.params.pumpCapacity ∧ Boom.SameReadings (s.boom b) (t.boom b) ∧
         State.SameStore s t ∧ State.SameLists s t ∧ State.SameOthers s t b) ∧
  (∀ (s : State) (tag boom : Byte) (b : Slot) (f : ExFrame) (h : Hole), s.ready → s.requested = none → s.flowQuiet →
    s.slotOf boom = some b → (s.boom b).level = 0 → (s.boom b).auto = .exception f h → s.retractLine ≠ some true →
    s.drive = some true → (CondSet.has f.current .positionLost = true → (s.boom b).outNow.position = false) →
    h.chuckReleased = false → h.moved = false → h.resolves.length < 6 →
    ∃ t g, exec (.resolveContinue tag boom none) s = .next t ∧ t.replies 0x90 tag (le1 0) ∧ g.plan = h.plan ∧
      g.planned = h.planned ∧ g.resolveCount = min (h.resolveCount + 1) 65535 ∧
      g.resolves = h.resolves ++ [(f.cause, .resume)] ∧ (t.boom b).accrued = (s.boom b).accrued ∧ s.FlowAsked t b g ∧
      (f.kind = .prePhase →
        g.phase = h.phase ∧ (t.boom b).current = 0 ∧ (t.boom b).seen = Quad.fill false ∧ (t.boom b).posted = 0) ∧
      (f.kind = .inPhase → f.cause = .mixShort →
        g.phase = .holding ∧ g.mixEnd = some f.time ∧ (t.boom b).current = 0 ∧ (t.boom b).posted = (s.boom b).posted) ∧
      (f.kind = .inPhase → f.cause ≠ .mixShort →
        g.phase = h.phase ∧ g.loaded = h.loaded ∧ g.indexDone = h.indexDone ∧ g.mixSum = h.mixSum ∧
        g.mixStart = h.mixStart ∧ g.resinStart = h.resinStart ∧ g.torqueStart = h.torqueStart ∧ g.peak = h.peak ∧
        g.mixEnd = h.mixEnd ∧ (t.boom b).current = (s.boom b).current ∧ (t.boom b).seen = (s.boom b).seen ∧
        (t.boom b).posted = (s.boom b).posted) ∧
      (t.boom b).profile =
        (if (f.kind = .prePhase ∨ f.cause ≠ .mixShort) ∧ (h.phase = .collaring ∨ h.phase = .drilling) then
          (s.boom b).profile.gapTest (s.depth b)
        else (s.boom b).profile) ∧
      Boom.SameReadings (s.boom b) (t.boom b) ∧ State.SameStore s t ∧ State.SameLists s t ∧ State.SameOthers s t b)

/-- RESOLVE RETRY: a retorque below its limit of two raises the count and enters TORQUING anew, through RE_ENGAGE when a flag is
set; a mix retry before the gel limit starts a new attempt without re-entering MIXING; at either limit the answer is TOO_LATE; a
LOADER_JAM retry resumes its phase with the loaded count kept (R32, R96, R97, R105, R106, R147). That RE_ENGAGE's outputs are
driven in the very act is log entry 16 (R24, R32). -/
def Obligations.ResolveRetryByFrame : Prop :=
  (∀ (s : State) (tag boom : Byte) (b : Slot) (f : ExFrame) (h : Hole), s.ready → s.requested = none → s.flowQuiet →
     s.slotOf boom = some b → (s.boom b).level = 0 → (s.boom b).auto = .exception f h → h.chuckReleased = false →
     h.moved = false → s.retractLine ≠ some true → s.drive = some true →
     (f.kind = .prePhase → CondSet.has f.posted .underTension = true → 2 ≤ h.retorques →
       exec (.resolveRetry tag boom none) s = .next (s.refused 0x90 tag .tooLate)) ∧
     (f.kind = .prePhase → CondSet.has f.posted .underTension = true → h.retorques < 2 →
       min s.params.demandTorquing s.params.pumpCapacity ≤ s.grant b ∨
         min s.params.demandTorquing s.params.pumpCapacity - s.grant b ≤ s.free →
       ∃ t g, exec (.resolveRetry tag boom none) s = .next t ∧ t.replies 0x90 tag (le1 0) ∧
         (t.boom b).auto = .cycle .active g ∧ g.phase = .torquing ∧ g.retorques = h.retorques + 1 ∧ g.torqueRun = [] ∧
         g.peak = 0 ∧ g.finalTorque = none ∧ g.tension = none ∧ g.torqueStart = none ∧ (t.boom b).posted = 0 ∧
         (t.boom b).current = 0 ∧ (t.boom b).accrued = (s.boom b).accrued ∧ Boom.SameReadings (s.boom b) (t.boom b) ∧
         State.SameStore s t ∧ State.SameLists s t ∧ State.SameOthers s t b) ∧
     (f.kind = .inPhase → f.cause = .mixShort → h.gelPassed s.clock = true →
       exec (.resolveRetry tag boom none) s = .next (s.refused 0x90 tag .tooLate)) ∧
     (f.kind = .inPhase → f.cause = .mixShort → h.gelPassed s.clock = false → h.phase = .mixing →
       min s.params.demandMixing s.params.pumpCapacity ≤ s.grant b ∨
         min s.params.demandMixing s.params.pumpCapacity - s.grant b ≤ s.free →
       ∃ t g, exec (.resolveRetry tag boom none) s = .next t ∧ t.replies 0x90 tag (le1 0) ∧
         (t.boom b).auto = .cycle .active g ∧ g.phase = .mixing ∧ g.mixSum = 0 ∧ g.mixStart = none ∧
         g.resinStart = h.resinStart ∧ (t.boom b).current = (s.boom b).current ∧
         (t.boom b).posted = (s.boom b).posted ∧ (t.boom b).seen = (s.boom b).seen ∧
         Boom.SameReadings (s.boom b) (t.boom b) ∧ State.SameStore s t ∧ State.SameLists s t ∧ State.SameOthers s t b)) ∧
  (∀ (s : State) (tag boom : Byte) (b : Slot) (f : ExFrame) (h : Hole), s.ready → s.requested = none → s.flowQuiet →
    s.slotOf boom = some b → (s.boom b).level = 0 → (s.boom b).auto = .exception f h → s.retractLine ≠ some true →
    s.drive = some true →
    (f.kind = .inPhase → f.cause = .loaderJam → h.phase = .resinLoad ∨ h.phase = .boltLoad → h.chuckReleased = false →
      ∃ t g, exec (.resolveRetry tag boom none) s = .next t ∧ t.replies 0x90 tag (le1 0) ∧ s.FlowAsked t b g ∧
        g.phase = h.phase ∧ g.loaded = h.loaded ∧ g.indexDone = h.indexDone ∧
        g.resolveCount = min (h.resolveCount + 1) 65535 ∧ (t.boom b).current = (s.boom b).current ∧
        (t.boom b).posted = (s.boom b).posted ∧ ((s.boom b).handshake = .none → (t.boom b).handshake = .none) ∧
        Boom.SameReadings (s.boom b) (t.boom b) ∧ State.SameStore s t ∧ State.SameLists s t ∧ State.SameOthers s t b) ∧
    (f.kind = .prePhase → CondSet.has f.posted .underTension = true → h.retorques < 2 →
      h.chuckReleased = true ∨ h.moved = true → h.phase = .releasing → s.covers b (s.demandOf .inserting) →
      ∃ t g, exec (.resolveRetry tag boom none) s = .next t ∧ t.replies 0x90 tag (le1 0) ∧
        (t.boom b).auto = .cycle .reEngage g ∧ g.phase = .torquing ∧ g.retorques = h.retorques + 1 ∧ g.peak = 0 ∧
        g.chuckReleased = h.chuckReleased ∧ g.moved = h.moved ∧ (t.boom b).chuck = .closed ∧ (t.boom b).rotation = 0 ∧
        t.grant b = s.demandOf .inserting ∧
        (s.demandOf .inserting ≤ s.grant b → (t.boom b).feed = h.plan.recipe.insertFeed) ∧ (t.boom b).posted = 0 ∧
        Boom.SameReadings (s.boom b) (t.boom b) ∧ State.SameStore s t ∧ State.SameLists s t ∧ State.SameOthers s t b))

/-! ## Interventions -/

/-- TAKEOVER: its four checks (an unfitted slot, the mode, a takeover already, a retract), and when accepted the level-0 context
is set aside whole, its takeover count up when a hole is open (CYCLE, EXCEPTION or ABANDONING; not IDLE or LOG_WAIT), feed and
rotation at 0, and MANUAL is READY when its demand is covered or granted (R153 to R155). -/
def Obligations.TakeoverSetsWorkAside : Prop :=
  (∀ (s : State) (tag boom : Byte), s.ready → s.settled → s.slotOf boom = none →
    exec (.takeover tag boom) s = .next (s.refused 0x93 tag .badArg)) ∧
  (∀ (s : State) (tag boom : Byte) (b : Slot), s.ready → s.settled → s.slotOf boom = some b →
     (s.mode ≠ .run → exec (.takeover tag boom) s = .next (s.refused 0x93 tag .refusedMode)) ∧
     (s.mode = .run → (s.boom b).level = 1 → exec (.takeover tag boom) s = .next (s.refused 0x93 tag .already)) ∧
     (s.mode = .run → (s.boom b).level = 2 → exec (.takeover tag boom) s = .next (s.refused 0x93 tag .refusedState)) ∧
     (s.mode = .run → (s.boom b).level = 0 → s.waitsAlone b →
       min s.params.manualDemand s.params.pumpCapacity ≤ s.grant b ∨
         min s.params.manualDemand s.params.pumpCapacity - s.grant b ≤ s.free →
       ∃ t m, exec (.takeover tag boom) s = .next t ∧ t.replies 0x93 tag (le1 0) ∧ (t.boom b).level = 1 ∧
         (t.boom b).manual = some m ∧ m.sub = .ready ∧ m.hold = none ∧ (t.boom b).feed = 0 ∧ (t.boom b).rotation = 0 ∧
         (t.boom b).chuck = (s.boom b).chuck ∧ (t.boom b).handshake = .none ∧ (t.boom b).awayDepth = (s.boom b).depth ∧
         t.grant b = min s.params.manualDemand s.params.pumpCapacity ∧
         (∀ sub h, (s.boom b).auto = .cycle sub h →
           (t.boom b).auto = .cycle sub { h with torqueRun := [], takeovers := min (h.takeovers + 1) 65535 }) ∧
         ((s.boom b).auto = .idle → (t.boom b).auto = .idle) ∧
         (t.boom b).profile = (s.boom b).profile ∧ (t.boom b).current = (s.boom b).current ∧
         (t.boom b).posted = (s.boom b).posted ∧ (t.boom b).accrued = (s.boom b).accrued ∧
         Boom.SameReadings (s.boom b) (t.boom b) ∧ State.SameStore s t ∧ State.SameLists s t ∧ State.SameOthers s t b)) ∧
  (∀ (s : State) (tag boom : Byte) (b : Slot), s.ready → s.requested = none → s.slotOf boom = some b → s.mode = .run →
    (s.boom b).level = 0 → s.waitsAlone b →
    min s.params.manualDemand s.params.pumpCapacity ≤ s.grant b ∨
      min s.params.manualDemand s.params.pumpCapacity - s.grant b ≤ s.free →
    ∃ t, exec (.takeover tag boom) s = .next t ∧ t.replies 0x93 tag (le1 0) ∧ (t.boom b).level = 1 ∧
      (∀ f h, (s.boom b).auto = .exception f h →
        (t.boom b).auto = .exception f { h with torqueRun := [], takeovers := min (h.takeovers + 1) 65535 }) ∧
      (∀ sub h, (s.boom b).auto = .abandoning sub h →
        (t.boom b).auto = .abandoning sub { h with torqueRun := [], takeovers := min (h.takeovers + 1) 65535 }) ∧
      (∀ r, (s.boom b).auto = .logWait r → (t.boom b).auto = .logWait r) ∧
      (t.boom b).awayDepth = (s.boom b).depth ∧ t.grant b = min s.params.manualDemand s.params.pumpCapacity ∧
      State.SameStore s t ∧ State.SameLists s t ∧ State.SameOthers s t b)

/-- MANUAL_DRIVE: an unfitted slot or a value outside its range is BAD_ARG and a boom not in MANUAL REFUSED_STATE; in READY with
drive-enable present the values are driven and the hold timer starts from zero, CLOSED and KEEP leaving the level-0 context
alone and OPEN letting go the bolt of a cycle set aside in BOLT_LOAD to TORQUING; otherwise they are discarded under an OK
(R156, R164). -/
def Obligations.ManualDriveDrivesOrDiscards : Prop :=
  (∀ (s : State) (tag boom c : Byte) (feed rotation : Half), s.ready → s.settled → s.slotOf boom = none →
    exec (.manualDrive tag boom feed rotation c) s = .next (s.refused 0x94 tag .badArg)) ∧
  ∀ (s : State) (tag boom : Byte) (feed rotation : Half) (b : Slot), s.ready → s.settled → s.slotOf boom = some b →
    (∀ c : Byte, feed.toInt < -1000 ∨ 1000 < feed.toInt ∨ rotation.toInt < -1000 ∨ 1000 < rotation.toInt ∨ 2 < c.toNat →
      exec (.manualDrive tag boom feed rotation c) s = .next (s.refused 0x94 tag .badArg)) ∧
    (-1000 ≤ feed.toInt → feed.toInt ≤ 1000 → -1000 ≤ rotation.toInt → rotation.toInt ≤ 1000 →
      (∀ c : Byte, c.toNat ≤ 2 → (s.boom b).level ≠ 1 →
        exec (.manualDrive tag boom feed rotation c) s = .next (s.refused 0x94 tag .refusedState)) ∧
      (∀ m, (s.boom b).level = 1 → (s.boom b).manual = some m →
        (∀ c : Byte, c.toNat ≤ 2 → m.sub = .waitFlow ∨ s.driveOn = false →
          exec (.manualDrive tag boom feed rotation c) s = .next (s.heard.noted.answered 0x94 tag (le1 0))) ∧
        (m.sub = .ready → s.driveOn = true →
          exec (.manualDrive tag boom feed rotation 0) s =
            .next ((s.heard.setBoom b { s.boom b with
              feed := feed.toInt, rotation := rotation.toInt,
              manual := some { m with hold := some 0 } }).noted.answered 0x94 tag (le1 0)) ∧
          exec (.manualDrive tag boom feed rotation 2) s =
            .next ((s.heard.setBoom b { s.boom b with
              feed := feed.toInt, rotation := rotation.toInt, chuck := .closed,
              manual := some { m with hold := some 0 } }).noted.answered 0x94 tag (le1 0)) ∧
          ∀ sub h, (s.boom b).auto = .cycle sub h →
            exec (.manualDrive tag boom feed rotation 1) s =
              .next ((s.heard.setBoom b { s.boom b with
                feed := feed.toInt, rotation := rotation.toInt, chuck := .opened,
                manual := some { m with hold := some 0 },
                auto := .cycle sub
                  (if 5 ≤ h.phase.num ∧ h.phase.num ≤ 9 then { h with chuckReleased := true } else h) }).noted.answered
                    0x94 tag (le1 0)))))

/-- HANDBACK: refused for an unfitted slot and when the active context is not MANUAL; over an IDLE context the boom is IDLE at
level 0 with grant 0, its outputs at rest and its chuck command the one the output last showed; over a CYCLE, EXCEPTION,
ABANDONING or LOG_WAIT context it leads where R165's table and R166 say (R158, R164 to R166). -/
def Obligations.HandbackPopsTheTakeover : Prop :=
  (∀ (s : State) (tag boom : Byte), s.ready → s.settled → s.slotOf boom = none →
    exec (.handback tag boom) s = .next (s.refused 0x95 tag .badArg)) ∧
  (∀ (s : State) (tag boom : Byte) (b : Slot), s.ready → s.slotOf boom = some b →
     (s.settled → (s.boom b).level ≠ 1 → exec (.handback tag boom) s = .next (s.refused 0x95 tag .refusedState)) ∧
     (s.requested = none → s.flowQuiet → (s.boom b).level = 1 → (s.boom b).auto = .idle →
       ∃ t, exec (.handback tag boom) s = .next t ∧ t.replies 0x95 tag (le1 0) ∧ (t.boom b).level = 0 ∧
         (t.boom b).auto = .idle ∧ (t.boom b).feed = 0 ∧ (t.boom b).rotation = 0 ∧
         (t.boom b).chuck = (s.boom b).chuckShown ∧ t.grant b = 0 ∧ t.link.boomStatus.get b = true ∧
         Boom.SameReadings (s.boom b) (t.boom b) ∧ State.SameStore s t ∧ State.SameLists s t ∧ State.SameOthers s t b)) ∧
  (∀ (s : State) (tag boom : Byte) (b : Slot), s.ready → s.requested = none → s.flowQuiet → s.slotOf boom = some b →
    (s.boom b).level = 1 →
    ∃ t, exec (.handback tag boom) s = .next t ∧ t.replies 0x95 tag (le1 0) ∧ s.PoppedTo t b ∧
      State.SameStore s t ∧ t.queues = s.queues ∧
      ((∀ sub h, (s.boom b).auto = .abandoning sub h → s.covers b (s.demandOf .retractDrill)) → State.SameOthers s t b))

/-- The re-entry check of a pop: a CYCLE hole moved by more than REENTRY_TOLERANCE while away, or whose bolt was let go, stops
on MOVED_WHILE_AWAY with the moved distance as operand and in its total; a drilling hole moved less takes no exception (R165,
R166). RE_ENGAGE then feeds the bolt in with the chuck CLOSED, and at the seating sample clears both flags and asks for its
phase's own flow, or goes on into TORQUING when the hold has elapsed (R32). -/
def Obligations.ReentryChecksTheMove : Prop :=
  (∀ (s : State) (b : Slot) (sub : CycleSub) (h : Hole) (d : Nat), (s.boom b).auto = .cycle sub h →
     (s.boom b).level = 0 → s.waitsAlone b →
     (10 * s.params.reentryTolerance < d ∨ (h.chuckReleased = true ∧ 5 ≤ h.phase.num ∧ h.phase.num ≤ 9) →
       ∃ f g, ((s.popCycle b sub h d).boom b).auto = .exception f g ∧ f.cause = .movedWhileAway ∧ f.operand = d ∧
         f.kind = .inPhase ∧ f.phase = h.phase ∧ g.movedDistance = min (h.movedDistance + d) 65535 ∧
         (10 * s.params.reentryTolerance < d → g.moved = true) ∧
         CondSet.has ((s.popCycle b sub h d).boom b).accrued .movedWhileAway = true ∧
         (s.popCycle b sub h d).grant b = s.grantStopped b h.phase) ∧
     (d ≤ 10 * s.params.reentryTolerance → h.phase = .drilling → s.drive = some true → s.link.silent = false →
       min s.params.demandDrilling s.params.pumpCapacity ≤ s.grant b →
       ∃ g, ((s.popCycle b sub h d).boom b).auto = .cycle .active g ∧
         g.movedDistance = min (h.movedDistance + d) 65535 ∧ g.phase = .drilling)) ∧
  (∀ (s : State) (b : Slot) (h : Hole), (s.boom b).running = some (.reEngage, h) →
    h.phase = .holding ∨ h.phase = .torquing → s.stopCause b (s.engageConds b) = none →
    (s.depth b < h.drilled.getD 0 - 10 * s.params.seatTolerance →
      ∃ x, s.contextSample b = s.setBoom b x ∧ x.auto = .cycle .reEngage h ∧ x.feed = h.plan.recipe.insertFeed ∧
        x.rotation = 0 ∧ x.chuck = .closed) ∧
    (h.drilled.getD 0 - 10 * s.params.seatTolerance ≤ s.depth b → s.flowQuiet → s.drive = some true →
      s.link.silent = false →
      (h.phase = .torquing ∨ h.holdElapsed s.clock = false →
        ∃ t g, s.contextSample b = t ∧ s.OnlyBoom t b ∧ s.FlowAsked t b g ∧ g.phase = h.phase ∧ g.plan = h.plan ∧
          g.chuckReleased = false ∧ g.moved = false ∧ (t.boom b).chuck = .closed) ∧
      (h.phase = .holding → h.holdElapsed s.clock = true → (s.boom b).posted = 0 →
        CondSet.has (s.boom b).enabled .sensorRange = false →
        ∃ t g, s.contextSample b = t ∧ s.OnlyBoom t b ∧ s.PhaseEntered t b h g .torquing ∧
          g.holdEnd = some s.clock ∧ g.chuckReleased = false ∧ g.moved = false)))

/-- SAFE_RETRACT: its checks, and when accepted the boom is at level 2 with its chuck commanded OPEN, at rest in RETRACTED with
grant 0 when already home, else with its flow retracting or held. An ACTIVE sample of it counts its timer while away from home,
comes to rest in RETRACTED with grant 0 at home, and is held without drive-enable (R159, R161, R162). That the outputs are
driven in the very act is log entry 16 (R24, R161). -/
def Obligations.SafeRetractPullsTheBoom : Prop :=
  (∀ (s : State) (tag boom : Byte), s.ready → s.settled → s.slotOf boom = none →
    exec (.safeRetract tag boom) s = .next (s.refused 0x96 tag .badArg)) ∧
  (∀ (s : State) (tag boom : Byte) (b : Slot), s.ready → s.settled → s.slotOf boom = some b →
     (s.mode ≠ .run → exec (.safeRetract tag boom) s = .next (s.refused 0x96 tag .refusedMode)) ∧
     (s.mode = .run → (s.boom b).level = 2 → exec (.safeRetract tag boom) s = .next (s.refused 0x96 tag .already)) ∧
     (s.mode = .run → (s.boom b).level ≠ 2 → s.waitsAlone b →
       s.depth b ≤ 10 * s.params.homeTolerance ∨
         min s.params.demandRetractDrill s.params.pumpCapacity ≤ s.grant b ∨
         min s.params.demandRetractDrill s.params.pumpCapacity - s.grant b ≤ s.free →
       ∃ t r, exec (.safeRetract tag boom) s = .next t ∧ t.replies 0x96 tag (le1 0) ∧ (t.boom b).level = 2 ∧
         (t.boom b).retract = some r ∧ (t.boom b).chuck = .opened ∧ (t.boom b).rotation = 0 ∧
         (t.boom b).handshake = .none ∧ r.ticks = 0 ∧ r.overdue = false ∧
         (∀ sub h, (s.boom b).auto = .cycle sub h → ∃ g, (t.boom b).auto = .cycle sub g ∧
           g.retracts = min (h.retracts + 1) 65535 ∧
           (5 ≤ h.phase.num → h.phase.num ≤ 9 → g.chuckReleased = true)) ∧
         (if s.depth b ≤ 10 * s.params.homeTolerance then
           r.sub = .retracted ∧ t.grant b = 0 ∧ (t.boom b).feed = 0
         else
           t.grant b = min s.params.demandRetractDrill s.params.pumpCapacity ∧
           (s.drive = some true → r.sub = .active ∧ (t.boom b).feed = -(s.params.retractFeed : Int)) ∧
           (s.drive ≠ some true → r.sub = .driveHeld ∧ (t.boom b).feed = 0)) ∧
         Boom.SameReadings (s.boom b) (t.boom b) ∧ State.SameStore s t ∧ State.SameLists s t ∧ State.SameOthers s t b)) ∧
  (∀ (s : State) (b : Slot) (r : RetractCtx), (s.boom b).retract = some r → r.sub = .active →
    (s.drive = some true → 10 * s.params.homeTolerance < s.depth b →
      ((s.contextSample b).boom b).retract =
        some { r with
          ticks := r.ticks + 1, overdue := r.overdue || decide (s.params.retractTimeout ≤ 10 * (r.ticks + 1)) } ∧
      ((s.contextSample b).boom b).feed = (s.boom b).feed ∧ (s.contextSample b).grant b = s.grant b ∧
      s.OnlyBoom (s.contextSample b) b) ∧
    (s.drive = some true → s.depth b ≤ 10 * s.params.homeTolerance → s.flowQuiet →
      (∃ q, ((s.contextSample b).boom b).retract = some q ∧ q.sub = .retracted) ∧
      ((s.contextSample b).boom b).feed = 0 ∧ ((s.contextSample b).boom b).rotation = 0 ∧
      ((s.contextSample b).boom b).auto = (s.boom b).auto ∧ (s.contextSample b).grant b = 0 ∧
      s.OnlyBoom (s.contextSample b) b) ∧
    (s.drive ≠ some true →
      ((s.contextSample b).boom b).retract = some { r with sub := .driveHeld } ∧
      ((s.contextSample b).boom b).feed = 0 ∧ (s.contextSample b).grant b = s.grant b ∧
      s.OnlyBoom (s.contextSample b) b))

/-- RETRACT_CLEAR: refused for an unfitted slot, unless the boom rests in RETRACTED, and while the line is asserted; else the
retract ends, and over an IDLE context the boom is IDLE at level 0 with grant 0, over a takeover it is MANUAL at level 1 again,
and over a CYCLE, EXCEPTION, ABANDONING or LOG_WAIT context it leads where R165's table and R166 say (R163 to R166). -/
def Obligations.RetractClearNeedsTheLine : Prop :=
  (∀ (s : State) (tag boom : Byte), s.ready → s.settled → s.slotOf boom = none →
    exec (.retractClear tag boom) s = .next (s.refused 0x97 tag .badArg)) ∧
  (∀ (s : State) (tag boom : Byte) (b : Slot), s.ready → s.slotOf boom = some b →
     (s.settled → (∀ r, (s.boom b).retract = some r → r.sub ≠ .retracted) →
       exec (.retractClear tag boom) s = .next (s.refused 0x97 tag .refusedState)) ∧
     (∀ r, (s.boom b).retract = some r → r.sub = .retracted →
       (s.settled → s.retractLine = some true →
         exec (.retractClear tag boom) s = .next (s.refused 0x97 tag .causePresent)) ∧
       (s.retractLine ≠ some true → s.requested = none → s.flowQuiet →
         ((s.boom b).manual = none → (s.boom b).auto = .idle →
           ∃ t, exec (.retractClear tag boom) s = .next t ∧ t.replies 0x97 tag (le1 0) ∧ (t.boom b).level = 0 ∧
             (t.boom b).auto = .idle ∧ t.grant b = 0 ∧ (t.boom b).chuck = (s.boom b).chuckShown ∧
             Boom.SameReadings (s.boom b) (t.boom b) ∧ State.SameStore s t ∧ State.SameLists s t ∧
             State.SameOthers s t b) ∧
         (∀ m, (s.boom b).manual = some m →
           ∃ t k, exec (.retractClear tag boom) s = .next t ∧ t.replies 0x97 tag (le1 0) ∧ (t.boom b).level = 1 ∧
             (t.boom b).manual = some k ∧ k.hold = none ∧ (t.boom b).auto = (s.boom b).auto ∧ (t.boom b).feed = 0 ∧
             (t.boom b).rotation = 0 ∧ Boom.SameReadings (s.boom b) (t.boom b) ∧ State.SameStore s t ∧
             State.SameLists s t ∧ State.SameOthers s t b)))) ∧
  (∀ (s : State) (tag boom : Byte) (b : Slot) (r : RetractCtx), s.ready → s.requested = none → s.flowQuiet →
    s.slotOf boom = some b → (s.boom b).retract = some r → r.sub = .retracted → (s.boom b).manual = none →
    s.retractLine ≠ some true →
    ∃ t, exec (.retractClear tag boom) s = .next t ∧ t.replies 0x97 tag (le1 0) ∧ s.PoppedTo t b ∧
      State.SameStore s t ∧ t.queues = s.queues ∧
      ((∀ sub h, (s.boom b).auto = .abandoning sub h → s.covers b (s.demandOf .retractDrill)) → State.SameOthers s t b))

/-! ## Flow -/

/-- RESERVE_FLOW by R123's table, for a reserve that holds none, that holds some and that waits already, and RELEASE_FLOW by
R124, with no other requester waiting; and a RESERVE_FLOW whose need only the newest holder's flow can meet backs that boom off
and is granted (R120, R121). The sizes of the reply's figures are the model's choice (log entry 10). -/
def Obligations.ReserveByItsTable : Prop :=
  (∀ (s : State) (tag : Byte), s.ready → s.settled → s.flowQuiet →
     (∀ n : Half, n.toNat < 1 ∨ 400 < n.toNat →
       exec (.reserveFlow tag n) s = .next (s.refused 0x98 tag .badArg)) ∧
     (∀ n : Half, 1 ≤ n.toNat → n.toNat ≤ 400 →
       (min n.toNat s.params.pumpCapacity = s.arbiter.reserve →
         exec (.reserveFlow tag n) s =
           .next (s.heard.noted.answered 0x98 tag (le1 3 ++ (le2 s.arbiter.reserve ++ le2 0)))) ∧
       (min n.toNat s.params.pumpCapacity < s.arbiter.reserve → 0 < s.params.pumpCapacity →
         exec (.reserveFlow tag n) s =
           .next
             (({ s.heard with arbiter := { s.arbiter with reserve := min n.toNat s.params.pumpCapacity } } :
                 State).noted.answered 0x98 tag (le1 0 ++ (le2 (min n.toNat s.params.pumpCapacity) ++ le2 0)))) ∧
       (s.arbiter.reserve < min n.toNat s.params.pumpCapacity →
         min n.toNat s.params.pumpCapacity - s.arbiter.reserve ≤ s.free →
         exec (.reserveFlow tag n) s =
           .next
             (({ s.heard with
               arbiter :=
                 { s.arbiter with
                   reserve := min n.toNat s.params.pumpCapacity
                   grantList := s.arbiter.grantList.filter (fun q => q ≠ .reserve) ++ [.reserve] } } :
                 State).noted.answered 0x98 tag (le1 0 ++ (le2 (min n.toNat s.params.pumpCapacity) ++ le2 0)))) ∧
       (s.arbiter.reserve < min n.toNat s.params.pumpCapacity →
         s.free + s.backableFlow < min n.toNat s.params.pumpCapacity - s.arbiter.reserve →
         exec (.reserveFlow tag n) s =
           .next
             (({ s.heard with
               arbiter :=
                 { s.arbiter with
                   waitList :=
                     [{ requester := .reserve, cls := .urgent, demand := min n.toNat s.params.pumpCapacity,
                        join := s.clock, waitStart := s.clock, backedOff := false }] } } :
                 State).noted.answered 0x98 tag
               (le1 2 ++ (le2 s.arbiter.reserve ++ le2 (min n.toNat s.params.pumpCapacity)))))) ∧
     (s.arbiter.reserve = 0 → exec (.releaseFlow tag) s = .next (s.refused 0x99 tag .already)) ∧
     (0 < s.arbiter.reserve →
       exec (.releaseFlow tag) s =
         .next
           (({ s.heard with
             arbiter :=
               { s.arbiter with
                 reserve := 0, grantList := s.arbiter.grantList.filter (fun q => q ≠ .reserve) } } :
               State).noted.answered 0x99 tag (le1 0)))) ∧
  (∀ (s : State) (tag : Byte) (e : WaitEntry), s.ready → s.settled → s.arbiter.waitList = [e] → e.requester = .reserve →
    e.cls = .urgent →
    (∀ n : Half, 1 ≤ n.toNat → n.toNat ≤ 400 → 0 < s.params.pumpCapacity →
      (min n.toNat s.params.pumpCapacity ≤ s.arbiter.reserve →
        exec (.reserveFlow tag n) s =
          .next
            (({ s.heard with
              arbiter := { s.arbiter with reserve := min n.toNat s.params.pumpCapacity, waitList := [] } } :
                State).noted.answered 0x98 tag (le1 0 ++ (le2 (min n.toNat s.params.pumpCapacity) ++ le2 0)))) ∧
      (s.arbiter.reserve < min n.toNat s.params.pumpCapacity →
        min n.toNat s.params.pumpCapacity - s.arbiter.reserve ≤ s.free →
        exec (.reserveFlow tag n) s =
          .next
            (({ s.heard with
              arbiter :=
                { s.arbiter with
                  reserve := min n.toNat s.params.pumpCapacity
                  grantList := s.arbiter.grantList.filter (fun q => q ≠ .reserve) ++ [.reserve]
                  waitList := [] } } :
                State).noted.answered 0x98 tag (le1 0 ++ (le2 (min n.toNat s.params.pumpCapacity) ++ le2 0)))) ∧
      (s.arbiter.reserve < min n.toNat s.params.pumpCapacity →
        s.free + s.backableFlow < min n.toNat s.params.pumpCapacity - s.arbiter.reserve →
        exec (.reserveFlow tag n) s =
          .next
            (({ s.heard with
              arbiter :=
                { s.arbiter with waitList := [{ e with demand := min n.toNat s.params.pumpCapacity }] } } :
                State).noted.answered 0x98 tag
              (le1 2 ++ (le2 s.arbiter.reserve ++ le2 (min n.toNat s.params.pumpCapacity)))))) ∧
    exec (.releaseFlow tag) s =
      .next
        (({ s.heard with
          arbiter :=
            { s.arbiter with
              reserve := 0, grantList := s.arbiter.grantList.filter (fun q => q ≠ .reserve), waitList := [] } } :
            State).noted.answered 0x99 tag (le1 0))) ∧
  (∀ (s : State) (tag : Byte) (n : Half) (b : Slot) (h : Hole), s.ready → s.requested = none → s.flowQuiet → s.flowSafe →
    1 ≤ n.toNat → n.toNat ≤ 400 → s.fits b = true → (s.boom b).running = some (.active, h) →
    h.phase.flowClass = .normal → s.arbiter.grantList.getLast? = some (.boom b) →
    s.arbiter.reserve < min n.toNat s.params.pumpCapacity →
    s.free < min n.toNat s.params.pumpCapacity - s.arbiter.reserve →
    min n.toNat s.params.pumpCapacity - s.arbiter.reserve ≤ s.free + s.grant b →
    ∃ t, exec (.reserveFlow tag n) s = .next t ∧
      t.replies 0x98 tag (le1 0 ++ (le2 (min n.toNat s.params.pumpCapacity) ++ le2 0)) ∧
      t.arbiter.reserve = min n.toNat s.params.pumpCapacity ∧ (t.boom b).auto = .cycle .backedOff h ∧
      (t.boom b).feed = 0 ∧ (t.boom b).rotation = 0 ∧ (t.boom b).handshake = .none ∧
      (t.boom b).chuck = (s.boom b).chuck ∧ t.grant b = 0 ∧
      t.arbiter.waitList =
        [{ requester := .boom b, cls := .normal, demand := s.grant b, join := s.clock, waitStart := s.clock,
           backedOff := true }] ∧
      (∀ c, c ≠ b → t.boom c = s.noted.boom c ∧ t.grant c = s.grant c) ∧ State.SameStore s t ∧ State.SameLists s t)

/-- Headline: granted flow never exceeds the pump capacity in force. An evaluation keeps it so, whoever waits, is
granted or is backed off (R109, R118 to R121), and so does every step, with what makes it inductive: each requester has
at most one entry, and only while it waits (R113), in the order of classes and marks (R114), a boom without a hole and
every boom in CONFIG hold no flow (R172, R179), and the waiting writers are the booms in LOG_WAIT, each once, beside a
full log (R175). An evaluation looks at the head alone: one that fits takes its demand and goes to the tail of the grant
list, an URGENT one that the eligible holders can make room for has them backed off from the newest grant, and any other
head ends the evaluation with nobody behind it granted (R118 to R120). -/
def Obligations.EvaluationStaysWithinCapacity : Prop :=
  (∀ (s : State) (inReserve : Bool) (n : Nat), s.flowSafe → (State.evaluateWith inReserve n s).flowSafe) ∧
  (∀ s t : State, s.Served → step s = .next t → t.Served) ∧
  (∀ s : State, s.flowQuiet → s.evaluate = s) ∧
  (∀ (s : State) (inReserve : Bool) (n need : Nat) (e : WaitEntry) (rest : List WaitEntry),
    s.arbiter.waitList = e :: rest →
    need = e.demand - (match e.requester with | .boom b => s.grant b | .reserve => s.arbiter.reserve) →
    (need ≤ s.free →
      ∃ a, State.evaluateWith inReserve (n + 1) s =
          State.evaluateWith inReserve n (({ s with arbiter := a } : State).tell inReserve e.requester) ∧
        (match e.requester with
          | .boom b => a.grants = s.arbiter.grants.set b e.demand ∧ a.reserve = s.arbiter.reserve
          | .reserve => a.grants = s.arbiter.grants ∧ a.reserve = e.demand) ∧
        a.waitList = rest.filter (fun w => w.requester ≠ e.requester) ∧
        a.grantList = s.arbiter.grantList.filter (fun q => q ≠ e.requester) ++ [e.requester]) ∧
    (s.free < need → e.cls = .urgent → need ≤ s.free + s.backableFlow →
      State.evaluateWith inReserve (n + 1) s =
        State.evaluateWith inReserve n (State.backOffUntil need s.arbiter.grantList.reverse s)) ∧
    (s.free < need → e.cls ≠ .urgent ∨ s.free + s.backableFlow < need →
      State.evaluateWith inReserve (n + 1) s = s ∧ s.evaluate = s ∧ s.evaluateInReserve = s)) ∧
  (∀ (s : State) (need : Nat) (b : Slot) (r : Requester) (rs : List Requester),
    (need ≤ s.free → State.backOffUntil need (r :: rs) s = s) ∧
    (s.free < need →
      State.backOffUntil need (.reserve :: rs) s = State.backOffUntil need rs s ∧
      (s.backable b = false → State.backOffUntil need (.boom b :: rs) s = State.backOffUntil need rs s) ∧
      (s.backable b = true → State.backOffUntil need (.boom b :: rs) s = State.backOffUntil need rs (s.backOff b)))) ∧
  ∀ s : State,
    (∀ b, s.backable b = true ↔
      ∃ h, (s.boom b).running = some (.active, h) ∧ h.phase ≠ .mixing ∧ h.phase ≠ .holding ∧ h.phase ≠ .torquing) ∧
    s.backableFlow =
      (if s.backable .s1 then s.grant .s1 else 0) + (if s.backable .s2 then s.grant .s2 else 0) +
        (if s.backable .s3 then s.grant .s3 else 0) + (if s.backable .s4 then s.grant .s4 else 0)

/-- Backing off a boom: its grant goes to 0, it leaves the grant list, a marked NORMAL entry for the grant it held goes
behind the URGENT, the CURING and the marked entries and ahead of the unmarked NORMAL ones, feed, rotation and loader go
to 0, the chuck stays and the hole is kept (R30, R114, R121); that marked entries stand in the order they were backed
off is log entry 23. A top-up of a requester without an entry goes behind every entry of a class before its own, and in
its own class behind the marked ones, the ones that joined earlier, and those of its own tick up to its slot; it keeps
the grant. One with an entry of the class has its demand replaced in its place, and one with an entry of another class
loses that and asks anew (R114, R116). That an entry placed by a timer row ahead of its tick counts as joined at that
tick is log entry 2. -/
def Obligations.BackoffTakesTheGrant : Prop :=
  (∀ (s : State) (b : Slot) (h : Hole) (entry : WaitEntry), s.fits b = true → (s.boom b).running = some (.active, h) →
    entry = { requester := .boom b, cls := .normal, demand := s.grant b, join := s.clock, waitStart := s.clock,
              backedOff := true } →
    (s.backOff b).grant b = 0 ∧ Requester.boom b ∉ (s.backOff b).arbiter.grantList ∧
    (s.backOff b).arbiter.waitList =
      s.arbiter.waitList.takeWhile (fun e => decide (e.cls ≠ .normal ∨ e.backedOff = true)) ++
        entry :: s.arbiter.waitList.dropWhile (fun e => decide (e.cls ≠ .normal ∨ e.backedOff = true)) ∧
    (s.Served →
      (s.backOff b).arbiter.waitList =
        s.arbiter.waitList.filter (fun e => decide (e.cls ≠ .normal ∨ e.backedOff = true)) ++
          entry :: s.arbiter.waitList.filter (fun e => decide (e.cls = .normal ∧ e.backedOff = false))) ∧
    (s.backOff b).boom b =
      { s.boom b with feed := 0, rotation := 0, loaderOut := none, handshake := .none, auto := .cycle .backedOff h } ∧
    (s.backOff b).link.boomStatus.get b = true ∧
    ∀ c, c ≠ b → (s.backOff b).boom c = s.boom c ∧ (s.backOff b).grant c = s.grant c) ∧
  ∀ (a : Arbiter) (now : Tick) (r : Requester) (cls : FlowClass) (demand : Nat) (entry : WaitEntry) (ahead : WaitEntry → Bool),
    entry = { requester := r, cls := cls, demand := demand, join := now, waitStart := now, backedOff := false } →
    (∀ e, ahead e = true ↔
      (e.cls = .urgent ∧ cls ≠ .urgent) ∨ (e.cls = .curing ∧ cls = .normal) ∨
        (e.cls = cls ∧ (e.backedOff = true ∨ (e.join = now ∧ e.requester.num ≤ r.num) ∨
          (e.join ≠ now ∧ e.joinAhead = false)))) →
    ((∀ e ∈ a.waitList, e.requester ≠ r) →
      a.topUp now r cls demand = { a with waitList := a.waitList.takeWhile ahead ++ entry :: a.waitList.dropWhile ahead }) ∧
    (∀ l w m, a.waitList = l ++ w :: m → w.requester = r → (∀ e ∈ l ++ m, e.requester ≠ r) →
      (w.cls = cls → a.topUp now r cls demand = { a with waitList := l ++ { w with demand := demand } :: m }) ∧
      (w.cls ≠ cls →
        a.topUp now r cls demand =
          { a with waitList := (l ++ m).takeWhile ahead ++ entry :: (l ++ m).dropWhile ahead }))

/-! ## The log and observed holes -/

/-- DROP_RECORD: EMPTY on an empty log; else the oldest record goes, and the first waiting writer's record takes its place at
the tail with the next sequence number, its boom leaving LOG_WAIT (R174). The sizes of the reply's figures are the model's
choice (log entry 10). -/
def Obligations.DropAdmitsOneWriter : Prop :=
  ∀ (s : State) (tag : Byte), s.ready →
    (s.settled → s.log = [] → exec (.dropRecord tag) s = .next (s.refused 0x9C tag .empty)) ∧
    (∀ r rest, s.log = r :: rest →
      (s.settled → s.writers = [] →
        exec (.dropRecord tag) s =
          .next
            (({ s.heard with log := rest } : State).noted.answered 0x9C tag
              (le1 0 ++ (le2 r.seq ++ le1 rest.length ++ le1 0)))) ∧
      (∀ b ws w, s.requested = none → s.writers = b :: ws → (s.boom b).auto = .logWait w →
        ∃ t, exec (.dropRecord tag) s = .next t ∧ t.log = rest ++ [{ w with seq := s.nextSeq }] ∧
          t.nextSeq = (if s.nextSeq = 65535 then 1 else s.nextSeq + 1) ∧ t.writers = ws ∧ (t.boom b).auto = .idle ∧
          (t.boom b).level = (s.boom b).level ∧ t.link.recordReady = true ∧
          t.replies 0x9C tag (le1 0 ++ (le2 r.seq ++ le1 (rest.length + 1) ++ le1 ws.length)) ∧ State.SameStore s t ∧
          t.queues = s.queues ∧ t.arbiter = s.arbiter ∧ State.SameOthers s t b))

/-- MARK_START: its checks in their order, and when accepted the boom is OBSERVING with its plan, P0 latched, the profile opened
and the sets emptied; no flow is asked for (R181). -/
def Obligations.MarkStartObserves : Prop :=
  ∀ (s : State) (tag boom : Byte) (id : Half) (slot : Byte) (pos : Half), s.ready → s.settled →
    (s.slotOf boom = none → exec (.markStart tag boom id slot pos) s = .next (s.refused 0x9D tag .badArg)) ∧
    ∀ b, s.slotOf boom = some b →
      (s.mode ≠ .observe → exec (.markStart tag boom id slot pos) s = .next (s.refused 0x9D tag .refusedMode)) ∧
      (s.mode = .observe →
        (s.requested ≠ none → exec (.markStart tag boom id slot pos) s = .next (s.refused 0x9D tag .pendingMode)) ∧
        (s.requested = none →
          ((s.boom b).auto ≠ .idle ∨ (s.boom b).level ≠ 0 →
            exec (.markStart tag boom id slot pos) s = .next (s.refused 0x9D tag .refusedState)) ∧
          ((s.boom b).auto = .idle → (s.boom b).level = 0 →
            (id = 0 ∨ s.recipeOf slot = none →
              exec (.markStart tag boom id slot pos) s = .next (s.refused 0x9D tag .badArg)) ∧
            (∀ r, id ≠ 0 → s.recipeOf slot = some r →
              (s.idHeld id.toNat = true →
                exec (.markStart tag boom id slot pos) s = .next (s.refused 0x9D tag .duplicate)) ∧
              (s.idHeld id.toNat = false →
                exec (.markStart tag boom id slot pos) s =
                  .next
                    (((s.heard.setBoom b { s.boom b with
                      auto := .observing
                        { holeId := id.toNat, recipeSlot := slot.toNat, posTag := pos.toNat, recipe := r,
                          target := 10 * r.targetDepth, start := s.clock }
                      p0 := (s.boom b).lastGood.position, profile := Profile.openFor r, current := 0, posted := 0,
                      accrued := 0, outOfRange := Quad.fill 0, seen := Quad.fill false, feed := 0, rotation := 0,
                      loaderOut := none }).queueStatus b).noted.answered 0x9D tag (le1 0)))))))

/-- MARK_END: refused for an unfitted slot, outside OBSERVE and for a boom not OBSERVING; else the profile is closed and
assessed, a LOGGED record with no end phase, resin or tension section is assembled, and with room it goes into the log under the
next sequence number, else the boom waits in LOG_WAIT behind the other writers (R172, R175, R183). Until then a sample with the
speed in force above 0 enters the profile, after a gap test when the sample before it was not eligible, and SENSOR_RANGE goes
into the accrued set alone (R66, R81, R128, R182). The layout of the reply's figures is the model's choice (log entry 10). -/
def Obligations.MarkEndLogsTheHole : Prop :=
  (∀ (s : State) (tag boom : Byte), s.ready → s.settled → s.slotOf boom = none →
    exec (.markEnd tag boom) s = .next (s.refused 0x9E tag .badArg)) ∧
  (∀ (s : State) (tag boom : Byte) (b : Slot), s.ready → s.slotOf boom = some b →
     (s.settled → s.mode ≠ .observe → exec (.markEnd tag boom) s = .next (s.refused 0x9E tag .refusedMode)) ∧
     (s.settled → s.mode = .observe → (∀ p, (s.boom b).auto ≠ .observing p) →
       exec (.markEnd tag boom) s = .next (s.refused 0x9E tag .refusedState)) ∧
     (∀ p, s.mode = .observe → s.requested = none → (s.boom b).level = 0 → (s.boom b).auto = .observing p →
       (s.boom b).profile.cond = .opened →
       ∃ t r a, exec (.markEnd tag boom) s = .next t ∧ (t.boom b).profile.cond = .closed ∧
         (t.boom b).profile.interval = none ∧ (t.boom b).profile.anchor = some a ∧ r.verdict = .logged ∧
         r.endPhase = none ∧ r.resin = none ∧ r.tension = none ∧ r.holeId = p.holeId ∧ r.slot = b ∧
         r.recipeSlot = p.recipeSlot ∧ r.posTag = p.posTag ∧ r.start = p.start ∧ r.finish = s.clock ∧
         r.target = p.target ∧ r.drilled = (s.boom b).profile.frontier ∧ r.bands = (t.boom b).profile.bands ∧
         r.truncated = (t.boom b).profile.truncated ∧ r.anchor = some a ∧ r.accrued = (s.boom b).accrued ∧
         r.outOfRange = (s.boom b).outOfRange ∧ r.exceptions = 0 ∧ r.resolves = [] ∧
         Boom.SameReadings (s.boom b) (t.boom b) ∧ State.SameStore s t ∧ t.queues = s.queues ∧ t.arbiter = s.arbiter ∧
         State.SameOthers s t b ∧
         (if s.log.length < 48 then
           t.log = s.log ++ [{ r with seq := s.nextSeq }] ∧ t.nextSeq = (if s.nextSeq = 65535 then 1 else s.nextSeq + 1) ∧
           (t.boom b).auto = .idle ∧ t.writers = s.writers ∧ t.link.recordReady = true ∧
           t.replies 0x9E tag (le1 0 ++ (a.bytes ++ le2 s.nextSeq))
         else
           t.log = s.log ∧ t.nextSeq = s.nextSeq ∧ (t.boom b).auto = .logWait r ∧ t.writers = s.writers ++ [b] ∧
           t.replies 0x9E tag (le1 0 ++ (a.bytes ++ le2 0))))) ∧
  (∀ (s : State) (b : Slot) (p : Plan), (s.boom b).level = 0 → (s.boom b).auto = .observing p →
    ∃ x, s.contextSample b = s.setBoom b x ∧ x.auto = .observing p ∧ x.current = (s.boom b).current ∧
      x.posted = (s.boom b).posted ∧
      x.accrued =
        (if (s.boom b).newlyOut then CondSet.put (s.boom b).accrued .sensorRange else (s.boom b).accrued) ∧
      x.seen = (s.boom b).markSeen.seen ∧ x.wasEligible = decide (0 < (s.boom b).inForce.speed.getD 0) ∧
      x.profile =
        (if 0 < (s.boom b).inForce.speed.getD 0 then
          ((if (s.boom b).wasEligible then (s.boom b).profile else (s.boom b).profile.gapTest (s.depth b)).sample
            (strataFigures s.params p.recipe) (s.depth b) (s.boom b).inForce).1
        else (s.boom b).profile) ∧
      x.feed = (s.boom b).feed ∧ x.rotation = (s.boom b).rotation ∧ x.chuck = (s.boom b).chuck ∧
      Boom.SameReadings (s.boom b) x)

/-! ## Modes and invariants -/

/-- SET_MODE by R178's table: a bad code, the mode already current, a cancelled request, a request that waits for a boom, and a
change made at once with MODE queued, the reset cause of an unsent MODE report kept; a change into RUN with the retract line
asserted sweeps every fitted boom to level 2 (R160, R178, R179). -/
def Obligations.SetModeByItsTable : Prop :=
  (∀ (s : State) (tag code : Byte), s.ready →
     (s.settled → Mode.ofCode code.toNat = none → exec (.setMode tag code) s = .next (s.refused 0x82 tag .badArg)) ∧
     (∀ m, Mode.ofCode code.toNat = some m →
       (m = s.mode → s.requested = none →
         exec (.setMode tag code) s = .next (s.heard.noted.answered 0x82 tag (le1 3 ++ (le1 m.code ++ le1 0xFF)))) ∧
       (m = s.mode → s.requested ≠ none →
         exec (.setMode tag code) s =
           .next (({ s.heard with requested := none } : State).noted.answered 0x82 tag (le1 0 ++ (le1 m.code ++ le1 0xFF)))) ∧
       (m ≠ s.mode → s.quiescent = false →
         exec (.setMode tag code) s =
           .next
             (({ s.heard with requested := some m } : State).noted.answered 0x82 tag
               (le1 0 ++ (le1 s.mode.code ++ le1 m.code)))) ∧
       (m ≠ s.mode → s.quiescent = true → m ≠ .run ∨ s.retractLine ≠ some true →
         exec (.setMode tag code) s =
           .next
             (({ s.heard with mode := m, requested := none }.queueModeChange).noted.answered 0x82 tag
               (le1 0 ++ (le1 m.code ++ le1 0xFF)))))) ∧
  (∀ (s : State) (tag : Byte), s.ready → s.flowQuiet → s.mode ≠ .run → s.quiescent = true → s.retractLine = some true →
    ∃ t, exec (.setMode tag 1) s = .next t ∧ t.replies 0x82 tag (le1 0 ++ (le1 1 ++ le1 0xFF)) ∧ t.mode = .run ∧
      t.requested = none ∧ State.SameLists s t ∧ t.params = s.params ∧
      ∀ b, s.fits b = true → (t.boom b).level = 2 ∧ (t.boom b).chuck = .opened ∧ (t.boom b).auto = .idle ∧
        Boom.SameReadings (s.boom b) (t.boom b))

/-- Headline: every step keeps the bounds the spec gives the log, the sequence counter, the hole queues, the position-
loss run counts and the enable sets (R9, R52, R129, R172), from every state within them; and every step keeps the holes
and their loads in order: no hole id held twice (R13), every queue entry naming a recipe (R7), a loader command only
from an ACTIVE RESIN_LOAD or BOLT_LOAD that still needs it (R62), and no more cartridges loaded than planned (R34, R92).
And every step keeps the hole profiles sound: at most 32 bands, end to end from depth 0, an open interval that starts
where they end exactly while the profile is OPEN, which it is exactly while the boom's hole is drilled or observed,
fewer than 4095 samples in it, and a reference of at least 1 (R64, R65, R69, R70, R75, R77). That a band's top may equal
its bottom is log entry 14. -/
def Obligations.StepKeepsBounds : Prop :=
  (∀ s t : State, s.Bounded → step s = .next t → t.Bounded) ∧
  (∀ s t : State, s.Planned → step s = .next t → t.Planned) ∧
  (∀ s t : State, s.Profiled → step s = .next t → t.Profiled)

/-- The state after reset is within those bounds, with no mode change waiting, and meets the invariants of flow and lists,
of holes and loads, and of the profiles. -/
def Obligations.ResetIsBounded : Prop :=
  State.reset.Bounded ∧ State.reset.settled ∧ State.reset.Served ∧ State.reset.Planned ∧ State.reset.Profiled

/-- Headline: after every step no mode change that has become possible is left waiting: the change is made in the very event
that makes the last fitted boom quiescent (R179), from every state of which it holds. -/
def Obligations.StepLeavesNoChangeWaiting : Prop :=
  ∀ s t : State, s.settled → step s = .next t → t.settled

/-! ## Arithmetic -/

/-- The worked figures of the spec: the CRC of "123456789" (R189), a cartridge count (R89), a tension (R103), low bytes
first (R196); the energy of one interval, whole and with dropped samples (4.4: R72, R73, R74); the bands, classes,
references and last SE of six closes, a merge beside 32 bands (4.6: R74, R75, R78, R79), a gap after a takeover (4.7:
R82) and an anchor zone (4.8: R83). -/
def Obligations.WorkedFigures : Prop :=
  crc16 [0x31, 0x32, 0x33, 0x34, 0x35, 0x36, 0x37, 0x38, 0x39] = 0x29B1 ∧
  (∀ r : Recipe, r.bitDiameter = 27 → r.boltDiameter = 20 → r.encapsulation = 1200 → r.waste = 15 → r.cartDiameter = 23 →
    r.cartLength = 600 → baseCount r = 2 ∧ computedCount r .fair false = 3) ∧
  (∀ r : Recipe, r.bitDiameter = 45 → r.boltDiameter = 12 → r.encapsulation = 2400 → r.waste = 50 → r.cartDiameter = 18 →
    r.cartLength = 300 → baseCount r = 70) ∧
  (∀ r : Recipe, r.nutFactor = 100 → r.boltDiameter = 12 → tensionOf r 5000 = 4167) ∧
  (le1 0x12 = [0x12] ∧ le2 0x1234 = [0x34, 0x12] ∧ le4 0x12345678 = [0x78, 0x56, 0x34, 0x12] ∧
    le4Saturating 4294967300 = [0xFF, 0xFF, 0xFF, 0xFF]) ∧
  (∀ (g : StrataFigures) (iv : Interval), g = { bit := 27, interval := 20, voidPct := 15, softPct := 60, hardPct := 180 } →
    (iv = { start := 4200, samples := 120, sumForce := 1200000, forceCount := 120, sumWork := 60000000, workCount := 120,
            drops := 0 } ∨
        iv = { start := 4200, samples := 120, sumForce := 1200000, forceCount := 120, sumWork := 48000000, workCount := 96,
               drops := 24 } →
      iv.energy g.bit 200 = some 566 ∧ classify g 300 500 iv (some 566) = .competent) ∧
    (iv = { start := 4200, samples := 120, sumForce := 1200000, forceCount := 120, sumWork := 44500000, workCount := 89,
            drops := 31 } →
      iv.energy g.bit 200 = some 566 ∧ classify g 300 500 iv (some 566) = .unknown)) ∧
  (nextReference 500 566 = 508 ∧ nextReference 508 470 = 504 ∧ nextReference 1 0 = 1) ∧
  (∀ p0 p1 p2 p3 p4 p5 p6 : Profile,
    p0 = { cond := .opened, frontier := 0, interval := some (Interval.opensAt 0), refSE := 500, lastSE := 0, bands := [],
           truncated := false, collarLimit := 300, anchor := none } →
    p1 = (p0.worked 20076660 204).1 → p2 = (p1.worked 46386270 406).1 → p3 = (p2.worked 61892100 606).1 →
    p4 = (p3.worked 51908445 808).1 → p5 = (p4.worked 6626610 1010).1 → p6 = (p5.worked 28715310 1212).1 →
    (p1.lastSE = 180 ∧ p1.refSE = 500 ∧ p1.bands = [Band.figures .collar 0 204 1 180 180 180]) ∧
    (p2.lastSE = 420 ∧ p2.refSE = 500 ∧ p2.bands = [Band.figures .collar 0 406 2 180 420 600]) ∧
    (p3.lastSE = 566 ∧ p3.refSE = 508 ∧
      p3.bands = [Band.figures .collar 0 406 2 180 420 600, Band.figures .competent 406 606 1 566 566 566]) ∧
    (p4.lastSE = 470 ∧ p4.refSE = 504 ∧
      p4.bands = [Band.figures .collar 0 406 2 180 420 600, Band.figures .competent 406 808 2 470 566 1036]) ∧
    (p4.worked 6626610 1010).2 = true ∧ (p5.lastSE = 60 ∧ p5.refSE = 504) ∧
    p6 = { cond := .opened, frontier := 1212, interval := some (Interval.opensAt 1212), refSE := 504, lastSE := 260,
           bands := [Band.figures .collar 0 406 2 180 420 600, Band.figures .competent 406 808 2 470 566 1036,
                     Band.figures .void 808 1010 1 60 60 60, Band.figures .soft 1010 1212 1 260 260 260],
           truncated := false, collarLimit := 300, anchor := none } ∧
    ∀ q : Profile,
      q = { p6 with frontier := 1290, interval := some { Interval.opensAt 1212 with samples := 46, forceCount := 46 } } →
      q.gapTest 1650 =
        { p6 with
          frontier := 1650, interval := some (Interval.opensAt 1650),
          bands := p6.bands ++
            [{ Band.figures .unlogged 1212 1650 0 0 0 0 with seCount := 0, seMin := none, seMax := none }] }) ∧
  (∀ (p : Profile) (l : List Band), p.cond = .opened → p.frontier = 14420 → p.interval = some (Interval.opensAt 14420) →
    p.refSE = 500 → p.collarLimit = 300 → l.length = 31 → p.bands = l ++ [Band.figures .soft 14200 14420 1 240 240 240] →
    p.worked 60853275 14630 =
      ({ p with
         frontier := 14630, interval := some (Interval.opensAt 14630), refSE := 503, lastSE := 530, truncated := true,
         bands := l ++ [{ Band.figures .soft 14200 14630 2 240 530 770 with isMerged := true }] }, false)) ∧
  ∀ (p : Profile) (e : Nat),
    p = { cond := .closed, frontier := 18000, interval := none, refSE := 500, lastSE := 500,
          bands := [Band.figures .collar 0 300 1 180 180 180, Band.figures .competent 300 7400 1 500 500 500,
                    Band.figures .soft 7400 9800 1 250 250 250, Band.figures .competent 9800 16200 1 500 500 500,
                    Band.figures .void 16200 e 1 60 60 60, Band.figures .hard e 18000 1 950 950 950],
          truncated := false, collarLimit := 300, anchor := none } →
    (e = 16500 → p.assess Params.default 1200 = { percent := 77, grade := .fair }) ∧
    (e = 16650 → p.assess Params.default 1200 = { percent := 76, grade := .poor })

/-- The base count is the smallest number of cartridges whose resin fills the annulus with its waste, for every recipe with a
cartridge of some volume (R89). -/
def Obligations.BaseCountIsTheSmallest : Prop :=
  ∀ r : Recipe, 0 < r.cartDiameter → 0 < r.cartLength →
    (r.bitDiameter ^ 2 - r.boltDiameter ^ 2) * r.encapsulation * (100 + r.waste) ≤
      baseCount r * (r.cartDiameter ^ 2 * r.cartLength * 100) ∧
    ∀ n, (r.bitDiameter ^ 2 - r.boltDiameter ^ 2) * r.encapsulation * (100 + r.waste) ≤
      n * (r.cartDiameter ^ 2 * r.cartLength * 100) → baseCount r ≤ n
end

