-- ==== Sys2Proof/Laws/State.lean ====
section
/-! SUPPORT. One lemma per field and update: what each plain update of the state leaves alone, and what reading a slot gives
after writing one. -/

namespace Sys2Proof.Machine

variable (s : State)

/-! ## Slots -/

@[simp] theorem four_get_set_self {α : Type} (f : Four α) (b : Slot) (x : α) : (f.set b x).get b = x := by
  cases b <;> rfl

@[simp] theorem four_get_fill {α : Type} (b : Slot) (x : α) : (Four.fill x).get b = x := by cases b <;> rfl

theorem four_get_set_of_ne {α : Type} (f : Four α) {b c : Slot} (x : α) (h : c ≠ b) : (f.set b x).get c = f.get c := by
  cases b <;> cases c <;> first | rfl | exact absurd rfl h

@[simp] theorem State.setBoom_boom (b : Slot) (x : Boom) : (s.setBoom b x).boom b = x := four_get_set_self _ _ _

theorem State.setBoom_boom_of_ne {b c : Slot} (x : Boom) (h : c ≠ b) : (s.setBoom b x).boom c = s.boom c :=
  four_get_set_of_ne _ _ h

/-! ## Updates -/

@[simp] theorem State.setBoom_pending (b : Slot) (x : Boom) : (s.setBoom b x).pending = s.pending := rfl

@[simp] theorem State.setBoom_clock (b : Slot) (x : Boom) : (s.setBoom b x).clock = s.clock := rfl

@[simp] theorem State.setBoom_mode (b : Slot) (x : Boom) : (s.setBoom b x).mode = s.mode := rfl

@[simp] theorem State.setBoom_requested (b : Slot) (x : Boom) : (s.setBoom b x).requested = s.requested := rfl

@[simp] theorem State.setBoom_restartCause (b : Slot) (x : Boom) : (s.setBoom b x).restartCause = s.restartCause := rfl

@[simp] theorem State.setBoom_params (b : Slot) (x : Boom) : (s.setBoom b x).params = s.params := rfl

@[simp] theorem State.setBoom_recipes (b : Slot) (x : Boom) : (s.setBoom b x).recipes = s.recipes := rfl

@[simp] theorem State.setBoom_queues (b : Slot) (x : Boom) : (s.setBoom b x).queues = s.queues := rfl

@[simp] theorem State.setBoom_arbiter (b : Slot) (x : Boom) : (s.setBoom b x).arbiter = s.arbiter := rfl

@[simp] theorem State.setBoom_log (b : Slot) (x : Boom) : (s.setBoom b x).log = s.log := rfl

@[simp] theorem State.setBoom_nextSeq (b : Slot) (x : Boom) : (s.setBoom b x).nextSeq = s.nextSeq := rfl

@[simp] theorem State.setBoom_writers (b : Slot) (x : Boom) : (s.setBoom b x).writers = s.writers := rfl

@[simp] theorem State.setBoom_drive (b : Slot) (x : Boom) : (s.setBoom b x).drive = s.drive := rfl

@[simp] theorem State.setBoom_driveLine (b : Slot) (x : Boom) : (s.setBoom b x).driveLine = s.driveLine := rfl

@[simp] theorem State.setBoom_retractLine (b : Slot) (x : Boom) : (s.setBoom b x).retractLine = s.retractLine := rfl

@[simp] theorem State.setBoom_link (b : Slot) (x : Boom) : (s.setBoom b x).link = s.link := rfl

@[simp] theorem State.withLink_pending (l : Link) : (s.withLink l).pending = s.pending := rfl

@[simp] theorem State.withLink_clock (l : Link) : (s.withLink l).clock = s.clock := rfl

@[simp] theorem State.withLink_mode (l : Link) : (s.withLink l).mode = s.mode := rfl

@[simp] theorem State.withLink_requested (l : Link) : (s.withLink l).requested = s.requested := rfl

@[simp] theorem State.withLink_restartCause (l : Link) : (s.withLink l).restartCause = s.restartCause := rfl

@[simp] theorem State.withLink_params (l : Link) : (s.withLink l).params = s.params := rfl

@[simp] theorem State.withLink_recipes (l : Link) : (s.withLink l).recipes = s.recipes := rfl

@[simp] theorem State.withLink_queues (l : Link) : (s.withLink l).queues = s.queues := rfl

@[simp] theorem State.withLink_booms (l : Link) : (s.withLink l).booms = s.booms := rfl

@[simp] theorem State.withLink_arbiter (l : Link) : (s.withLink l).arbiter = s.arbiter := rfl

@[simp] theorem State.withLink_log (l : Link) : (s.withLink l).log = s.log := rfl

@[simp] theorem State.withLink_nextSeq (l : Link) : (s.withLink l).nextSeq = s.nextSeq := rfl

@[simp] theorem State.withLink_writers (l : Link) : (s.withLink l).writers = s.writers := rfl

@[simp] theorem State.withLink_drive (l : Link) : (s.withLink l).drive = s.drive := rfl

@[simp] theorem State.withLink_driveLine (l : Link) : (s.withLink l).driveLine = s.driveLine := rfl

@[simp] theorem State.withLink_retractLine (l : Link) : (s.withLink l).retractLine = s.retractLine := rfl

@[simp] theorem State.withLink_boom (l : Link) (c : Slot) : (s.withLink l).boom c = s.boom c := rfl

@[simp] theorem State.setReply_pending (f : Frame) : (s.setReply f).pending = s.pending := rfl

@[simp] theorem State.setReply_clock (f : Frame) : (s.setReply f).clock = s.clock := rfl

@[simp] theorem State.setReply_mode (f : Frame) : (s.setReply f).mode = s.mode := rfl

@[simp] theorem State.setReply_requested (f : Frame) : (s.setReply f).requested = s.requested := rfl

@[simp] theorem State.setReply_restartCause (f : Frame) : (s.setReply f).restartCause = s.restartCause := rfl

@[simp] theorem State.setReply_params (f : Frame) : (s.setReply f).params = s.params := rfl

@[simp] theorem State.setReply_recipes (f : Frame) : (s.setReply f).recipes = s.recipes := rfl

@[simp] theorem State.setReply_queues (f : Frame) : (s.setReply f).queues = s.queues := rfl

@[simp] theorem State.setReply_booms (f : Frame) : (s.setReply f).booms = s.booms := rfl

@[simp] theorem State.setReply_arbiter (f : Frame) : (s.setReply f).arbiter = s.arbiter := rfl

@[simp] theorem State.setReply_log (f : Frame) : (s.setReply f).log = s.log := rfl

@[simp] theorem State.setReply_nextSeq (f : Frame) : (s.setReply f).nextSeq = s.nextSeq := rfl

@[simp] theorem State.setReply_writers (f : Frame) : (s.setReply f).writers = s.writers := rfl

@[simp] theorem State.setReply_drive (f : Frame) : (s.setReply f).drive = s.drive := rfl

@[simp] theorem State.setReply_driveLine (f : Frame) : (s.setReply f).driveLine = s.driveLine := rfl

@[simp] theorem State.setReply_retractLine (f : Frame) : (s.setReply f).retractLine = s.retractLine := rfl

@[simp] theorem State.setReply_boom (f : Frame) (c : Slot) : (s.setReply f).boom c = s.boom c := rfl

@[simp] theorem State.send_pending (f : Frame) : (s.send f).pending = s.pending := rfl

@[simp] theorem State.send_clock (f : Frame) : (s.send f).clock = s.clock := rfl

@[simp] theorem State.send_mode (f : Frame) : (s.send f).mode = s.mode := rfl

@[simp] theorem State.send_requested (f : Frame) : (s.send f).requested = s.requested := rfl

@[simp] theorem State.send_restartCause (f : Frame) : (s.send f).restartCause = s.restartCause := rfl

@[simp] theorem State.send_params (f : Frame) : (s.send f).params = s.params := rfl

@[simp] theorem State.send_recipes (f : Frame) : (s.send f).recipes = s.recipes := rfl

@[simp] theorem State.send_queues (f : Frame) : (s.send f).queues = s.queues := rfl

@[simp] theorem State.send_booms (f : Frame) : (s.send f).booms = s.booms := rfl

@[simp] theorem State.send_arbiter (f : Frame) : (s.send f).arbiter = s.arbiter := rfl

@[simp] theorem State.send_log (f : Frame) : (s.send f).log = s.log := rfl

@[simp] theorem State.send_nextSeq (f : Frame) : (s.send f).nextSeq = s.nextSeq := rfl

@[simp] theorem State.send_writers (f : Frame) : (s.send f).writers = s.writers := rfl

@[simp] theorem State.send_drive (f : Frame) : (s.send f).drive = s.drive := rfl

@[simp] theorem State.send_driveLine (f : Frame) : (s.send f).driveLine = s.driveLine := rfl

@[simp] theorem State.send_retractLine (f : Frame) : (s.send f).retractLine = s.retractLine := rfl

@[simp] theorem State.send_boom (f : Frame) (c : Slot) : (s.send f).boom c = s.boom c := rfl

@[simp] theorem State.reduceBoom_pending (b : Slot) (n : Nat) : (s.reduceBoom b n).pending = s.pending := rfl

@[simp] theorem State.reduceBoom_clock (b : Slot) (n : Nat) : (s.reduceBoom b n).clock = s.clock := rfl

@[simp] theorem State.reduceBoom_mode (b : Slot) (n : Nat) : (s.reduceBoom b n).mode = s.mode := rfl

@[simp] theorem State.reduceBoom_requested (b : Slot) (n : Nat) : (s.reduceBoom b n).requested = s.requested := rfl

@[simp] theorem State.reduceBoom_restartCause (b : Slot) (n : Nat) : (s.reduceBoom b n).restartCause = s.restartCause := rfl

@[simp] theorem State.reduceBoom_params (b : Slot) (n : Nat) : (s.reduceBoom b n).params = s.params := rfl

@[simp] theorem State.reduceBoom_recipes (b : Slot) (n : Nat) : (s.reduceBoom b n).recipes = s.recipes := rfl

@[simp] theorem State.reduceBoom_queues (b : Slot) (n : Nat) : (s.reduceBoom b n).queues = s.queues := rfl

@[simp] theorem State.reduceBoom_booms (b : Slot) (n : Nat) : (s.reduceBoom b n).booms = s.booms := rfl

@[simp] theorem State.reduceBoom_log (b : Slot) (n : Nat) : (s.reduceBoom b n).log = s.log := rfl

@[simp] theorem State.reduceBoom_nextSeq (b : Slot) (n : Nat) : (s.reduceBoom b n).nextSeq = s.nextSeq := rfl

@[simp] theorem State.reduceBoom_writers (b : Slot) (n : Nat) : (s.reduceBoom b n).writers = s.writers := rfl

@[simp] theorem State.reduceBoom_drive (b : Slot) (n : Nat) : (s.reduceBoom b n).drive = s.drive := rfl

@[simp] theorem State.reduceBoom_driveLine (b : Slot) (n : Nat) : (s.reduceBoom b n).driveLine = s.driveLine := rfl

@[simp] theorem State.reduceBoom_retractLine (b : Slot) (n : Nat) : (s.reduceBoom b n).retractLine = s.retractLine := rfl

@[simp] theorem State.reduceBoom_link (b : Slot) (n : Nat) : (s.reduceBoom b n).link = s.link := rfl

@[simp] theorem State.reduceBoom_boom (b : Slot) (n : Nat) (c : Slot) : (s.reduceBoom b n).boom c = s.boom c := rfl

@[simp] theorem State.topUpBoom_pending (b : Slot) (k : FlowClass) (n : Nat) : (s.topUpBoom b k n).pending = s.pending := rfl

@[simp] theorem State.topUpBoom_clock (b : Slot) (k : FlowClass) (n : Nat) : (s.topUpBoom b k n).clock = s.clock := rfl

@[simp] theorem State.topUpBoom_mode (b : Slot) (k : FlowClass) (n : Nat) : (s.topUpBoom b k n).mode = s.mode := rfl

@[simp] theorem State.topUpBoom_requested (b : Slot) (k : FlowClass) (n : Nat) : (s.topUpBoom b k n).requested = s.requested := rfl

@[simp] theorem State.topUpBoom_restartCause (b : Slot) (k : FlowClass) (n : Nat) : (s.topUpBoom b k n).restartCause = s.restartCause := rfl

@[simp] theorem State.topUpBoom_params (b : Slot) (k : FlowClass) (n : Nat) : (s.topUpBoom b k n).params = s.params := rfl

@[simp] theorem State.topUpBoom_recipes (b : Slot) (k : FlowClass) (n : Nat) : (s.topUpBoom b k n).recipes = s.recipes := rfl

@[simp] theorem State.topUpBoom_queues (b : Slot) (k : FlowClass) (n : Nat) : (s.topUpBoom b k n).queues = s.queues := rfl

@[simp] theorem State.topUpBoom_booms (b : Slot) (k : FlowClass) (n : Nat) : (s.topUpBoom b k n).booms = s.booms := rfl

@[simp] theorem State.topUpBoom_log (b : Slot) (k : FlowClass) (n : Nat) : (s.topUpBoom b k n).log = s.log := rfl

@[simp] theorem State.topUpBoom_nextSeq (b : Slot) (k : FlowClass) (n : Nat) : (s.topUpBoom b k n).nextSeq = s.nextSeq := rfl

@[simp] theorem State.topUpBoom_writers (b : Slot) (k : FlowClass) (n : Nat) : (s.topUpBoom b k n).writers = s.writers := rfl

@[simp] theorem State.topUpBoom_drive (b : Slot) (k : FlowClass) (n : Nat) : (s.topUpBoom b k n).drive = s.drive := rfl

@[simp] theorem State.topUpBoom_driveLine (b : Slot) (k : FlowClass) (n : Nat) : (s.topUpBoom b k n).driveLine = s.driveLine := rfl

@[simp] theorem State.topUpBoom_retractLine (b : Slot) (k : FlowClass) (n : Nat) : (s.topUpBoom b k n).retractLine = s.retractLine := rfl

@[simp] theorem State.topUpBoom_link (b : Slot) (k : FlowClass) (n : Nat) : (s.topUpBoom b k n).link = s.link := rfl

@[simp] theorem State.topUpBoom_boom (b : Slot) (k : FlowClass) (n : Nat) (c : Slot) : (s.topUpBoom b k n).boom c = s.boom c := rfl

@[simp] theorem State.raise_pending (b : Slot) (cs : List Cond) : (s.raise b cs).pending = s.pending := rfl

@[simp] theorem State.raise_clock (b : Slot) (cs : List Cond) : (s.raise b cs).clock = s.clock := rfl

@[simp] theorem State.raise_mode (b : Slot) (cs : List Cond) : (s.raise b cs).mode = s.mode := rfl

@[simp] theorem State.raise_requested (b : Slot) (cs : List Cond) : (s.raise b cs).requested = s.requested := rfl

@[simp] theorem State.raise_restartCause (b : Slot) (cs : List Cond) : (s.raise b cs).restartCause = s.restartCause := rfl

@[simp] theorem State.raise_params (b : Slot) (cs : List Cond) : (s.raise b cs).params = s.params := rfl

@[simp] theorem State.raise_recipes (b : Slot) (cs : List Cond) : (s.raise b cs).recipes = s.recipes := rfl

@[simp] theorem State.raise_queues (b : Slot) (cs : List Cond) : (s.raise b cs).queues = s.queues := rfl

@[simp] theorem State.raise_arbiter (b : Slot) (cs : List Cond) : (s.raise b cs).arbiter = s.arbiter := rfl

@[simp] theorem State.raise_log (b : Slot) (cs : List Cond) : (s.raise b cs).log = s.log := rfl

@[simp] theorem State.raise_nextSeq (b : Slot) (cs : List Cond) : (s.raise b cs).nextSeq = s.nextSeq := rfl

@[simp] theorem State.raise_writers (b : Slot) (cs : List Cond) : (s.raise b cs).writers = s.writers := rfl

@[simp] theorem State.raise_drive (b : Slot) (cs : List Cond) : (s.raise b cs).drive = s.drive := rfl

@[simp] theorem State.raise_driveLine (b : Slot) (cs : List Cond) : (s.raise b cs).driveLine = s.driveLine := rfl

@[simp] theorem State.raise_retractLine (b : Slot) (cs : List Cond) : (s.raise b cs).retractLine = s.retractLine := rfl

@[simp] theorem State.raise_link (b : Slot) (cs : List Cond) : (s.raise b cs).link = s.link := rfl

@[simp] theorem State.queueFlowGranted_pending : (s.queueFlowGranted).pending = s.pending := rfl

@[simp] theorem State.queueFlowGranted_clock : (s.queueFlowGranted).clock = s.clock := rfl

@[simp] theorem State.queueFlowGranted_mode : (s.queueFlowGranted).mode = s.mode := rfl

@[simp] theorem State.queueFlowGranted_requested : (s.queueFlowGranted).requested = s.requested := rfl

@[simp] theorem State.queueFlowGranted_restartCause : (s.queueFlowGranted).restartCause = s.restartCause := rfl

@[simp] theorem State.queueFlowGranted_params : (s.queueFlowGranted).params = s.params := rfl

@[simp] theorem State.queueFlowGranted_recipes : (s.queueFlowGranted).recipes = s.recipes := rfl

@[simp] theorem State.queueFlowGranted_queues : (s.queueFlowGranted).queues = s.queues := rfl

@[simp] theorem State.queueFlowGranted_booms : (s.queueFlowGranted).booms = s.booms := rfl

@[simp] theorem State.queueFlowGranted_arbiter : (s.queueFlowGranted).arbiter = s.arbiter := rfl

@[simp] theorem State.queueFlowGranted_log : (s.queueFlowGranted).log = s.log := rfl

@[simp] theorem State.queueFlowGranted_nextSeq : (s.queueFlowGranted).nextSeq = s.nextSeq := rfl

@[simp] theorem State.queueFlowGranted_writers : (s.queueFlowGranted).writers = s.writers := rfl

@[simp] theorem State.queueFlowGranted_drive : (s.queueFlowGranted).drive = s.drive := rfl

@[simp] theorem State.queueFlowGranted_driveLine : (s.queueFlowGranted).driveLine = s.driveLine := rfl

@[simp] theorem State.queueFlowGranted_retractLine : (s.queueFlowGranted).retractLine = s.retractLine := rfl

@[simp] theorem State.queueFlowGranted_boom (c : Slot) : (s.queueFlowGranted).boom c = s.boom c := rfl

@[simp] theorem State.queueRecordReady_pending : (s.queueRecordReady).pending = s.pending := rfl

@[simp] theorem State.queueRecordReady_clock : (s.queueRecordReady).clock = s.clock := rfl

@[simp] theorem State.queueRecordReady_mode : (s.queueRecordReady).mode = s.mode := rfl

@[simp] theorem State.queueRecordReady_requested : (s.queueRecordReady).requested = s.requested := rfl

@[simp] theorem State.queueRecordReady_restartCause : (s.queueRecordReady).restartCause = s.restartCause := rfl

@[simp] theorem State.queueRecordReady_params : (s.queueRecordReady).params = s.params := rfl

@[simp] theorem State.queueRecordReady_recipes : (s.queueRecordReady).recipes = s.recipes := rfl

@[simp] theorem State.queueRecordReady_queues : (s.queueRecordReady).queues = s.queues := rfl

@[simp] theorem State.queueRecordReady_booms : (s.queueRecordReady).booms = s.booms := rfl

@[simp] theorem State.queueRecordReady_arbiter : (s.queueRecordReady).arbiter = s.arbiter := rfl

@[simp] theorem State.queueRecordReady_log : (s.queueRecordReady).log = s.log := rfl

@[simp] theorem State.queueRecordReady_nextSeq : (s.queueRecordReady).nextSeq = s.nextSeq := rfl

@[simp] theorem State.queueRecordReady_writers : (s.queueRecordReady).writers = s.writers := rfl

@[simp] theorem State.queueRecordReady_drive : (s.queueRecordReady).drive = s.drive := rfl

@[simp] theorem State.queueRecordReady_driveLine : (s.queueRecordReady).driveLine = s.driveLine := rfl

@[simp] theorem State.queueRecordReady_retractLine : (s.queueRecordReady).retractLine = s.retractLine := rfl

@[simp] theorem State.queueRecordReady_boom (c : Slot) : (s.queueRecordReady).boom c = s.boom c := rfl

@[simp] theorem State.queueModeChange_pending : (s.queueModeChange).pending = s.pending := rfl

@[simp] theorem State.queueModeChange_clock : (s.queueModeChange).clock = s.clock := rfl

@[simp] theorem State.queueModeChange_mode : (s.queueModeChange).mode = s.mode := rfl

@[simp] theorem State.queueModeChange_requested : (s.queueModeChange).requested = s.requested := rfl

@[simp] theorem State.queueModeChange_restartCause : (s.queueModeChange).restartCause = s.restartCause := rfl

@[simp] theorem State.queueModeChange_params : (s.queueModeChange).params = s.params := rfl

@[simp] theorem State.queueModeChange_recipes : (s.queueModeChange).recipes = s.recipes := rfl

@[simp] theorem State.queueModeChange_queues : (s.queueModeChange).queues = s.queues := rfl

@[simp] theorem State.queueModeChange_booms : (s.queueModeChange).booms = s.booms := rfl

@[simp] theorem State.queueModeChange_arbiter : (s.queueModeChange).arbiter = s.arbiter := rfl

@[simp] theorem State.queueModeChange_log : (s.queueModeChange).log = s.log := rfl

@[simp] theorem State.queueModeChange_nextSeq : (s.queueModeChange).nextSeq = s.nextSeq := rfl

@[simp] theorem State.queueModeChange_writers : (s.queueModeChange).writers = s.writers := rfl

@[simp] theorem State.queueModeChange_drive : (s.queueModeChange).drive = s.drive := rfl

@[simp] theorem State.queueModeChange_driveLine : (s.queueModeChange).driveLine = s.driveLine := rfl

@[simp] theorem State.queueModeChange_retractLine : (s.queueModeChange).retractLine = s.retractLine := rfl

@[simp] theorem State.queueModeChange_boom (c : Slot) : (s.queueModeChange).boom c = s.boom c := rfl

@[simp] theorem State.writeRecord_pending (r : BoltRecord) : (s.writeRecord r).pending = s.pending := rfl

@[simp] theorem State.writeRecord_clock (r : BoltRecord) : (s.writeRecord r).clock = s.clock := rfl

@[simp] theorem State.writeRecord_mode (r : BoltRecord) : (s.writeRecord r).mode = s.mode := rfl

@[simp] theorem State.writeRecord_requested (r : BoltRecord) : (s.writeRecord r).requested = s.requested := rfl

@[simp] theorem State.writeRecord_restartCause (r : BoltRecord) : (s.writeRecord r).restartCause = s.restartCause := rfl

@[simp] theorem State.writeRecord_params (r : BoltRecord) : (s.writeRecord r).params = s.params := rfl

@[simp] theorem State.writeRecord_recipes (r : BoltRecord) : (s.writeRecord r).recipes = s.recipes := rfl

@[simp] theorem State.writeRecord_queues (r : BoltRecord) : (s.writeRecord r).queues = s.queues := rfl

@[simp] theorem State.writeRecord_booms (r : BoltRecord) : (s.writeRecord r).booms = s.booms := rfl

@[simp] theorem State.writeRecord_arbiter (r : BoltRecord) : (s.writeRecord r).arbiter = s.arbiter := rfl

@[simp] theorem State.writeRecord_writers (r : BoltRecord) : (s.writeRecord r).writers = s.writers := rfl

@[simp] theorem State.writeRecord_drive (r : BoltRecord) : (s.writeRecord r).drive = s.drive := rfl

@[simp] theorem State.writeRecord_driveLine (r : BoltRecord) : (s.writeRecord r).driveLine = s.driveLine := rfl

@[simp] theorem State.writeRecord_retractLine (r : BoltRecord) : (s.writeRecord r).retractLine = s.retractLine := rfl

@[simp] theorem State.writeRecord_boom (r : BoltRecord) (c : Slot) : (s.writeRecord r).boom c = s.boom c := rfl

@[simp] theorem State.setRecipe_pending (i : Fin 16) (r : Option Recipe) : (s.setRecipe i r).pending = s.pending := rfl

@[simp] theorem State.setRecipe_clock (i : Fin 16) (r : Option Recipe) : (s.setRecipe i r).clock = s.clock := rfl

@[simp] theorem State.setRecipe_mode (i : Fin 16) (r : Option Recipe) : (s.setRecipe i r).mode = s.mode := rfl

@[simp] theorem State.setRecipe_requested (i : Fin 16) (r : Option Recipe) : (s.setRecipe i r).requested = s.requested := rfl

@[simp] theorem State.setRecipe_restartCause (i : Fin 16) (r : Option Recipe) : (s.setRecipe i r).restartCause = s.restartCause := rfl

@[simp] theorem State.setRecipe_params (i : Fin 16) (r : Option Recipe) : (s.setRecipe i r).params = s.params := rfl

@[simp] theorem State.setRecipe_queues (i : Fin 16) (r : Option Recipe) : (s.setRecipe i r).queues = s.queues := rfl

@[simp] theorem State.setRecipe_booms (i : Fin 16) (r : Option Recipe) : (s.setRecipe i r).booms = s.booms := rfl

@[simp] theorem State.setRecipe_arbiter (i : Fin 16) (r : Option Recipe) : (s.setRecipe i r).arbiter = s.arbiter := rfl

@[simp] theorem State.setRecipe_log (i : Fin 16) (r : Option Recipe) : (s.setRecipe i r).log = s.log := rfl

@[simp] theorem State.setRecipe_nextSeq (i : Fin 16) (r : Option Recipe) : (s.setRecipe i r).nextSeq = s.nextSeq := rfl

@[simp] theorem State.setRecipe_writers (i : Fin 16) (r : Option Recipe) : (s.setRecipe i r).writers = s.writers := rfl

@[simp] theorem State.setRecipe_drive (i : Fin 16) (r : Option Recipe) : (s.setRecipe i r).drive = s.drive := rfl

@[simp] theorem State.setRecipe_driveLine (i : Fin 16) (r : Option Recipe) : (s.setRecipe i r).driveLine = s.driveLine := rfl

@[simp] theorem State.setRecipe_retractLine (i : Fin 16) (r : Option Recipe) : (s.setRecipe i r).retractLine = s.retractLine := rfl

@[simp] theorem State.setRecipe_link (i : Fin 16) (r : Option Recipe) : (s.setRecipe i r).link = s.link := rfl

@[simp] theorem State.setRecipe_boom (i : Fin 16) (r : Option Recipe) (c : Slot) : (s.setRecipe i r).boom c = s.boom c := rfl

@[simp] theorem State.enqueue_pending (b : Slot) (e : QueueEntry) : (s.enqueue b e).pending = s.pending := rfl

@[simp] theorem State.enqueue_clock (b : Slot) (e : QueueEntry) : (s.enqueue b e).clock = s.clock := rfl

@[simp] theorem State.enqueue_mode (b : Slot) (e : QueueEntry) : (s.enqueue b e).mode = s.mode := rfl

@[simp] theorem State.enqueue_requested (b : Slot) (e : QueueEntry) : (s.enqueue b e).requested = s.requested := rfl

@[simp] theorem State.enqueue_restartCause (b : Slot) (e : QueueEntry) : (s.enqueue b e).restartCause = s.restartCause := rfl

@[simp] theorem State.enqueue_params (b : Slot) (e : QueueEntry) : (s.enqueue b e).params = s.params := rfl

@[simp] theorem State.enqueue_recipes (b : Slot) (e : QueueEntry) : (s.enqueue b e).recipes = s.recipes := rfl

@[simp] theorem State.enqueue_booms (b : Slot) (e : QueueEntry) : (s.enqueue b e).booms = s.booms := rfl

@[simp] theorem State.enqueue_arbiter (b : Slot) (e : QueueEntry) : (s.enqueue b e).arbiter = s.arbiter := rfl

@[simp] theorem State.enqueue_log (b : Slot) (e : QueueEntry) : (s.enqueue b e).log = s.log := rfl

@[simp] theorem State.enqueue_nextSeq (b : Slot) (e : QueueEntry) : (s.enqueue b e).nextSeq = s.nextSeq := rfl

@[simp] theorem State.enqueue_writers (b : Slot) (e : QueueEntry) : (s.enqueue b e).writers = s.writers := rfl

@[simp] theorem State.enqueue_drive (b : Slot) (e : QueueEntry) : (s.enqueue b e).drive = s.drive := rfl

@[simp] theorem State.enqueue_driveLine (b : Slot) (e : QueueEntry) : (s.enqueue b e).driveLine = s.driveLine := rfl

@[simp] theorem State.enqueue_retractLine (b : Slot) (e : QueueEntry) : (s.enqueue b e).retractLine = s.retractLine := rfl

@[simp] theorem State.enqueue_link (b : Slot) (e : QueueEntry) : (s.enqueue b e).link = s.link := rfl

@[simp] theorem State.enqueue_boom (b : Slot) (e : QueueEntry) (c : Slot) : (s.enqueue b e).boom c = s.boom c := rfl

end Sys2Proof.Machine
end

