-- ==== Sys2Proof/Laws/Kept.lean ====
section
/-! SUPPORT. What the operations between samples leave alone: the store, the receiving side of the link, and what a boom's
readings left. One lemma per operation, from the plain updates up to a whole tick's parts. -/

namespace Sys2Proof.Machine

/-- What no act of a sequencer, the arbiter or an intervention changes of a boom: its readings and its enable set. -/
structure BoomKept (x y : Boom) : Prop where
  raw : y.raw = x.raw
  lastGood : y.lastGood = x.lastGood
  inForce : y.inForce = x.inForce
  posLoss : y.posLoss = x.posLoss
  enabled : y.enabled = x.enabled

/-- What no act of a sequencer, the arbiter or an intervention changes of the part; the log keeps its bound and the sequence
counter its range. -/
structure Kept (s t : State) : Prop where
  pending : t.pending = s.pending
  clock : t.clock = s.clock
  restartCause : t.restartCause = s.restartCause
  params : t.params = s.params
  recipes : t.recipes = s.recipes
  queues : t.queues = s.queues
  drive : t.drive = s.drive
  driveLine : t.driveLine = s.driveLine
  retractLine : t.retractLine = s.retractLine
  assembler : t.link.assembler = s.link.assembler
  waiting : t.link.waiting = s.link.waiting
  reply : t.link.reply = s.link.reply
  sending : t.link.sending = s.link.sending
  restarting : t.link.restarting = s.link.restarting
  silenceTicks : t.link.silenceTicks = s.link.silenceTicks
  silent : t.link.silent = s.link.silent
  booms : ∀ b, BoomKept (s.boom b) (t.boom b)
  log : s.log.length ≤ Config.logSize → t.log.length ≤ Config.logSize
  seq : 1 ≤ s.nextSeq ∧ s.nextSeq ≤ 65535 → 1 ≤ t.nextSeq ∧ t.nextSeq ≤ 65535

theorem BoomKept.refl (x : Boom) : BoomKept x x := ⟨rfl, rfl, rfl, rfl, rfl⟩

theorem BoomKept.trans {x y z : Boom} (h : BoomKept x y) (k : BoomKept y z) : BoomKept x z :=
  ⟨k.raw.trans h.raw, k.lastGood.trans h.lastGood, k.inForce.trans h.inForce, k.posLoss.trans h.posLoss,
    k.enabled.trans h.enabled⟩

theorem Kept.refl (s : State) : Kept s s :=
  ⟨rfl, rfl, rfl, rfl, rfl, rfl, rfl, rfl, rfl, rfl, rfl, rfl, rfl, rfl, rfl, rfl, fun _ => BoomKept.refl _, id, id⟩

theorem Kept.trans {s t u : State} (h : Kept s t) (k : Kept t u) : Kept s u where
  pending := k.pending.trans h.pending
  clock := k.clock.trans h.clock
  restartCause := k.restartCause.trans h.restartCause
  params := k.params.trans h.params
  recipes := k.recipes.trans h.recipes
  queues := k.queues.trans h.queues
  drive := k.drive.trans h.drive
  driveLine := k.driveLine.trans h.driveLine
  retractLine := k.retractLine.trans h.retractLine
  assembler := k.assembler.trans h.assembler
  waiting := k.waiting.trans h.waiting
  reply := k.reply.trans h.reply
  sending := k.sending.trans h.sending
  restarting := k.restarting.trans h.restarting
  silenceTicks := k.silenceTicks.trans h.silenceTicks
  silent := k.silent.trans h.silent
  booms := fun b => (h.booms b).trans (k.booms b)
  log := fun p => k.log (h.log p)
  seq := fun p => k.seq (h.seq p)

/-- Transitivity with the later act first, so that a goal names each act in turn. -/
theorem Kept.after {s t u : State} (k : Kept t u) (h : Kept s t) : Kept s u := h.trans k

/-! ## Plain updates -/

theorem setBoom_kept {s : State} {b : Slot} {x : Boom} (h : BoomKept (s.boom b) x) : Kept s (s.setBoom b x) where
  pending := rfl
  clock := rfl
  restartCause := rfl
  params := rfl
  recipes := rfl
  queues := rfl
  drive := rfl
  driveLine := rfl
  retractLine := rfl
  assembler := rfl
  waiting := rfl
  reply := rfl
  sending := rfl
  restarting := rfl
  silenceTicks := rfl
  silent := rfl
  booms := fun c => by
    by_cases e : c = b
    · subst e; simpa using h
    · rw [State.setBoom_boom_of_ne _ _ e]; exact BoomKept.refl _
  log := id
  seq := id

/-- A link that differs in its report slots alone. -/
theorem reports_kept (s : State) (l : Link) (h1 : l.assembler = s.link.assembler) (h2 : l.waiting = s.link.waiting)
    (h3 : l.reply = s.link.reply) (h4 : l.sending = s.link.sending) (h5 : l.restarting = s.link.restarting)
    (h6 : l.silenceTicks = s.link.silenceTicks) (h7 : l.silent = s.link.silent) : Kept s { s with link := l } :=
  ⟨rfl, rfl, rfl, rfl, rfl, rfl, rfl, rfl, rfl, h1, h2, h3, h4, h5, h6, h7, fun _ => BoomKept.refl _, id, id⟩

theorem arbiter_kept (s : State) (a : Arbiter) : Kept s { s with arbiter := a } :=
  ⟨rfl, rfl, rfl, rfl, rfl, rfl, rfl, rfl, rfl, rfl, rfl, rfl, rfl, rfl, rfl, rfl, fun _ => BoomKept.refl _, id, id⟩

theorem mode_kept (s : State) (m : Mode) (r : Option Mode) : Kept s { s with mode := m, requested := r } :=
  ⟨rfl, rfl, rfl, rfl, rfl, rfl, rfl, rfl, rfl, rfl, rfl, rfl, rfl, rfl, rfl, rfl, fun _ => BoomKept.refl _, id, id⟩

theorem writers_kept (s : State) (w : List Slot) : Kept s { s with writers := w } :=
  ⟨rfl, rfl, rfl, rfl, rfl, rfl, rfl, rfl, rfl, rfl, rfl, rfl, rfl, rfl, rfl, rfl, fun _ => BoomKept.refl _, id, id⟩

theorem queueStatus_kept (s : State) (b : Slot) : Kept s (s.queueStatus b) := by
  unfold State.queueStatus; split
  · exact reports_kept s _ rfl rfl rfl rfl rfl rfl rfl
  · exact Kept.refl s

theorem queueException_kept (s : State) (b : Slot) (f : ExFrame) : Kept s (s.queueException b f) := by
  unfold State.queueException; split
  · exact reports_kept s _ rfl rfl rfl rfl rfl rfl rfl
  · exact Kept.refl s

theorem queueFlowGranted_kept (s : State) : Kept s s.queueFlowGranted := reports_kept s _ rfl rfl rfl rfl rfl rfl rfl

theorem queueRecordReady_kept (s : State) : Kept s s.queueRecordReady := reports_kept s _ rfl rfl rfl rfl rfl rfl rfl

theorem queueModeChange_kept (s : State) : Kept s s.queueModeChange := reports_kept s _ rfl rfl rfl rfl rfl rfl rfl

theorem changeBoom_kept {s : State} {b : Slot} {x : Boom} (h : BoomKept (s.boom b) x) : Kept s (s.changeBoom b x) := by
  unfold State.changeBoom; split
  · exact setBoom_kept h
  · exact Kept.after (queueStatus_kept _ _) (setBoom_kept h)

theorem reduceBoom_kept (s : State) (b : Slot) (n : Nat) : Kept s (s.reduceBoom b n) := arbiter_kept s _

theorem topUpBoom_kept (s : State) (b : Slot) (k : FlowClass) (n : Nat) : Kept s (s.topUpBoom b k n) := arbiter_kept s _

theorem raise_kept (s : State) (b : Slot) (cs : List Cond) : Kept s (s.raise b cs) :=
  setBoom_kept ⟨rfl, rfl, rfl, rfl, rfl⟩

theorem noteChuck_kept (s : State) (b : Slot) : Kept s (s.noteChuck b) := by
  unfold State.noteChuck; split
  · exact Kept.refl s
  · exact setBoom_kept ⟨rfl, rfl, rfl, rfl, rfl⟩

theorem forSlots_kept {f : Slot → State → State} (h : ∀ b t, Kept t (f b t)) (s : State) : Kept s (forSlots f s) :=
  Kept.after (h .s4 _) (Kept.after (h .s3 _) (Kept.after (h .s2 _) (h .s1 s)))

theorem forFitted_kept {f : Slot → State → State} (h : ∀ b t, Kept t (f b t)) (s : State) : Kept s (forFitted f s) :=
  forSlots_kept (fun b t => by split; exacts [h b t, Kept.refl t]) s

/-! ## Motion and the arbiter -/

theorem stopBoom_kept (s : State) (b : Slot) (h : Hole) (k : FrameKind) (c : Cond) (n : Nat) (p q : Phase) :
    Kept s (s.stopBoom b h k c n p q) := by
  unfold State.stopBoom
  exact Kept.after (queueStatus_kept _ _) (Kept.after (queueException_kept _ _ _)
      (Kept.after (reduceBoom_kept _ _ _) (changeBoom_kept ⟨rfl, rfl, rfl, rfl, rfl⟩)))

theorem stopInPhase_kept (s : State) (b : Slot) (h : Hole) (c : Cond) (n : Nat) : Kept s (s.stopInPhase b h c n) :=
  stopBoom_kept s b h _ c n _ _

theorem moveOff_kept (s : State) (b : Slot) (h : Hole) (now : Bool) : Kept s (s.moveOff b h now) := by
  unfold State.moveOff; dsimp only; split <;> exact changeBoom_kept ⟨rfl, rfl, rfl, rfl, rfl⟩

theorem startCycle_kept (s : State) (b : Slot) (h : Hole) (now : Bool) : Kept s (s.startCycle b h now) := by
  unfold State.startCycle; split
  · exact Kept.after (stopInPhase_kept _ _ _ _ _) (raise_kept _ _ _)
  · exact moveOff_kept _ _ _ _

theorem moveAbandon_kept (s : State) (b : Slot) (h : Hole) : Kept s (s.moveAbandon b h) := by
  unfold State.moveAbandon; dsimp only; split <;> exact changeBoom_kept ⟨rfl, rfl, rfl, rfl, rfl⟩

theorem moveRetract_kept (s : State) (b : Slot) (r : RetractCtx) : Kept s (s.moveRetract b r) := by
  unfold State.moveRetract; dsimp only; split <;> exact changeBoom_kept ⟨rfl, rfl, rfl, rfl, rfl⟩

theorem tell_kept (s : State) (q : Bool) (r : Requester) : Kept s (s.tell q r) := by
  unfold State.tell; split
  · split
    · exact Kept.refl s
    · exact queueFlowGranted_kept s
  · split
    · split
      · exact moveRetract_kept _ _ _
      · exact Kept.refl s
    · exact changeBoom_kept ⟨rfl, rfl, rfl, rfl, rfl⟩
    · exact startCycle_kept _ _ _ _
    · exact startCycle_kept _ _ _ _
    · exact moveAbandon_kept _ _ _
    · exact Kept.refl s

theorem awardEntry_kept (s : State) (q : Bool) (e : WaitEntry) : Kept s (s.awardEntry q e) :=
  Kept.after (tell_kept _ _ _) (arbiter_kept s _)

theorem backOff_kept (s : State) (b : Slot) : Kept s (s.backOff b) := by
  unfold State.backOff; dsimp only; split
  · exact Kept.after (changeBoom_kept ⟨rfl, rfl, rfl, rfl, rfl⟩) (arbiter_kept s _)
  · exact Kept.refl s

theorem backOffUntil_kept (need : Nat) (rs : List Requester) (s : State) : Kept s (State.backOffUntil need rs s) := by
  induction rs generalizing s with
  | nil => exact Kept.refl s
  | cons r rs ih =>
    unfold State.backOffUntil; split
    · exact Kept.refl s
    · split
      · split
        · exact Kept.after (ih _) (backOff_kept _ _)
        · exact ih s
      · exact ih s

theorem evaluateWith_kept (q : Bool) (n : Nat) (s : State) : Kept s (State.evaluateWith q n s) := by
  induction n generalizing s with
  | zero => exact Kept.refl s
  | succ n ih =>
    unfold State.evaluateWith; split
    · exact Kept.refl s
    · dsimp only; split
      · exact Kept.after (ih _) (awardEntry_kept _ _ _)
      · split
        · exact Kept.after (ih _) (backOffUntil_kept _ _ _)
        · exact Kept.refl s

theorem evaluate_kept (s : State) : Kept s s.evaluate := evaluateWith_kept _ _ s

theorem evaluateInReserve_kept (s : State) : Kept s s.evaluateInReserve := evaluateWith_kept _ _ s

theorem withdrawBoom_kept (s : State) (b : Slot) : Kept s (s.withdrawBoom b) := by
  unfold State.withdrawBoom; split
  · exact Kept.refl s
  · exact Kept.after (evaluate_kept _) (arbiter_kept s _)

/-! ## The record log -/

theorem seqAfter_range {n : Nat} (h : 1 ≤ n ∧ n ≤ 65535) : 1 ≤ seqAfter n ∧ seqAfter n ≤ 65535 := by
  unfold seqAfter; split <;> omega

/-- A record written where there is room. -/
theorem writeRecord_kept {s : State} (r : BoltRecord) (room : s.log.length < Config.logSize) : Kept s (s.writeRecord r) :=
  ⟨rfl, rfl, rfl, rfl, rfl, rfl, rfl, rfl, rfl, rfl, rfl, rfl, rfl, rfl, rfl, rfl, fun _ => BoomKept.refl _,
    fun _ => by simp [State.writeRecord, State.queueRecordReady]; omega, seqAfter_range⟩

theorem emptyContext_kept (s : State) (b : Slot) : Kept s (s.emptyContext b) :=
  changeBoom_kept ⟨rfl, rfl, rfl, rfl, rfl⟩

theorem offerRecord_kept (s : State) (b : Slot) (r : BoltRecord) : Kept s (s.offerRecord b r) := by
  unfold State.offerRecord; split
  next h => exact Kept.after (emptyContext_kept _ _) (writeRecord_kept r h)
  next => exact Kept.after (writers_kept _ _) (changeBoom_kept (x := { s.boom b with auto := .logWait r }) ⟨rfl, rfl, rfl, rfl, rfl⟩)

theorem endHole_kept (s : State) (b : Slot) (h : Hole) : Kept s (s.endHole b h) := by
  unfold State.endHole
  exact Kept.after (evaluate_kept _)
      (Kept.after (offerRecord_kept _ _ _) (Kept.after (setBoom_kept ⟨rfl, rfl, rfl, rfl, rfl⟩) (reduceBoom_kept _ _ _)))

/-! ## The sequencer -/

theorem waitForFlow_kept (s : State) (b : Slot) (h : Hole) : Kept s (s.waitForFlow b h) :=
  changeBoom_kept ⟨rfl, rfl, rfl, rfl, rfl⟩

theorem askFlow_kept (s : State) (b : Slot) (h : Hole) : Kept s (s.askFlow b h) := by
  unfold State.askFlow; split
  · exact Kept.after (evaluate_kept _) (Kept.after (startCycle_kept _ _ _ _) (reduceBoom_kept _ _ _))
  · exact Kept.after (evaluate_kept _) (Kept.after (topUpBoom_kept _ _ _ _) (waitForFlow_kept _ _ _))

theorem enterPhase_kept (s : State) (b : Slot) (h : Hole) (p : Phase) : Kept s (s.enterPhase b h p) :=
  Kept.after (askFlow_kept _ _ _) (setBoom_kept (x := (s.boom b).clearPhase) ⟨rfl, rfl, rfl, rfl, rfl⟩)

theorem resume_kept (s : State) (b : Slot) (h : Hole) : Kept s (s.resume b h) := askFlow_kept _ _ _

theorem cross_kept (s : State) (b : Slot) (h : Hole) : Kept s (s.cross b h) := by
  unfold State.cross; split
  · exact endHole_kept _ _ _
  · split
    · exact Kept.after (evaluate_kept _) (stopBoom_kept _ _ _ _ _ _ _ _)
    · exact enterPhase_kept _ _ _ _

theorem endDrilling_kept (s : State) (b : Slot) (h : Hole) : Kept s (s.endDrilling b h) := by
  unfold State.endDrilling
  exact Kept.after (cross_kept _ _ _) (setBoom_kept ⟨rfl, rfl, rfl, rfl, rfl⟩)

theorem endMixing_kept (s : State) (b : Slot) (h : Hole) : Kept s (s.endMixing b h) := cross_kept _ _ _

theorem endHolding_kept (s : State) (b : Slot) (h : Hole) : Kept s (s.endHolding b h) := cross_kept _ _ _

theorem endTorquing_kept (s : State) (b : Slot) (h : Hole) (n : Nat) (cs : List Cond) :
    Kept s (s.endTorquing b h n cs) := Kept.after (cross_kept _ _ _) (raise_kept _ _ _)

theorem abandonGo_kept (s : State) (b : Slot) (h : Hole) : Kept s (s.abandonGo b h) := by
  unfold State.abandonGo; split
  · exact endHole_kept _ _ _
  · split
    · exact Kept.after (evaluate_kept _) (Kept.after (moveAbandon_kept _ _ _) (reduceBoom_kept _ _ _))
    · exact Kept.after (evaluate_kept _)
          (Kept.after (topUpBoom_kept _ _ _ _) (changeBoom_kept ⟨rfl, rfl, rfl, rfl, rfl⟩))

theorem abandonHole_kept (s : State) (b : Slot) (h : Hole) : Kept s (s.abandonHole b h) := by
  unfold State.abandonHole
  exact Kept.after (abandonGo_kept _ _ _)
      (Kept.after (setBoom_kept ⟨rfl, rfl, rfl, rfl, rfl⟩) (withdrawBoom_kept _ _))

/-! ## Samples -/

theorem takeConds_kept (s : State) (b : Slot) (h : Hole) (cs : List Cond) {go : State → State}
    (k : ∀ t, Kept t (go t)) : Kept s (s.takeConds b h cs go) := by
  have h0 : Kept s (s.setBoom b ((s.boom b).markSeen.raise cs)) := setBoom_kept ⟨rfl, rfl, rfl, rfl, rfl⟩
  unfold State.takeConds; dsimp only; split
  · exact Kept.after (Kept.after (evaluate_kept _) (stopInPhase_kept _ _ _ _ _)) h0
  · exact Kept.after (k _) h0

theorem driveBoom_kept (s : State) (b : Slot) (h : Hole) (f r : Int) : Kept s (s.driveBoom b h f r) :=
  setBoom_kept ⟨rfl, rfl, rfl, rfl, rfl⟩

theorem drivePhase_kept (s : State) (b : Slot) (h : Hole) : Kept s (s.drivePhase b h) := driveBoom_kept _ _ _ _ _

theorem profileSample_kept (s : State) (b : Slot) (h : Hole) : Kept s (s.profileSample b h) := by
  unfold State.profileSample; exact setBoom_kept ⟨rfl, rfl, rfl, rfl, rfl⟩

theorem collaringSample_kept (s : State) (b : Slot) (h : Hole) : Kept s (s.collaringSample b h) := by
  have h0 := Kept.after (profileSample_kept _ b h) (drivePhase_kept s b h)
  unfold State.collaringSample; dsimp only; split
  · exact Kept.after (cross_kept _ _ _) h0
  · exact h0

theorem drillingSample_kept (s : State) (b : Slot) (h : Hole) : Kept s (s.drillingSample b h) := by
  have h0 := Kept.after (profileSample_kept _ b h) (drivePhase_kept s b h)
  unfold State.drillingSample; dsimp only; split
  · exact Kept.after (endDrilling_kept _ _ _) h0
  · exact h0

theorem retractDrillSample_kept (s : State) (b : Slot) (h : Hole) : Kept s (s.retractDrillSample b h) := by
  unfold State.retractDrillSample; dsimp only; split
  · exact Kept.after (cross_kept _ _ _) (drivePhase_kept s b h)
  · exact drivePhase_kept s b h

theorem issue_kept (s : State) (b : Slot) (c : LoaderCmd) (n : Nat) : Kept s (s.issue b c n) :=
  setBoom_kept ⟨rfl, rfl, rfl, rfl, rfl⟩

theorem loaderSample_kept (s : State) (b : Slot) (c : LoaderCmd) : Kept s (s.loaderSample b c) := by
  unfold State.loaderSample; split
  · exact issue_kept _ _ _ _
  · exact issue_kept _ _ _ _
  · exact Kept.refl s

theorem resinLoadSample_kept (s : State) (b : Slot) (h : Hole) : Kept s (s.resinLoadSample b h) := by
  unfold State.resinLoadSample; dsimp only; split
  · exact Kept.after (cross_kept _ _ _) (drivePhase_kept s b h)
  · exact Kept.after (loaderSample_kept _ _ _) (drivePhase_kept s b h)

theorem boltLoadSample_kept (s : State) (b : Slot) (h : Hole) : Kept s (s.boltLoadSample b h) := by
  unfold State.boltLoadSample; dsimp only; split
  · exact Kept.after (cross_kept _ _ _) (drivePhase_kept s b h)
  · exact Kept.after
        (Kept.after (loaderSample_kept _ _ _) (setBoom_kept ⟨rfl, rfl, rfl, rfl, rfl⟩)) (drivePhase_kept s b h)

theorem insertingSample_kept (s : State) (b : Slot) (h : Hole) : Kept s (s.insertingSample b h) := by
  unfold State.insertingSample; dsimp only; split
  · exact Kept.after (cross_kept _ _ _) (drivePhase_kept s b h)
  · exact drivePhase_kept s b h

theorem takeMixShort_kept (s : State) (b : Slot) (h : Hole) : Kept s (s.takeMixShort b h) :=
  Kept.after (evaluate_kept _) (Kept.after (stopInPhase_kept _ _ _ _ _) (raise_kept _ _ _))

theorem mixingSample_kept (s : State) (b : Slot) (h : Hole) : Kept s (s.mixingSample b h) := by
  unfold State.mixingSample; dsimp only; split
  · exact Kept.after (endMixing_kept _ _ _) (drivePhase_kept s b _)
  · split
    · exact Kept.after (takeMixShort_kept _ _ _) (drivePhase_kept s b _)
    · exact drivePhase_kept s b _

theorem holdingSample_kept (s : State) (b : Slot) (h : Hole) : Kept s (s.holdingSample b h) := by
  unfold State.holdingSample; dsimp only; split
  · exact Kept.after (endHolding_kept _ _ _) (drivePhase_kept s b h)
  · exact drivePhase_kept s b h

theorem takeTorqueTimeout_kept (s : State) (b : Slot) (h : Hole) : Kept s (s.takeTorqueTimeout b h) :=
  endTorquing_kept _ _ _ _ _

theorem torquingSample_kept (s : State) (b : Slot) (h : Hole) : Kept s (s.torquingSample b h) := by
  unfold State.torquingSample; dsimp only; split
  · exact Kept.after (endTorquing_kept _ _ _ _ _) (drivePhase_kept s b _)
  · split
    · exact Kept.after (takeTorqueTimeout_kept _ _ _) (drivePhase_kept s b _)
    · exact drivePhase_kept s b _

theorem driveRelease_kept (s : State) (b : Slot) (h : Hole) : Kept s (s.driveRelease b h) := by
  unfold State.driveRelease; dsimp only; split
  · exact Kept.after (setBoom_kept ⟨rfl, rfl, rfl, rfl, rfl⟩) (driveBoom_kept _ _ _ _ _)
  · exact Kept.after (setBoom_kept ⟨rfl, rfl, rfl, rfl, rfl⟩) (driveBoom_kept _ _ _ _ _)

theorem releasingSample_kept (s : State) (b : Slot) (h : Hole) : Kept s (s.releasingSample b h) := by
  unfold State.releasingSample; dsimp only; split
  · exact Kept.after (cross_kept _ _ _) (driveRelease_kept _ _ _)
  · exact driveRelease_kept _ _ _

theorem phaseSample_kept (s : State) (b : Slot) (h : Hole) : Kept s (s.phaseSample b h) := by
  unfold State.phaseSample; split
  · exact collaringSample_kept _ _ _
  · exact drillingSample_kept _ _ _
  · exact retractDrillSample_kept _ _ _
  · exact resinLoadSample_kept _ _ _
  · exact boltLoadSample_kept _ _ _
  · exact insertingSample_kept _ _ _
  · exact mixingSample_kept _ _ _
  · exact holdingSample_kept _ _ _
  · exact torquingSample_kept _ _ _
  · exact releasingSample_kept _ _ _

theorem seat_kept (s : State) (b : Slot) (h : Hole) : Kept s (s.seat b h) := by
  unfold State.seat; split
  · exact endHolding_kept _ _ _
  · exact askFlow_kept _ _ _

theorem engageSample_kept (s : State) (b : Slot) (h : Hole) : Kept s (s.engageSample b h) := by
  unfold State.engageSample; dsimp only; split
  · exact Kept.after (seat_kept _ _ _) (setBoom_kept ⟨rfl, rfl, rfl, rfl, rfl⟩)
  · exact setBoom_kept ⟨rfl, rfl, rfl, rfl, rfl⟩

theorem cycleSample_kept (s : State) (b : Slot) (sub : CycleSub) (h : Hole) : Kept s (s.cycleSample b sub h) := by
  unfold State.cycleSample; split
  · exact takeConds_kept _ _ _ _ (fun t => phaseSample_kept t _ _)
  · exact takeConds_kept _ _ _ _ (fun t => engageSample_kept t _ _)
  · exact takeConds_kept _ _ _ _ (fun t => Kept.refl t)
  · exact takeConds_kept _ _ _ _ (fun t => Kept.refl t)

theorem noteOverdue_kept (s : State) (b : Slot) (w : Bool) : Kept s (s.noteOverdue b w) := by
  unfold State.noteOverdue; split
  · exact queueStatus_kept _ _
  · exact Kept.refl s

theorem abandonSample_kept (s : State) (b : Slot) (sub : AbandonSub) (h : Hole) : Kept s (s.abandonSample b sub h) := by
  unfold State.abandonSample; split
  · split
    · dsimp only
      have h0 : Kept s ((s.setBoom b { s.boom b with auto := .abandoning .active (h.abandonTimer s.params) }).noteOverdue b
          h.overdue) := Kept.after (noteOverdue_kept _ _ _) (setBoom_kept ⟨rfl, rfl, rfl, rfl, rfl⟩)
      split
      · exact Kept.after (endHole_kept _ _ _) h0
      · exact h0
    · exact moveAbandon_kept _ _ _
  · split
    · exact moveAbandon_kept _ _ _
    · exact Kept.refl s
  · exact Kept.refl s

theorem retractHome_kept (s : State) (b : Slot) (r : RetractCtx) : Kept s (s.retractHome b r) := by
  unfold State.retractHome
  exact Kept.after (evaluate_kept _)
      (Kept.after (changeBoom_kept ⟨rfl, rfl, rfl, rfl, rfl⟩) (reduceBoom_kept _ _ _))

theorem retractSample_kept (s : State) (b : Slot) (r : RetractCtx) : Kept s (s.retractSample b r) := by
  unfold State.retractSample; split
  · split
    · dsimp only
      have h0 : Kept s ((s.setBoom b { s.boom b with retract := some (r.timer s.params) }).noteOverdue b r.overdue) :=
        Kept.after (noteOverdue_kept _ _ _) (setBoom_kept ⟨rfl, rfl, rfl, rfl, rfl⟩)
      split
      · exact Kept.after (retractHome_kept _ _ _) h0
      · exact h0
    · exact moveRetract_kept _ _ _
  · split
    · exact moveRetract_kept _ _ _
    · exact Kept.refl s
  · exact Kept.refl s
  · exact Kept.refl s

theorem manualSample_kept (s : State) (b : Slot) (m : ManualCtx) : Kept s (s.manualSample b m) := by
  unfold State.manualSample; split
  · exact Kept.refl s
  · exact setBoom_kept ⟨rfl, rfl, rfl, rfl, rfl⟩

theorem observeSample_kept (x : Boom) (ps : Params) (p : Plan) : BoomKept x (x.observeSample ps p) := by
  unfold Boom.observeSample; dsimp only; split <;> exact ⟨rfl, rfl, rfl, rfl, rfl⟩

theorem contextSample_kept (s : State) (b : Slot) : Kept s (s.contextSample b) := by
  unfold State.contextSample; split
  · exact retractSample_kept _ _ _
  · exact manualSample_kept _ _ _
  · exact cycleSample_kept _ _ _ _
  · exact abandonSample_kept _ _ _ _
  · exact setBoom_kept (observeSample_kept _ _ _)
  · exact Kept.refl s
  · exact Kept.refl s
  · exact Kept.refl s

/-! ## Interventions -/

theorem pushed_kept (x : Boom) : BoomKept x x.pushed := by
  unfold Boom.pushed; split <;> exact ⟨rfl, rfl, rfl, rfl, rfl⟩

theorem pushBoom_kept (s : State) (b : Slot) : Kept s (s.pushBoom b) := by
  unfold State.pushBoom; exact Kept.after (setBoom_kept (pushed_kept _)) (withdrawBoom_kept _ _)

theorem manualRequest_kept (s : State) (b : Slot) (m : ManualCtx) : Kept s (s.manualRequest b m) := by
  unfold State.manualRequest; split
  · exact Kept.after (evaluate_kept _)
        (Kept.after (changeBoom_kept ⟨rfl, rfl, rfl, rfl, rfl⟩) (reduceBoom_kept _ _ _))
  · exact Kept.after (evaluate_kept _)
        (Kept.after (topUpBoom_kept _ _ _ _) (changeBoom_kept ⟨rfl, rfl, rfl, rfl, rfl⟩))

theorem takeoverBoom_kept (s : State) (b : Slot) : Kept s (s.takeoverBoom b) := by
  unfold State.takeoverBoom
  exact Kept.after (manualRequest_kept _ _ _)
      (Kept.after (setBoom_kept ⟨rfl, rfl, rfl, rfl, rfl⟩) (pushBoom_kept _ _))

theorem retractGo_kept (s : State) (b : Slot) (r : RetractCtx) : Kept s (s.retractGo b r) := by
  unfold State.retractGo; split
  · exact retractHome_kept _ _ _
  · split
    · exact Kept.after (evaluate_kept _) (Kept.after (moveRetract_kept _ _ _) (reduceBoom_kept _ _ _))
    · exact Kept.after (evaluate_kept _) (topUpBoom_kept _ _ _ _)

theorem startRetract_kept (s : State) (b : Slot) : Kept s (s.startRetract b) := by
  unfold State.startRetract
  exact Kept.after (retractGo_kept _ _ _)
      (Kept.after (changeBoom_kept ⟨rfl, rfl, rfl, rfl, rfl⟩) (pushBoom_kept _ _))

theorem sweep_kept (s : State) : Kept s s.sweep :=
  forFitted_kept (fun b t => by split; exacts [Kept.refl t, startRetract_kept t b]) s

theorem popCycle_kept (s : State) (b : Slot) (sub : CycleSub) (h : Hole) (d : Nat) : Kept s (s.popCycle b sub h d) := by
  have k : BoomKept (s.boom b) ((s.boom b).gapTested h.phase) := by
    unfold Boom.gapTested; split <;> exact ⟨rfl, rfl, rfl, rfl, rfl⟩
  unfold State.popCycle; dsimp only; split
  · exact Kept.after (evaluate_kept _)
        (Kept.after (stopInPhase_kept _ _ _ _ _) (Kept.after (raise_kept _ _ _) (setBoom_kept (k.trans ⟨rfl, rfl, rfl, rfl, rfl⟩))))
  · exact Kept.after (resume_kept _ _ _) (setBoom_kept (k.trans ⟨rfl, rfl, rfl, rfl, rfl⟩))

theorem popException_kept (s : State) (b : Slot) (f : ExFrame) (h : Hole) (d : Nat) :
    Kept s (s.popException b f h d) := by
  unfold State.popException
  exact Kept.after (evaluate_kept _)
      (Kept.after (reduceBoom_kept _ _ _) (setBoom_kept ⟨rfl, rfl, rfl, rfl, rfl⟩))

theorem popRequest_kept (s : State) (b : Slot) (d : Nat) : Kept s (s.popRequest b d) := by
  unfold State.popRequest; split
  · exact popCycle_kept _ _ _ _ _
  · exact popException_kept _ _ _ _ _
  · exact abandonGo_kept _ _ _
  · exact Kept.after (evaluate_kept _) (reduceBoom_kept _ _ _)
  · exact Kept.after (evaluate_kept _) (reduceBoom_kept _ _ _)
  · exact Kept.after (evaluate_kept _) (reduceBoom_kept _ _ _)

theorem popAuto_kept (s : State) (b : Slot) : Kept s (s.popAuto b) :=
  Kept.after (popRequest_kept _ _ _) (changeBoom_kept (x := (s.boom b).popped) ⟨rfl, rfl, rfl, rfl, rfl⟩)

theorem popRetract_kept (s : State) (b : Slot) : Kept s (s.popRetract b) := by
  unfold State.popRetract; split
  · exact Kept.after (manualRequest_kept _ _ _) (changeBoom_kept ⟨rfl, rfl, rfl, rfl, rfl⟩)
  · exact popAuto_kept _ _

/-! ## Mode Control -/

theorem changeMode_kept (s : State) (m : Mode) : Kept s (s.changeMode m) := by
  have h0 : Kept s { s with mode := m, requested := none }.queueModeChange :=
    Kept.after (queueModeChange_kept _) (mode_kept s m none)
  unfold State.changeMode; dsimp only; split
  · exact Kept.after (sweep_kept _) h0
  · exact h0

theorem settleMode_kept (s : State) : Kept s s.settleMode := by
  unfold State.settleMode; split
  · split
    · exact changeMode_kept _ _
    · exact Kept.refl s
  · exact Kept.refl s

theorem settle_kept (s : State) : Kept s s.settle :=
  Kept.after (forFitted_kept (fun b t => noteChuck_kept t b) _) (settleMode_kept s)

/-! ## The timers of a tick -/

theorem onHole_kept (x : Boom) (f : Hole → Hole) : BoomKept x (x.onHole f) := by
  unfold Boom.onHole; split <;> exact ⟨rfl, rfl, rfl, rfl, rfl⟩

theorem takeJam_kept (s : State) (b : Slot) : Kept s (s.takeJam b) := by
  have h0 : Kept s (s.setBoom b (s.boom b).cancelLoader) := setBoom_kept ⟨rfl, rfl, rfl, rfl, rfl⟩
  unfold State.takeJam; dsimp only; split
  · exact Kept.after
        (Kept.after (evaluate_kept _) (Kept.after (stopInPhase_kept _ _ _ _ _) (raise_kept _ _ _))) h0
  · exact h0

theorem itemDone_kept (x : Boom) (c : LoaderCmd) : BoomKept x (x.itemDone c) := by
  have h0 : BoomKept x x.cancelLoader := ⟨rfl, rfl, rfl, rfl, rfl⟩
  unfold Boom.itemDone; split
  · exact h0.trans (onHole_kept _ _)
  · exact (h0.trans (onHole_kept x.cancelLoader (fun h => { h with indexDone := true, chuckReleased := false }))).trans
      ⟨rfl, rfl, rfl, rfl, rfl⟩

theorem takeDone_kept (s : State) (b : Slot) : Kept s (s.takeDone b) := by
  unfold State.takeDone; split
  · exact setBoom_kept (itemDone_kept _ _)
  · exact Kept.refl s
  · exact Kept.refl s

theorem takeFault_kept (s : State) (b : Slot) : Kept s (s.takeFault b) := by
  unfold State.takeFault; split
  · split
    · exact setBoom_kept ⟨rfl, rfl, rfl, rfl, rfl⟩
    · exact takeJam_kept _ _
  · exact Kept.refl s
  · exact Kept.refl s

theorem loadTimer_kept (s : State) (b : Slot) : Kept s (s.loadTimer b) := by
  unfold State.loadTimer; split
  · split
    · exact takeJam_kept _ _
    · exact Kept.refl s
  · exact Kept.refl s
  · exact Kept.refl s

theorem takeStarved_kept (s : State) (b : Slot) (h : Hole) (n : Nat) (due : Bool) :
    Kept s (s.takeStarved b h n due) := by
  unfold State.takeStarved; split
  · exact Kept.after (evaluate_kept _) (Kept.after (stopInPhase_kept _ _ _ _ _) (raise_kept _ _ _))
  · exact ((raise_kept s b [.flowStarved]).trans (arbiter_kept _ _)).trans (setBoom_kept (onHole_kept _ _))

theorem starveTimer_kept (s : State) (b : Slot) (due : Bool) : Kept s (s.starveTimer b due) := by
  unfold State.starveTimer; split
  · split
    · exact takeStarved_kept _ _ _ _ _
    · exact Kept.refl s
  · exact Kept.refl s

theorem holdTick_kept (x : Boom) (ps : Params) : BoomKept x (x.holdTick ps) := by
  unfold Boom.holdTick; split
  · split
    · split <;> exact ⟨rfl, rfl, rfl, rfl, rfl⟩
    · exact BoomKept.refl x
  · exact BoomKept.refl x

theorem manualTimer_kept (s : State) (b : Slot) : Kept s (s.manualTimer b) := by
  unfold State.manualTimer; split
  · exact Kept.refl s
  · exact setBoom_kept (holdTick_kept _ _)

theorem gelTimer_kept (s : State) (b : Slot) : Kept s (s.gelTimer b) := by
  unfold State.gelTimer; split
  · exact setBoom_kept ⟨rfl, rfl, rfl, rfl, rfl⟩
  · exact setBoom_kept ⟨rfl, rfl, rfl, rfl, rfl⟩
  · exact Kept.refl s

theorem boomTimers_kept (b : Slot) (s : State) : Kept s (State.boomTimers b s) :=
  Kept.after (gelTimer_kept _ b)
      (Kept.after (manualTimer_kept _ b) (Kept.after (starveTimer_kept _ b false) (loadTimer_kept s b)))

theorem silenceBoom_kept (s : State) (b : Slot) : Kept s (s.silenceBoom b) := by
  unfold State.silenceBoom; split
  · exact setBoom_kept ⟨rfl, rfl, rfl, rfl, rfl⟩
  · exact Kept.after (stopInPhase_kept _ _ _ _ _) (raise_kept _ _ _)
  · exact Kept.after (stopInPhase_kept _ _ _ _ _) (raise_kept _ _ _)
  · exact Kept.refl s

theorem driveFell_kept (s : State) (b : Slot) : Kept s (s.driveFell b) := by
  unfold State.driveFell; split
  · split
    · exact moveRetract_kept _ _ _
    · exact Kept.refl s
  · exact setBoom_kept ⟨rfl, rfl, rfl, rfl, rfl⟩
  · exact Kept.after (evaluate_kept _) (Kept.after (stopInPhase_kept _ _ _ _ _) (raise_kept _ _ _))
  · exact Kept.after (evaluate_kept _) (Kept.after (stopInPhase_kept _ _ _ _ _) (raise_kept _ _ _))
  · exact moveAbandon_kept _ _ _
  · exact Kept.refl s

theorem driveCame_kept (s : State) (b : Slot) : Kept s (s.driveCame b) := by
  unfold State.driveCame; split
  · split
    · exact moveRetract_kept _ _ _
    · exact Kept.refl s
  · exact moveAbandon_kept _ _ _
  · exact Kept.refl s

/-! ## The events on their own -/

theorem stopRunning_kept (s : State) (b : Slot) (h : Hole) (c : Cond) : Kept s (s.stopRunning b h c) :=
  Kept.after (evaluate_kept _) (Kept.after (stopInPhase_kept _ _ _ _ _) (raise_kept _ _ _))

theorem stallDue_kept (s : State) (b : Slot) : Kept s (s.stallDue b) := by
  unfold State.stallDue; split
  · split
    · exact Kept.refl s
    · exact stopRunning_kept _ _ _ _
  · exact Kept.refl s

theorem retractDue_kept (s : State) (b : Slot) : Kept s (s.retractDue b) := by
  unfold State.retractDue; split
  · split
    · exact Kept.refl s
    · exact stopRunning_kept _ _ _ _
  · exact Kept.refl s

theorem abandonOverdue_kept (s : State) (b : Slot) : Kept s (s.abandonOverdue b) := by
  unfold State.abandonOverdue; split
  · split
    · exact Kept.after (noteOverdue_kept _ _ _) (setBoom_kept ⟨rfl, rfl, rfl, rfl, rfl⟩)
    · exact Kept.refl s
  · exact Kept.refl s

theorem safeOverdue_kept (s : State) (b : Slot) : Kept s (s.safeOverdue b) := by
  unfold State.safeOverdue; split
  · split
    · split
      · exact Kept.after (noteOverdue_kept _ _ _) (setBoom_kept ⟨rfl, rfl, rfl, rfl, rfl⟩)
      · exact Kept.refl s
    · exact Kept.refl s
  · exact Kept.refl s

theorem mixDue_kept (s : State) (b : Slot) : Kept s (s.mixDue b) := by
  unfold State.mixDue; split
  · split
    · exact takeMixShort_kept _ _ _
    · exact Kept.refl s
  · exact Kept.refl s

theorem holdDue_kept (s : State) (b : Slot) : Kept s (s.holdDue b) := by
  unfold State.holdDue; split
  · split
    · exact endHolding_kept _ _ _
    · exact Kept.refl s
  · exact Kept.refl s

theorem torqueDue_kept (s : State) (b : Slot) : Kept s (s.torqueDue b) := by
  unfold State.torqueDue; split
  · split
    · exact takeTorqueTimeout_kept _ _ _
    · exact Kept.refl s
  · exact Kept.refl s

theorem positionDue_kept (s : State) (b : Slot) : Kept s (s.positionDue b) := by
  unfold State.positionDue; split
  · split
    · exact stopRunning_kept _ _ _ _
    · exact Kept.refl s
  · split
    · exact stopRunning_kept _ _ _ _
    · exact Kept.refl s
  · exact Kept.refl s

theorem manualDue_kept (s : State) (b : Slot) : Kept s (s.manualDue b) := by
  unfold State.manualDue; split
  · split
    · split
      · exact setBoom_kept ⟨rfl, rfl, rfl, rfl, rfl⟩
      · exact Kept.refl s
    · exact Kept.refl s
  · exact Kept.refl s

theorem intervalDue_kept (s : State) (b : Slot) : Kept s (s.intervalDue b) := by
  unfold State.intervalDue; split
  · split
    · exact setBoom_kept ⟨rfl, rfl, rfl, rfl, rfl⟩
    · exact Kept.refl s
  · exact setBoom_kept ⟨rfl, rfl, rfl, rfl, rfl⟩
  · exact Kept.refl s

end Sys2Proof.Machine
end

