-- ==== Sys2Proof/Laws/Arbiter.lean ====
section
/-! SUPPORT. What the Flow Arbiter's operations do to grants and entries, and that an evaluation leaves alone a boom that
neither waits nor can be backed off. -/

namespace Sys2Proof.Machine

/-! ## Reductions -/

@[simp] theorem reduceBoom_grant (s : State) (b : Slot) (n : Nat) : (s.reduceBoom b n).grant b = min n (s.grant b) := by
  show (s.arbiter.reduce (.boom b) n).grants.get b = _
  unfold Arbiter.reduce
  dsimp only
  split <;> exact four_get_set_self _ _ _

theorem reduceBoom_grant_of_ne (s : State) {b c : Slot} (n : Nat) (h : c ≠ b) : (s.reduceBoom b n).grant c = s.grant c := by
  show (s.arbiter.reduce (.boom b) n).grants.get c = _
  unfold Arbiter.reduce
  dsimp only
  split <;> exact four_get_set_of_ne _ _ h

theorem reduceBoom_waitList (s : State) (b : Slot) (n : Nat) :
    (s.reduceBoom b n).arbiter.waitList = s.arbiter.waitList.filter (fun e => e.requester ≠ .boom b) := by
  show (s.arbiter.reduce (.boom b) n).waitList = _
  unfold Arbiter.reduce
  dsimp only
  split <;> rfl

/-- A reduction empties a wait list in which only this boom stands. -/
theorem reduceBoom_alone {s : State} {b : Slot} (h : s.waitsAlone b) (n : Nat) : (s.reduceBoom b n).arbiter.waitList = [] := by
  rw [reduceBoom_waitList, List.filter_eq_nil_iff]
  intro e he
  simp [h e he]

/-- A reduction of a boom's grant, written out (R115). -/
theorem reduceBoom_arbiter {s : State} {b : Slot} (h : s.waitsAlone b) (n : Nat) :
    (s.reduceBoom b n).arbiter =
      { grants := s.arbiter.grants.set b (min n (s.grant b)), reserve := s.arbiter.reserve,
        grantList :=
          if min n (s.grant b) = 0 then s.arbiter.grantList.filter (fun q => q ≠ .boom b) else s.arbiter.grantList,
        waitList := [] } := by
  have k := reduceBoom_alone h n
  revert k
  show (s.arbiter.reduce (.boom b) n).waitList = [] → s.arbiter.reduce (.boom b) n = _
  intro k
  have e : s.arbiter.reduce (.boom b) n = { s.arbiter.reduce (.boom b) n with waitList := [] } := by rw [← k]
  rw [e]
  clear e k
  unfold Arbiter.reduce
  dsimp only [Arbiter.setGrant, Arbiter.withdraw, Arbiter.grantOf, State.grant]
  split
  next z => exact congrArg (fun l => Arbiter.mk _ _ l []) (if_pos z).symm
  next z => exact congrArg (fun l => Arbiter.mk _ _ l []) (if_neg z).symm

/-! ## Evaluations -/

/-- With nothing in the wait list an evaluation does nothing (R118). -/
theorem evaluateWith_nil {s : State} (h : s.arbiter.waitList = []) (q : Bool) (n : Nat) : State.evaluateWith q n s = s := by
  cases n with
  | zero => rfl
  | succ n => unfold State.evaluateWith; rw [h]

theorem evaluate_nil {s : State} (h : s.arbiter.waitList = []) : s.evaluate = s := evaluateWith_nil h _ _

theorem evaluateInReserve_nil {s : State} (h : s.arbiter.waitList = []) : s.evaluateInReserve = s := evaluateWith_nil h _ _

/-- A new entry stands behind those it goes behind from the head on, and ahead of the rest (R114). -/
theorem placeEntry_eq (n : WaitEntry) (l : List WaitEntry) :
    placeEntry n l = l.takeWhile (goesBehind n) ++ n :: l.dropWhile (goesBehind n) := by
  induction l with
  | nil => rfl
  | cons e es ih =>
    unfold placeEntry
    cases h : goesBehind n e <;> simp [h, ih]

theorem mem_placeEntry (n : WaitEntry) (l : List WaitEntry) (e : WaitEntry) :
    e ∈ placeEntry n l ↔ e = n ∨ e ∈ l := by
  induction l with
  | nil => simp [placeEntry]
  | cons x l ih =>
    unfold placeEntry; split
    · simp only [List.mem_cons, ih]; tauto
    · simp

/-- The boom has no entry in the wait list. -/
def State.entryless (s : State) (b : Slot) : Prop := ∀ e ∈ s.arbiter.waitList, e.requester ≠ .boom b

/-- An act that leaves a boom and its grant as they were, and gives it no entry. -/
structure Untouched (b : Slot) (s t : State) : Prop where
  boom : t.boom b = s.boom b
  grant : t.grant b = s.grant b
  entry : s.entryless b → t.entryless b

theorem Untouched.refl (b : Slot) (s : State) : Untouched b s s := ⟨rfl, rfl, id⟩

theorem Untouched.after {b : Slot} {s t u : State} (k : Untouched b t u) (h : Untouched b s t) : Untouched b s u :=
  ⟨k.boom.trans h.boom, k.grant.trans h.grant, fun p => k.entry (h.entry p)⟩

theorem setBoom_untouched {s : State} {b c : Slot} (x : Boom) (h : b ≠ c) : Untouched b s (s.setBoom c x) :=
  ⟨State.setBoom_boom_of_ne s x h, rfl, id⟩

theorem queueStatus_untouched (b : Slot) (s : State) (c : Slot) : Untouched b s (s.queueStatus c) := by
  unfold State.queueStatus; split <;> exact ⟨rfl, rfl, id⟩

theorem queueException_untouched (b : Slot) (s : State) (c : Slot) (f : ExFrame) : Untouched b s (s.queueException c f) := by
  unfold State.queueException; split <;> exact ⟨rfl, rfl, id⟩

theorem changeBoom_untouched {s : State} {b c : Slot} (x : Boom) (h : b ≠ c) : Untouched b s (s.changeBoom c x) := by
  unfold State.changeBoom; split
  · exact setBoom_untouched x h
  · exact (queueStatus_untouched _ _ _).after (setBoom_untouched x h)

theorem reduceBoom_untouched {s : State} {b c : Slot} (n : Nat) (h : b ≠ c) : Untouched b s (s.reduceBoom c n) :=
  ⟨rfl, reduceBoom_grant_of_ne s n h, fun k e he => by
    rw [reduceBoom_waitList] at he
    exact k e (List.mem_filter.mp he).1⟩

theorem stopBoom_untouched {s : State} {b c : Slot} (h : b ≠ c) (o : Hole) (k : FrameKind) (d : Cond) (n : Nat)
    (p q : Phase) : Untouched b s (s.stopBoom c o k d n p q) := by
  unfold State.stopBoom
  exact (queueStatus_untouched _ _ _).after
    ((queueException_untouched _ _ _ _).after ((reduceBoom_untouched _ h).after (changeBoom_untouched _ h)))

theorem startCycle_untouched {s : State} {b c : Slot} (h : b ≠ c) (o : Hole) (now : Bool) :
    Untouched b s (s.startCycle c o now) := by
  unfold State.startCycle; split
  · exact (stopBoom_untouched h _ _ _ _ _ _).after (setBoom_untouched _ h)
  · unfold State.moveOff; dsimp only; split <;> exact changeBoom_untouched _ h

theorem tell_untouched {s : State} {b : Slot} (q : Bool) {r : Requester} (h : r ≠ .boom b) : Untouched b s (s.tell q r) := by
  unfold State.tell; split
  · split <;> exact ⟨rfl, rfl, id⟩
  next c =>
    have hc : b ≠ c := fun e => h (by rw [e])
    split
    · split
      · unfold State.moveRetract; dsimp only; split <;> exact changeBoom_untouched _ hc
      · exact Untouched.refl _ _
    · exact changeBoom_untouched _ hc
    · exact startCycle_untouched hc _ _
    · exact startCycle_untouched hc _ _
    · unfold State.moveAbandon; dsimp only; split <;> exact changeBoom_untouched _ hc
    · exact Untouched.refl _ _

theorem awardEntry_untouched {s : State} {b : Slot} (q : Bool) {e : WaitEntry} (h : e.requester ≠ .boom b) :
    Untouched b s (s.awardEntry q e) := by
  have h0 : Untouched b s { s with arbiter := s.arbiter.award e } := by
    refine ⟨rfl, ?_, fun k d hd => k d ?_⟩
    · show (s.arbiter.award e).grants.get b = s.arbiter.grants.get b
      unfold Arbiter.award Arbiter.withdraw Arbiter.setGrant
      dsimp only
      split
      next c hc => exact four_get_set_of_ne _ _ (fun q => h (by rw [hc, q]))
      next => rfl
    · have m : (s.arbiter.award e).waitList = s.arbiter.waitList.filter (fun d => d.requester ≠ e.requester) := by
        unfold Arbiter.award Arbiter.withdraw Arbiter.setGrant; dsimp only; split <;> rfl
      have hd' : d ∈ (s.arbiter.award e).waitList := hd
      rw [m] at hd'
      exact (List.mem_filter.mp hd').1
  exact (tell_untouched q h).after h0

theorem backOff_untouched {s : State} {b c : Slot} (h : b ≠ c) : Untouched b s (s.backOff c) := by
  unfold State.backOff; dsimp only; split
  · refine (changeBoom_untouched _ h).after ⟨rfl, four_get_set_of_ne _ _ h, fun k d hd => ?_⟩
    have hd' : d ∈ (s.arbiter.takeBack s.clock c).waitList := hd
    unfold Arbiter.takeBack at hd'
    rcases (mem_placeEntry _ _ _).mp hd' with e | e
    · rw [e]; intro q; exact h (by injection q with q; exact q.symm)
    · exact k d e
  · exact Untouched.refl _ _

theorem backable_of_boom {s t : State} {b : Slot} (h : t.boom b = s.boom b) : t.backable b = s.backable b := by
  unfold State.backable; rw [h]

theorem backOffUntil_untouched {b : Slot} (need : Nat) (rs : List Requester) (s : State) (h : s.backable b = false) :
    Untouched b s (State.backOffUntil need rs s) := by
  induction rs generalizing s with
  | nil => exact Untouched.refl _ _
  | cons r rs ih =>
    unfold State.backOffUntil; split
    · exact Untouched.refl _ _
    · split
      next c =>
        split
        next hc =>
          have n : b ≠ c := fun e => by rw [e, hc] at h; exact absurd h (by decide)
          have u := backOff_untouched (s := s) n
          exact (ih _ (by rw [backable_of_boom u.boom]; exact h)).after u
        next => exact ih s h
      · exact ih s h

/-- An evaluation leaves alone a boom that has no entry and cannot be backed off: only a grant or a backoff reaches a boom
(R118, R119, R120). -/
theorem evaluateWith_untouched {b : Slot} (q : Bool) (n : Nat) (s : State) (h : s.backable b = false)
    (k : s.entryless b) : Untouched b s (State.evaluateWith q n s) := by
  induction n generalizing s with
  | zero => exact Untouched.refl _ _
  | succ n ih =>
    unfold State.evaluateWith; split
    · exact Untouched.refl _ _
    next e es he =>
      dsimp only
      split
      · have u := awardEntry_untouched (s := s) (b := b) q (e := e) (k e (by rw [he]; exact List.mem_cons_self ..))
        exact (ih _ (by rw [backable_of_boom u.boom]; exact h) (u.entry k)).after u
      · split
        · have u := backOffUntil_untouched (e.demand - s.arbiter.grantOf e.requester) s.arbiter.grantList.reverse s h
          exact (ih _ (by rw [backable_of_boom u.boom]; exact h) (u.entry k)).after u
        · exact Untouched.refl _ _

theorem evaluate_untouched {b : Slot} {s : State} (h : s.backable b = false) (k : s.entryless b) : Untouched b s s.evaluate :=
  evaluateWith_untouched _ _ s h k

end Sys2Proof.Machine
end

