-- ==== Sys2Proof/Laws/Flow.lean ====
section
/-! SUPPORT. What asking for flow leads to when no requester waits and the boom may move: the one lemma that says everything
`State.askFlow` can do then, and those for entering, resuming and crossing built on it. -/

namespace Sys2Proof.Machine

/-! ## Looks of an evaluation -/

/-- A head whose need fits is granted (R118, step 3). -/
theorem evaluateWith_grants {s : State} {q : Bool} {n : Nat} {e : WaitEntry} {es : List WaitEntry}
    (w : s.arbiter.waitList = e :: es) (fit : e.demand - s.arbiter.grantOf e.requester ≤ s.free) :
    State.evaluateWith q (n + 1) s = State.evaluateWith q n (s.awardEntry q e) := by
  rw [State.evaluateWith, w]
  exact if_pos fit

/-- A head that does not fit and is not URGENT ends the evaluation (R118, step 5). -/
theorem evaluateWith_stays {s : State} {q : Bool} {n : Nat} {e : WaitEntry} {es : List WaitEntry}
    (w : s.arbiter.waitList = e :: es) (fit : ¬ e.demand - s.arbiter.grantOf e.requester ≤ s.free) (k : e.cls ≠ .urgent) :
    State.evaluateWith q (n + 1) s = s := by
  rw [State.evaluateWith, w]
  exact (if_neg fit).trans (if_neg fun j => k j.1)

/-- A top-up when no requester waits (R116). -/
theorem topUpBoom_quiet {s : State} (w : s.flowQuiet) (b : Slot) (k : FlowClass) (n : Nat) :
    s.topUpBoom b k n = { s with arbiter := { s.arbiter with waitList := [newEntry s.clock (.boom b) k n] } } := by
  have e : s.arbiter.entryOf (.boom b) = none := by rw [Arbiter.entryOf, show s.arbiter.waitList = [] from w]; rfl
  rw [State.topUpBoom, Arbiter.topUp, e, show s.arbiter.waitList = [] from w]
  rfl

/-- The award of a boom's only entry (R119). -/
theorem award_alone (a : Arbiter) (b : Slot) (k : FlowClass) (n : Nat) (t : Tick) :
    ({ a with waitList := [newEntry t (.boom b) k n] } : Arbiter).award (newEntry t (.boom b) k n) =
      { grants := a.grants.set b n, reserve := a.reserve,
        grantList := a.grantList.filter (fun q => q ≠ .boom b) ++ [.boom b], waitList := [] } := by
  simp only [Arbiter.award, Arbiter.setGrant, Arbiter.withdraw, newEntry]
  simp
  exact List.filter_congr fun q _ => decide_not

/-! ## One boom changed -/

/-- `changeBoom` writes the boom, and nothing else but its BOOM_STATUS slot. -/
theorem changeBoom_link (s : State) (b : Slot) (x : Boom) :
    ∃ q, s.changeBoom b x = { s with booms := s.booms.set b x, link := { s.link with boomStatus := q } } := by
  unfold State.changeBoom State.queueStatus State.setBoom
  split
  · exact ⟨s.link.boomStatus, rfl⟩
  · split
    · exact ⟨_, rfl⟩
    · exact ⟨s.link.boomStatus, rfl⟩

theorem four_set_set {α : Type} (f : Four α) (b : Slot) (x y : α) : (f.set b x).set b y = f.set b y := by cases b <;> rfl

theorem four_set_get {α : Type} (f : Four α) (b : Slot) : f.set b (f.get b) = f := by cases b <;> rfl

/-- A boom whose context, outputs and chuck may have changed, and nothing else but that a loader command may be cancelled. -/
structure Boom.Moved (x y : Boom) : Prop where
  readings : Boom.SameReadings x y
  sets : y.current = x.current ∧ y.posted = x.posted ∧ y.accrued = x.accrued ∧ y.seen = x.seen ∧
    y.outOfRange = x.outOfRange
  profile : y.profile = x.profile
  contexts : y.p0 = x.p0 ∧ y.manual = x.manual ∧ y.retract = x.retract ∧ y.chuckShown = x.chuckShown ∧
    y.awayDepth = x.awayDepth
  loader : x.handshake = .none → y.handshake = .none

/-- A boom that may move starts (R28): its context is ACTIVE with its motion timers from zero. -/
theorem startCycle_moves {s : State} {b : Slot} {h : Hole} {now : Bool} (d : s.drive = some true)
    (l : s.link.silent = false) (v : h.viaReEngage = false) :
    ∃ q x, s.startCycle b h now = { s with booms := s.booms.set b x, link := { s.link with boomStatus := q } } ∧
      x.auto = .cycle .active (h.startMotion (s.depth b)) ∧ x.chuck = h.startChuck (s.boom b).chuck ∧
      Boom.Moved (s.boom b) x := by
  have n : s.startFaults = [] := by simp [State.startFaults, State.driveOn, d, l]
  have c : s.stopCause b [] = none := by simp [State.stopCause, stoppingCause]
  rw [State.startCycle, n, c]
  dsimp only [State.moveOff]
  rw [if_neg (by simp [v])]
  obtain ⟨q, e⟩ := changeBoom_link s b { s.boom b with
    auto := .cycle .active (h.startMotion (s.boom b).depth)
    feed := if now then phaseFeed s.params h.plan.recipe h.phase else 0
    rotation := if now then phaseRotation h.plan.recipe h.phase else 0
    chuck := h.startChuck (s.boom b).chuck }
  exact ⟨q, _, e, rfl, rfl, ⟨rfl, rfl, rfl, rfl, rfl⟩, ⟨rfl, rfl, rfl, rfl, rfl⟩, rfl, ⟨rfl, rfl, rfl, rfl, rfl⟩, id⟩

/-! ## Asking for flow -/

/-- What asking for flow leads to: the boom ACTIVE or waiting as its flow is covered or not, with nothing else changed but its
BOOM_STATUS slot. -/
structure FlowAnswered (s t : State) (b : Slot) (h g : Hole) : Prop where
  asked : s.FlowAsked t b g
  only : s.OnlyBoom t b
  boom : Boom.Moved (s.boom b) (t.boom b)
  chuck : (t.boom b).chuck = (s.boom b).chuck ∨ (t.boom b).chuck = h.startChuck (s.boom b).chuck
  link : ∃ q, t.link = { s.link with boomStatus := q }
  hole : g = h.startMotion (s.depth b) ∨ g = { h with torqueRun := [] }

/-- The boom's level is 0 when neither intervention stands. -/
theorem level_zero {x : Boom} (r : x.level = 0) : x.retract = none ∧ x.manual = none := by
  unfold Boom.level at r
  split at r <;> simp_all

/-- A boom that starts with an arbiter of its own: the shape both ways of being covered end in. -/
theorem flowAnswered_active {s t : State} {b : Slot} {h : Hole} {x : Boom} {a : Arbiter} {q : Four Bool}
    (e : t = { s with booms := s.booms.set b x, arbiter := a, link := { s.link with boomStatus := q } })
    (c : s.covers b (s.demandOf h.phase)) (ha : x.auto = .cycle .active (h.startMotion (s.depth b)))
    (hm : Boom.Moved (s.boom b) x) (hc : x.chuck = h.startChuck (s.boom b).chuck)
    (hg : a.grants.get b = s.demandOf h.phase) (ho : ∀ k, k ≠ b → a.grants.get k = s.grant k)
    (hr : a.reserve = s.arbiter.reserve) (hw : a.waitList = []) :
    FlowAnswered s t b h (h.startMotion (s.depth b)) := by
  have eb : t.boom b = x := by rw [e]; exact four_get_set_self _ _ _
  refine ⟨⟨fun _ => ⟨eb ▸ ha, ?_, ?_⟩, fun n => absurd c n⟩, ⟨?_, ?_, fun k hk => ?_, fun k hk => ?_, ?_, eb ▸ hm.readings⟩,
    eb ▸ hm, .inr (eb ▸ hc), ⟨q, ?_⟩, .inl rfl⟩ <;> rw [e]
  · exact hg
  · exact hw
  · exact ⟨rfl, rfl, rfl, rfl, rfl, rfl, rfl, rfl, rfl, rfl⟩
  · exact ⟨rfl, rfl, rfl, rfl⟩
  · exact four_get_set_of_ne _ _ hk
  · exact ho k hk
  · exact hr

/-- Asking for flow, when no requester waits, drive-enable is present, the link is not silent, and the phase does not go through
RE_ENGAGE (R27, R28, R118). -/
theorem askFlow_answers {s : State} {b : Slot} {h : Hole} (lv : (s.boom b).level = 0) (w : s.flowQuiet)
    (d : s.drive = some true) (l : s.link.silent = false) (v : h.viaReEngage = false) :
    ∃ g, FlowAnswered s (s.askFlow b h) b h g := by
  have ha : s.askedFlow h = s.demandOf h.phase := by unfold State.askedFlow; simp [v]; rfl
  have hc : h.askedClass = h.phase.flowClass := by unfold Hole.askedClass; simp [v]
  have wa : s.waitsAlone b := by intro e he; rw [show s.arbiter.waitList = [] from w] at he; cases he
  rw [State.askFlow, ha, hc]
  split
  next c =>
    obtain ⟨q, x, e, x1, x2, x3⟩ :=
      startCycle_moves (s := s.reduceBoom b (s.demandOf h.phase)) (b := b) (h := h) (now := true) d l v
    have nil : (s.reduceBoom b (s.demandOf h.phase)).arbiter.waitList = [] := reduceBoom_alone wa _
    rw [e, evaluate_nil]
    · refine ⟨_, flowAnswered_active (s := s) (x := x) rfl (.inl c) x1 x3 x2 ?_ (fun k hk => reduceBoom_grant_of_ne s _ hk) ?_ nil⟩
      · exact (reduceBoom_grant s b _).trans (Nat.min_eq_left c)
      · show (s.reduceBoom b (s.demandOf h.phase)).arbiter.reserve = _
        rw [reduceBoom_arbiter wa]
    · exact nil
  next c =>
    obtain ⟨q, e⟩ :=
      changeBoom_link s b { (s.boom b).still.cancelLoader with auto := .cycle .waitFlow { h with torqueRun := [] } }
    rw [State.waitForFlow, e, topUpBoom_quiet (by exact w)]
    by_cases c2 : s.demandOf h.phase - s.grant b ≤ s.free
    · rw [State.evaluate, State.evaluationFuel, evaluateWith_grants rfl (by exact c2), State.awardEntry]
      dsimp only
      rw [award_alone]
      unfold State.tell
      dsimp only [newEntry]
      obtain ⟨r1, r2⟩ := level_zero lv
      generalize hu : ({ s with
          booms := s.booms.set b { (s.boom b).still.cancelLoader with auto := .cycle .waitFlow { h with torqueRun := [] } }
          arbiter :=
            { grants := s.arbiter.grants.set b (s.demandOf h.phase), reserve := s.arbiter.reserve,
              grantList := s.arbiter.grantList.filter (fun q => q ≠ .boom b) ++ [.boom b], waitList := [] }
          link := { s.link with boomStatus := q } } : State) = u
      have ub : u.boom b = { (s.boom b).still.cancelLoader with auto := .cycle .waitFlow { h with torqueRun := [] } } := by
        rw [← hu]; exact four_get_set_self _ _ _
      have ur : (u.boom b).retract = none ∧ (u.boom b).manual = none := by rw [ub]; exact ⟨r1, r2⟩
      have ua : (u.boom b).auto = .cycle .waitFlow { h with torqueRun := [] } := by rw [ub]
      simp only [ur.1, ur.2, ua]
      obtain ⟨q2, x, e2, x1, x2, x3⟩ := startCycle_moves (s := u) (b := b) (h := { h with torqueRun := [] }) (now := false)
        (by rw [← hu]; exact d) (by rw [← hu]; exact l) v
      rw [e2, evaluateWith_nil (by rw [← hu])]
      have dp : u.depth b = s.depth b := by show (u.boom b).depth = _; rw [ub]; rfl
      have x4 : Boom.Moved (s.boom b) x := by
        obtain ⟨⟨a1, a2, a3, a4, a5⟩, ⟨b1, b2, b3, b4, b5⟩, c1, ⟨d1, d2, d3, d4, d5⟩, k1⟩ := x3
        rw [ub] at a1 a2 a3 a4 a5 b1 b2 b3 b4 b5 c1 d1 d2 d3 d4 d5 k1
        exact ⟨⟨a1, a2, a3, a4, a5⟩, ⟨b1, b2, b3, b4, b5⟩, c1, ⟨d1, d2, d3, d4, d5⟩, fun _ => k1 rfl⟩
      refine ⟨_, flowAnswered_active (s := s) (h := h) (x := x) (a := u.arbiter) (q := q2) ?_ (.inr c2)
        (by rw [x1, dp]; rfl) x4 (by rw [x2, ub]; rfl) ?_ ?_ ?_ ?_⟩ <;> subst hu
      · simp only [four_set_set]
      · exact four_get_set_self _ _ _
      · exact fun k hk => four_get_set_of_ne _ _ hk
      · rfl
      · rfl
    · rw [State.evaluate, State.evaluationFuel, evaluateWith_stays rfl (by exact c2)
        (by show h.phase.flowClass ≠ .urgent; cases h.phase <;> simp [Phase.flowClass])]
      have nc : ¬ s.covers b (s.demandOf h.phase) := by rintro (k | k); exacts [c k, c2 k]
      have eb : ∀ y : Boom, (s.booms.set b y).get b = y := fun y => four_get_set_self _ _ _
      refine ⟨{ h with torqueRun := [] }, ⟨⟨fun k => absurd k nc, fun _ => ⟨?_, rfl, ?_, ?_, rfl⟩⟩,
        ⟨⟨rfl, rfl, rfl, rfl, rfl, rfl, rfl, rfl, rfl, rfl⟩, ⟨rfl, rfl, rfl, rfl⟩, fun k hk => four_get_set_of_ne _ _ hk,
          fun k hk => rfl, rfl, ?_⟩, ?_, .inl ?_, ⟨q, rfl⟩, .inr rfl⟩⟩ <;> simp only [State.boom, eb]
      · rfl
      · rfl
      · exact ⟨rfl, rfl, rfl, rfl, rfl⟩
      · exact ⟨⟨rfl, rfl, rfl, rfl, rfl⟩, ⟨rfl, rfl, rfl, rfl, rfl⟩, rfl, ⟨rfl, rfl, rfl, rfl, rfl⟩, fun _ => rfl⟩
      · rfl

/-- Entering a phase, under the same conditions (R27). -/
theorem enterPhase_answers {s : State} {b : Slot} {h : Hole} {p : Phase} (lv : (s.boom b).level = 0) (w : s.flowQuiet)
    (d : s.drive = some true) (l : s.link.silent = false) (v : (h.enter p s.clock).viaReEngage = false) :
    ∃ g, FlowAnswered (s.setBoom b (s.boom b).clearPhase) (s.enterPhase b h p) b (h.enter p s.clock) g :=
  askFlow_answers (s := s.setBoom b (s.boom b).clearPhase) (by rw [State.setBoom_boom]; exact lv) w d l v

end Sys2Proof.Machine
end

