-- ==== Sys2Proof/Laws/Sample.lean ====
section
/-! SUPPORT. What a sample does to a running boom that no condition stops: its own part of the tick, down to the phase's. -/

namespace Sys2Proof.Machine

theorem running_context {x : Boom} {sub : CycleSub} {h : Hole} (r : x.running = some (sub, h)) :
    x.level = 0 ∧ x.auto = .cycle sub h := by
  unfold Boom.running at r
  split at r <;> simp_all

/-- A running boom's sample is its cycle's (R25). -/
theorem contextSample_running {s : State} {b : Slot} {sub : CycleSub} {h : Hole} (r : (s.boom b).running = some (sub, h)) :
    s.contextSample b = s.cycleSample b sub h := by
  obtain ⟨lv, a⟩ := running_context r
  obtain ⟨r1, r2⟩ := level_zero lv
  simp only [State.contextSample, r1, r2, a]

/-- A nonmaskable immediate condition among those of a moment stops the boom. -/
theorem not_mem_of_stopCause_none {s : State} {b : Slot} {cs : List Cond} {c : Cond} (n : s.stopCause b cs = none)
    (k : ∀ e, c.stops e = true) : c ∉ cs := by
  intro m
  unfold State.stopCause stoppingCause at n
  rw [List.find?_eq_none] at n
  have := n c (by cases c <;> simp [Cond.all])
  simp [m, k] at this

theorem moveConds_nil {s : State} {b : Slot} (k : Cond.driveLost ∉ s.moveConds b) (m : Cond.positionLost ∉ s.moveConds b) :
    s.moveConds b = [] := by
  unfold State.moveConds at k m ⊢
  split at k <;> split at m <;> simp_all

theorem thrustConds_nil {x : Boom} {h : Hole} (k : Cond.overThrust ∉ x.thrustConds h) : x.thrustConds h = [] := by
  unfold Boom.thrustConds at k ⊢
  split at k
  · rfl
  · split at k <;> simp_all

theorem stallConds_nil {h : Hole} {ps : Params} (k : Cond.feedStall ∉ h.stallConds ps) : h.stallConds ps = [] := by
  unfold Hole.stallConds at k ⊢
  split at k <;> simp_all

theorem retractConds_nil {h : Hole} {ps : Params} (k : Cond.retractTimeout ∉ h.retractConds ps) : h.retractConds ps = [] := by
  unfold Hole.retractConds at k ⊢
  split at k <;> simp_all

/-- At an ACTIVE sample that no condition stops, SENSOR_RANGE is all that is raised. -/
theorem activeConds_none {s : State} {b : Slot} {h : Hole} (n : s.stopCause b (s.activeConds b h) = none) :
    s.activeConds b h = (s.boom b).rangeConds := by
  have k : ∀ c, (∀ e, Cond.stops e c = true) → c ∉ s.activeConds b h := fun c => not_mem_of_stopCause_none n
  simp only [State.activeConds, List.mem_append, not_or] at k ⊢
  rw [moveConds_nil (k _ fun _ => rfl).1.1.1.2 (k _ fun _ => rfl).1.1.1.2, thrustConds_nil (k _ fun _ => rfl).1.1.2,
    stallConds_nil (k _ fun _ => rfl).1.2, retractConds_nil (k _ fun _ => rfl).2]
  simp

/-- What SENSOR_RANGE does to the sets at a sample. -/
def Boom.ranged (x : Boom) : Boom := x.markSeen.raise x.rangeConds

/-- An ACTIVE sample that no condition stops is its phase's, on the boom with SENSOR_RANGE taken (R25). -/
theorem contextSample_active {s : State} {b : Slot} {h : Hole} (r : (s.boom b).running = some (.active, h))
    (n : s.stopCause b (s.activeConds b (h.sampleTimers (s.depth b) s.clock)) = none) :
    s.contextSample b =
      (s.setBoom b (s.boom b).ranged).phaseSample b (h.sampleTimers (s.depth b) s.clock) := by
  rw [contextSample_running r]
  simp only [State.cycleSample, State.takeConds]
  rw [n, activeConds_none n]
  rfl

/-- A RE_ENGAGE sample that no condition stops. -/
theorem contextSample_engage {s : State} {b : Slot} {h : Hole} (r : (s.boom b).running = some (.reEngage, h))
    (n : s.stopCause b (s.engageConds b) = none) :
    s.contextSample b = (s.setBoom b (s.boom b).ranged).engageSample b h := by
  have k : ∀ c, (∀ e, Cond.stops e c = true) → c ∉ s.engageConds b := fun c => not_mem_of_stopCause_none n
  have e : s.engageConds b = (s.boom b).rangeConds := by
    simp only [State.engageConds, List.mem_append, not_or] at k ⊢
    rw [moveConds_nil (k _ fun _ => rfl).2 (k _ fun _ => rfl).2]
    simp
  rw [contextSample_running r]
  simp only [State.cycleSample, State.takeConds]
  rw [n, e]
  rfl

/-- SENSOR_RANGE masked posts nothing (R131). -/
theorem ranged_posted {x : Boom} (m : CondSet.has x.enabled .sensorRange = false) : x.ranged.posted = x.posted := by
  have : x.rangeConds.filter (Cond.posts x.enabled) = [] := by
    unfold Boom.rangeConds
    split <;> simp [Cond.posts, m]
  show CondSet.putAll x.posted (x.rangeConds.filter (Cond.posts x.enabled)) = _
  rw [this]
  rfl

/-- Taking SENSOR_RANGE leaves the boom's readings, contexts and outputs. -/
theorem ranged_same (x : Boom) : Boom.SameReadings x x.ranged ∧ x.ranged.auto = x.auto ∧ x.ranged.level = x.level ∧
    x.ranged.depth = x.depth ∧ x.ranged.profile = x.profile ∧ x.ranged.chuck = x.chuck ∧ x.ranged.handshake = x.handshake ∧
    x.ranged.outOfRange = x.outOfRange :=
  ⟨⟨rfl, rfl, rfl, rfl, rfl⟩, rfl, rfl, rfl, rfl, rfl, rfl, rfl⟩

/-- A boundary with nothing posted enters the next phase (R26). -/
theorem cross_enters {s : State} {b : Slot} {h : Hole} {p : Phase} (n : h.phase.next = some p) (z : (s.boom b).posted = 0) :
    s.cross b h = s.enterPhase b h p := by
  have t : CondSet.top (0 : CondSet) = none := by decide
  rw [State.cross, n]
  dsimp only
  rw [z, t]

/-- A boundary with something posted stops the boom before the next phase (R26, R136). -/
theorem cross_stops {s : State} {b : Slot} {h : Hole} {p : Phase} {c : Cond} (n : h.phase.next = some p)
    (z : CondSet.top (s.boom b).posted = some c) :
    s.cross b h = (s.stopBoom b h .prePhase c (postedOperand (s.boom b) h c) h.phase p).evaluate := by
  rw [State.cross, n]
  dsimp only
  rw [z]

end Sys2Proof.Machine
end

