-- ==== Sys2Proof/Laws/Boundary.lean ====
section
/-! SUPPORT. What a sample's last part leads to: the condition sets after a raise, the profile's sample and the phase's outputs as
one update of the boom, and a phase boundary that is crossed or stops the boom. -/

namespace Sys2Proof.Machine

/-! ## Condition sets -/

@[simp] theorem CondSet.has_zero (d : Cond) : CondSet.has 0 d = false := by simp [CondSet.has]

@[simp] theorem CondSet.has_put (s : CondSet) (c d : Cond) :
    CondSet.has (CondSet.put s c) d = (CondSet.has s d || decide (d = c)) := by
  unfold CondSet.has CondSet.put
  rw [BitVec.getLsbD_or]
  congr 1
  cases c <;> cases d <;> decide

@[simp] theorem CondSet.has_putAll (s : CondSet) (cs : List Cond) (d : Cond) :
    CondSet.has (CondSet.putAll s cs) d = (CondSet.has s d || decide (d ∈ cs)) := by
  induction cs generalizing s with
  | nil => simp [CondSet.putAll]
  | cons c cs ih =>
    show CondSet.has (CondSet.putAll (CondSet.put s c) cs) d = _
    rw [ih, CondSet.has_put]
    simp [Bool.or_assoc]

/-- The top of a set is its member of highest priority (R133). -/
theorem CondSet.top_eq {s : CondSet} {c : Cond} (h : CondSet.has s c = true)
    (k : ∀ d, d.priority < c.priority → CondSet.has s d = false) : CondSet.top s = some c := by
  unfold CondSet.top Cond.all
  cases c <;>
    (repeat (first
      | exact List.find?_cons_of_pos h
      | rw [List.find?_cons_of_neg (by rw [k _ (by decide)]; decide)]))

theorem CondSet.has_of_top {s : CondSet} {c : Cond} (h : CondSet.top s = some c) : CondSet.has s c = true := by
  unfold CondSet.top at h
  simpa using List.find?_some h

theorem CondSet.has_of_top_none {s : CondSet} (h : CondSet.top s = none) (c : Cond) : CondSet.has s c = false := by
  unfold CondSet.top at h
  rw [List.find?_eq_none] at h
  simpa using h c (by cases c <;> simp [Cond.all])

/-- A set without a member is empty. -/
theorem CondSet.eq_zero {s : CondSet} (k : ∀ d, CondSet.has s d = false) : s = 0 := by
  apply BitVec.eq_of_getLsbD_eq
  intro i hi
  have : ∃ c : Cond, c.priority - 1 = i := by
    have : i < 17 := hi
    interval_cases i
    · exact ⟨.driveLost, rfl⟩
    · exact ⟨.linkSilent, rfl⟩
    · exact ⟨.positionLost, rfl⟩
    · exact ⟨.overThrust, rfl⟩
    · exact ⟨.retractTimeout, rfl⟩
    · exact ⟨.feedStall, rfl⟩
    · exact ⟨.loaderJam, rfl⟩
    · exact ⟨.mixShort, rfl⟩
    · exact ⟨.movedWhileAway, rfl⟩
    · exact ⟨.flowStarved, rfl⟩
    · exact ⟨.torqueTimeout, rfl⟩
    · exact ⟨.poorAnchor, rfl⟩
    · exact ⟨.shortResin, rfl⟩
    · exact ⟨.underTension, rfl⟩
    · exact ⟨.overTension, rfl⟩
    · exact ⟨.voidStruck, rfl⟩
    · exact ⟨.sensorRange, rfl⟩
  obtain ⟨c, rfl⟩ := this
  simpa [CondSet.has] using k c

/-! ## Updates of one boom -/

theorem setBoom_setBoom (s : State) (b : Slot) (x y : Boom) : (s.setBoom b x).setBoom b y = s.setBoom b y := by
  unfold State.setBoom
  dsimp only
  rw [four_set_set]

theorem depth_setBoom (s : State) (b : Slot) (y : Boom) : (s.setBoom b y).depth b = y.depth := by
  show ((s.setBoom b y).boom b).depth = _
  rw [State.setBoom_boom]

theorem Boom.SameReadings.trans {x y z : Boom} (a : Boom.SameReadings x y) (c : Boom.SameReadings y z) :
    Boom.SameReadings x z :=
  ⟨c.1.trans a.1, c.2.trans a.2, c.3.trans a.3, c.4.trans a.4, c.5.trans a.5⟩

/-- The profile takes a sample in, in one update of the boom (R67). -/
theorem profileSample_setBoom (s : State) (b : Slot) (h : Hole) (y : Boom) :
    ∃ z, (s.setBoom b y).profileSample b h = s.setBoom b z ∧
      z =
        ({ y with
            profile := (y.profile.sample (strataFigures s.params h.plan.recipe) y.depth y.inForce).1,
            wasEligible := true }.raise
          (if (y.profile.sample (strataFigures s.params h.plan.recipe) y.depth y.inForce).2 then [Cond.voidStruck]
          else [])) := by
  refine ⟨_, ?_, rfl⟩
  unfold State.profileSample
  dsimp only
  rw [State.setBoom_boom, setBoom_setBoom]
  rfl

/-- The phase's outputs, in one update of the boom (R23). -/
theorem drivePhase_setBoom (s : State) (b : Slot) (h : Hole) (y : Boom) :
    (s.setBoom b y).drivePhase b h =
      s.setBoom b { y with
        auto := .cycle .active h, feed := phaseFeed s.params h.plan.recipe h.phase,
        rotation := phaseRotation h.plan.recipe h.phase } := by
  unfold State.drivePhase State.driveBoom
  rw [State.setBoom_boom, setBoom_setBoom]
  rfl

/-- What the sample's counts and timers leave of a hole. -/
structure Hole.SameWork (h k : Hole) : Prop where
  phase : k.phase = h.phase
  plan : k.plan = h.plan
  drilled : k.drilled = h.drilled
  planned : k.planned = h.planned
  exceptions : k.exceptions = h.exceptions
  loaded : k.loaded = h.loaded

theorem Hole.SameWork.trans {a c d : Hole} (x : Hole.SameWork a c) (y : Hole.SameWork c d) : Hole.SameWork a d :=
  ⟨y.1.trans x.1, y.2.trans x.2, y.3.trans x.3, y.4.trans x.4, y.5.trans x.5, y.6.trans x.6⟩

theorem sampleTimers_sameWork (h : Hole) (d : Nat) (t : Tick) : Hole.SameWork h (h.sampleTimers d t) := by
  have a : Hole.SameWork h (h.stallSample d) := by
    unfold Hole.stallSample
    (repeat' split) <;> exact ⟨rfl, rfl, rfl, rfl, rfl, rfl⟩
  have c : ∀ h : Hole, Hole.SameWork h h.retractSample := by
    intro h
    unfold Hole.retractSample
    (repeat' split) <;> exact ⟨rfl, rfl, rfl, rfl, rfl, rfl⟩
  have e : ∀ h : Hole, Hole.SameWork h (h.startTimers t) := by
    intro h
    unfold Hole.startTimers
    split <;> exact ⟨rfl, rfl, rfl, rfl, rfl, rfl⟩
  exact (a.trans (c _)).trans (e _)

/-! ## A phase boundary -/

/-- An answer to a flow request of a boom just written, said of the state before the write. -/
theorem FlowAnswered.of_setBoom {s t : State} {b : Slot} {y : Boom} {k g : Hole} (sr : Boom.SameReadings (s.boom b) y)
    (A : FlowAnswered (s.setBoom b y) t b k g) : s.FlowAsked t b g ∧ s.OnlyBoom t b ∧ Boom.Moved y (t.boom b) := by
  refine ⟨A.asked, ?_, ?_⟩
  · obtain ⟨a, l, c, d, e, f⟩ := A.only
    refine ⟨⟨a.1, a.2, a.3, a.4, a.5, a.6, a.7, a.8, a.9, a.10⟩, ⟨l.1, l.2, l.3, l.4⟩,
      fun q hq => (c q hq).trans (State.setBoom_boom_of_ne s _ hq), d, e, ?_⟩
    rw [State.setBoom_boom] at f
    exact sr.trans f
  · have := A.boom
    rw [State.setBoom_boom] at this
    exact this

/-- A boundary with nothing posted, of a boom just written, enters the next phase with its flow asked for (R26, R27). -/
theorem cross_setBoom_enters {s : State} {b : Slot} {y : Boom} {h : Hole} {p : Phase} (n : h.phase.next = some p)
    (sr : Boom.SameReadings (s.boom b) y) (lv : y.level = 0) (z : y.posted = 0) (w : s.flowQuiet) (d : s.drive = some true)
    (l : s.link.silent = false) (v : (h.enter p s.clock).viaReEngage = false) :
    ∃ g, s.PhaseEntered ((s.setBoom b y).cross b h) b h g p ∧ s.OnlyBoom ((s.setBoom b y).cross b h) b ∧
      (((s.setBoom b y).cross b h).boom b).profile = y.profile ∧
      (((s.setBoom b y).cross b h).boom b).posted = y.posted ∧
      (((s.setBoom b y).cross b h).boom b).accrued = y.accrued ∧
      (g = (h.enter p s.clock).startMotion y.depth ∨ g = { h.enter p s.clock with torqueRun := [] }) := by
  rw [cross_enters n (by rw [State.setBoom_boom]; exact z)]
  obtain ⟨g, A⟩ := enterPhase_answers (s := s.setBoom b y) (b := b) (h := h) (p := p) (by rw [State.setBoom_boom]; exact lv)
    w d l v
  have e : (s.setBoom b y).setBoom b ((s.setBoom b y).boom b).clearPhase = s.setBoom b y.clearPhase := by
    rw [State.setBoom_boom, setBoom_setBoom]
  have A' := A
  rw [e] at A'
  obtain ⟨B, C, D⟩ := A'.of_setBoom (y := y.clearPhase) (sr.trans ⟨rfl, rfl, rfl, rfl, rfl⟩)
  have hg := A'.hole
  rw [show (s.setBoom b y.clearPhase).depth b = y.depth from depth_setBoom s b _] at hg
  refine ⟨g, ⟨?_, ?_, ?_, ?_, ?_, ?_, ?_, B⟩, C, D.profile, D.sets.2.1, D.sets.2.2.1, hg⟩
  · rcases hg with e | e <;> rw [e] <;> cases p <;> rfl
  · rcases hg with e | e <;> rw [e] <;> cases p <;> rfl
  · rcases hg with e | e <;> rw [e] <;> cases p <;> rfl
  · rcases hg with e | e <;> rw [e] <;> cases p <;> rfl
  · rcases hg with e | e <;> rw [e] <;> cases p <;> rfl
  · exact D.sets.1
  · exact D.sets.2.2.2.1

/-- The two report slots an exception of a fitted boom fills (R139). -/
theorem queueException_queueStatus {u : State} {b : Slot} (f : u.fits b = true) (fr : ExFrame) :
    (u.queueException b fr).queueStatus b =
      { u with
        link := { u.link with
          exceptionReport := u.link.exceptionReport.set b (some fr), boomStatus := u.link.boomStatus.set b true } } := by
  unfold State.queueException
  rw [if_pos f]
  exact if_pos f

/-- A boundary with something posted, of a boom just written, stops the boom before the next phase (R134, R136). -/
theorem cross_setBoom_stops {s : State} {b : Slot} {y : Boom} {h : Hole} {p : Phase} {c : Cond} (f : s.fits b = true)
    (n : h.phase.next = some p) (sr : Boom.SameReadings (s.boom b) y) (z : CondSet.top y.posted = some c)
    (w : s.flowQuiet) :
    ∃ g fr, s.StoppedBefore ((s.setBoom b y).cross b h) b g fr h.phase p ∧ s.OnlyBoom ((s.setBoom b y).cross b h) b ∧
      fr.cause = c ∧ fr.operand = postedOperand y h c ∧ fr.posted = y.posted ∧ fr.current = y.current ∧
      g = { h with phase := p, exceptions := min (h.exceptions + 1) 65535, torqueRun := [] } ∧
      (((s.setBoom b y).cross b h).boom b).profile = y.profile ∧
      (((s.setBoom b y).cross b h).boom b).posted = y.posted ∧
      (((s.setBoom b y).cross b h).boom b).accrued = y.accrued ∧
      (((s.setBoom b y).cross b h).boom b).chuck = y.chuck := by
  rw [cross_stops n (by rw [State.setBoom_boom]; exact z), State.setBoom_boom]
  unfold State.stopBoom
  dsimp only
  generalize hf : (s.setBoom b y).makeFrame b h .prePhase c (postedOperand y h c) h.phase p = fr
  generalize hx : ({ ((s.setBoom b y).boom b).still.cancelLoader with
    auto := .exception fr { h with phase := p, exceptions := countUp16 h.exceptions, torqueRun := [] } } : Boom) = x
  rw [State.setBoom_boom] at hx
  obtain ⟨q, e⟩ := changeBoom_link (s.setBoom b y) b x
  have wa : (s.setBoom b y).waitsAlone b := by
    intro e he
    rw [show (s.setBoom b y).arbiter.waitList = [] from w] at he
    cases he
  have wa' : s.waitsAlone b := wa
  rw [e, queueException_queueStatus (by exact f), evaluate_nil]
  swap
  · exact reduceBoom_alone (s := s.setBoom b y) wa _
  have eb : ((s.booms.set b y).set b x).get b = x := by rw [four_set_set]; exact four_get_set_self _ _ _
  have frf : fr.kind = .prePhase ∧ fr.raisedIn = h.phase ∧ fr.phase = p ∧ fr.cause = c ∧
      fr.operand = postedOperand y h c ∧ fr.posted = y.posted ∧ fr.current = y.current := by
    rw [← hf]
    refine ⟨rfl, rfl, rfl, rfl, rfl, ?_, ?_⟩
    · show ((s.setBoom b y).boom b).posted = _
      rw [State.setBoom_boom]
    · show ((s.setBoom b y).boom b).current = _
      rw [State.setBoom_boom]
  obtain ⟨k1, k2, k3, k4, k5, k6, k7⟩ := frf
  refine ⟨{ h with phase := p, exceptions := countUp16 h.exceptions, torqueRun := [] }, fr,
    ⟨?_, k1, k2, k3, rfl, ⟨?_, ?_, ?_, ?_⟩, ?_, ⟨?_, ?_⟩⟩,
    ⟨⟨rfl, rfl, rfl, rfl, rfl, rfl, rfl, rfl, rfl, rfl⟩, ⟨rfl, rfl, rfl, rfl⟩, ?_, ?_, ?_, ?_⟩, k4, k5, k6, k7, rfl, ?_, ?_, ?_, ?_⟩
  · exact (congrArg Boom.auto eb).trans (by rw [← hx])
  · exact (congrArg Boom.feed eb).trans (by rw [← hx]; rfl)
  · exact (congrArg Boom.rotation eb).trans (by rw [← hx]; rfl)
  · exact (congrArg Boom.loaderOut eb).trans (by rw [← hx]; rfl)
  · exact (congrArg Boom.handshake eb).trans (by rw [← hx]; rfl)
  · refine (reduceBoom_grant s b (s.stopTarget h.phase)).trans ?_
    unfold State.stopTarget State.grantStopped
    cases h.phase <;> simp [Phase.keepsFlow, Params.effective, Nat.min_assoc]
  · exact four_get_set_self _ _ _
  · exact four_get_set_self _ _ _
  · intro k hk
    show ((s.booms.set b _).set b _).get k = _
    rw [four_set_set]
    exact four_get_set_of_ne _ _ hk
  · intro k hk
    exact reduceBoom_grant_of_ne s _ hk
  · show (s.reduceBoom b _).arbiter.reserve = _
    rw [reduceBoom_arbiter wa']
  · show Boom.SameReadings (s.boom b) (((s.booms.set b y).set b x).get b)
    rw [eb, ← hx]
    exact ⟨sr.1, sr.2, sr.3, sr.4, sr.5⟩
  · exact (congrArg Boom.profile eb).trans (by rw [← hx]; rfl)
  · exact (congrArg Boom.posted eb).trans (by rw [← hx]; rfl)
  · exact (congrArg Boom.accrued eb).trans (by rw [← hx]; rfl)
  · exact (congrArg Boom.chuck eb).trans (by rw [← hx]; rfl)

end Sys2Proof.Machine
end

