-- ==== Sys2Proof/Laws/Requests.lean ====
section
/-! SUPPORT. What taking a request leaves alone: the clock, the machine inputs and the receiving side of the link, with every
bound kept. One lemma per request. -/

namespace Sys2Proof.Machine

/-- A boom within its bounds (R52, R129). -/
structure Boom.Bounded (x : Boom) : Prop where
  posLoss : x.posLoss ≤ 20
  enabled : ∀ c, Cond.maskable c = false → CondSet.has x.enabled c = false

/-- What no request changes, and the bounds it keeps. -/
structure Asked (s t : State) : Prop where
  pending : t.pending = s.pending
  clock : t.clock = s.clock
  restartCause : t.restartCause = s.restartCause
  drive : t.drive = s.drive
  driveLine : t.driveLine = s.driveLine
  retractLine : t.retractLine = s.retractLine
  assembler : t.link.assembler = s.link.assembler
  waiting : t.link.waiting = s.link.waiting
  reply : t.link.reply = s.link.reply
  sending : t.link.sending = s.link.sending
  silenceTicks : t.link.silenceTicks = s.link.silenceTicks
  silent : t.link.silent = s.link.silent
  bounded : s.Bounded → t.Bounded

theorem Asked.refl (s : State) : Asked s s := ⟨rfl, rfl, rfl, rfl, rfl, rfl, rfl, rfl, rfl, rfl, rfl, rfl, id⟩

/-- Transitivity with the later act first. -/
theorem Asked.after {s t u : State} (k : Asked t u) (h : Asked s t) : Asked s u :=
  ⟨k.pending.trans h.pending, k.clock.trans h.clock, k.restartCause.trans h.restartCause, k.drive.trans h.drive,
    k.driveLine.trans h.driveLine, k.retractLine.trans h.retractLine, k.assembler.trans h.assembler, k.waiting.trans h.waiting, k.reply.trans h.reply,
    k.sending.trans h.sending, k.silenceTicks.trans h.silenceTicks, k.silent.trans h.silent, fun p => k.bounded (h.bounded p)⟩

theorem Kept.bounded {s t : State} (k : Kept s t) (h : s.Bounded) : t.Bounded where
  log := k.log h.log
  seqLow := (k.seq ⟨h.seqLow, h.seqHigh⟩).1
  seqHigh := (k.seq ⟨h.seqLow, h.seqHigh⟩).2
  queues := fun b => by rw [k.queues]; exact h.queues b
  posLoss := fun b => by rw [(k.booms b).posLoss]; exact h.posLoss b
  enabled := fun b => by rw [(k.booms b).enabled]; exact h.enabled b

theorem Kept.asked {s t : State} (k : Kept s t) : Asked s t :=
  ⟨k.pending, k.clock, k.restartCause, k.drive, k.driveLine, k.retractLine, k.assembler, k.waiting, k.reply, k.sending, k.silenceTicks,
    k.silent, k.bounded⟩

/-! ## Plain updates -/

theorem setRecipe_asked (s : State) (i : Fin 16) (r : Option Recipe) : Asked s (s.setRecipe i r) :=
  ⟨rfl, rfl, rfl, rfl, rfl, rfl, rfl, rfl, rfl, rfl, rfl, rfl, fun h => ⟨h.log, h.seqLow, h.seqHigh, h.queues, h.posLoss, h.enabled⟩⟩

theorem params_asked (s : State) (ps : Params) : Asked s { s with params := ps } :=
  ⟨rfl, rfl, rfl, rfl, rfl, rfl, rfl, rfl, rfl, rfl, rfl, rfl, fun h => ⟨h.log, h.seqLow, h.seqHigh, h.queues, h.posLoss, h.enabled⟩⟩

theorem requested_asked (s : State) (r : Option Mode) : Asked s { s with requested := r } :=
  (mode_kept s s.mode r).asked

theorem queues_asked (s : State) (q : Four (List QueueEntry))
    (h : ∀ b, (s.queues.get b).length ≤ Config.queueSize → (q.get b).length ≤ Config.queueSize) :
    Asked s { s with queues := q } :=
  ⟨rfl, rfl, rfl, rfl, rfl, rfl, rfl, rfl, rfl, rfl, rfl, rfl,
    fun k => ⟨k.log, k.seqLow, k.seqHigh, fun b => h b (k.queues b), k.posLoss, k.enabled⟩⟩

theorem setBoom_asked {s : State} {b : Slot} {x : Boom} (h : (s.boom b).Bounded → x.Bounded) : Asked s (s.setBoom b x) :=
  ⟨rfl, rfl, rfl, rfl, rfl, rfl, rfl, rfl, rfl, rfl, rfl, rfl, fun k => by
    have e : ∀ c, ((s.setBoom b x).boom c).Bounded := fun c => by
      by_cases q : c = b
      · subst q; simpa using h ⟨k.posLoss c, k.enabled c⟩
      · rw [State.setBoom_boom_of_ne _ _ q]; exact ⟨k.posLoss c, k.enabled c⟩
    exact ⟨k.log, k.seqLow, k.seqHigh, k.queues, fun c => (e c).posLoss, fun c => (e c).enabled⟩⟩

theorem queueStatus_asked (s : State) (b : Slot) : Asked s (s.queueStatus b) := (queueStatus_kept s b).asked

theorem changeBoom_asked {s : State} {b : Slot} {x : Boom} (h : (s.boom b).Bounded → x.Bounded) :
    Asked s (s.changeBoom b x) := by
  unfold State.changeBoom; split
  · exact setBoom_asked h
  · exact Asked.after (queueStatus_asked _ _) (setBoom_asked h)

theorem get_set_length {α : Type} (f : Four (List α)) (b : Slot) (q : List α) (n : Nat) (h : q.length ≤ n) (c : Slot)
    (k : (f.get c).length ≤ n) : ((f.set b q).get c).length ≤ n := by
  by_cases e : c = b
  · subst e; simpa using h
  · rw [four_get_set_of_ne _ _ e]; exact k

/-! ## The Plan Store and the parameters -/

theorem loadRecipe_asked (slot : Byte) (fields : List Half) (s : State) : Asked s (reqLoadRecipe slot fields s).1 := by
  unfold reqLoadRecipe; split
  · exact Asked.refl s
  · split
    · exact Asked.refl s
    · dsimp only; split
      · exact Asked.refl s
      · split
        · exact setRecipe_asked _ _ _
        · exact Asked.refl s

theorem clearRecipe_asked (slot : Byte) (s : State) : Asked s (reqClearRecipe slot s).1 := by
  unfold reqClearRecipe; split
  · exact Asked.refl s
  · split
    · exact Asked.refl s
    · split
      · exact Asked.refl s
      · split
        · exact Asked.refl s
        · exact setRecipe_asked _ _ _

theorem getRecipe_same (slot : Byte) (s : State) : (reqGetRecipe slot s).1 = s := by
  unfold reqGetRecipe; repeat' split
  all_goals rfl

theorem queueHole_asked (boom : Byte) (id : Half) (slot : Byte) (tag : Half) (p : Byte) (ov : Option Half) (s : State) :
    Asked s (reqQueueHole boom id slot tag p ov s).1 := by
  unfold reqQueueHole; split
  · exact Asked.refl s
  · split
    · exact Asked.refl s
    · split
      · exact Asked.refl s
      · split
        · exact Asked.refl s
        · split
          · exact Asked.refl s
          · split
            · dsimp only
              exact queues_asked s _ (fun c k => get_set_length _ _ _ _ (by simp; omega) c k)
            · exact Asked.refl s

theorem cancelHole_asked (id : Half) (s : State) : Asked s (reqCancelHole id s).1 := by
  unfold reqCancelHole; split
  · exact Asked.refl s
  · split
    · exact queues_asked s _ (fun c k => by cases c <;> exact (List.length_filter_le _ _).trans k)
    · split <;> exact Asked.refl s

theorem flushQueue_asked (boom : Byte) (s : State) : Asked s (reqFlushQueue boom s).1 := by
  unfold reqFlushQueue; split
  · exact Asked.refl s
  · split
    · exact Asked.refl s
    · exact queues_asked s _ (fun c k => get_set_length _ _ _ _ (Nat.zero_le _) c k)

theorem getQueue_same (boom : Byte) (s : State) : (reqGetQueue boom s).1 = s := by
  unfold reqGetQueue; split <;> rfl

theorem clearSlot_asked (s : State) (b : Slot) : Asked s (s.clearSlot b) :=
  ⟨rfl, rfl, rfl, rfl, rfl, rfl, rfl, rfl, rfl, rfl, rfl, rfl, fun k => by
    have e : ∀ c, ((s.clearSlot b).boom c).Bounded := fun c => by
      by_cases q : c = b
      · subst q
        have h : (s.clearSlot c).boom c = Boom.fresh := four_get_set_self _ _ _
        rw [h]
        exact ⟨by decide, fun d => by cases d <;> decide⟩
      · have h : (s.clearSlot b).boom c = s.boom c := four_get_set_of_ne _ _ q
        rw [h]
        exact ⟨k.posLoss c, k.enabled c⟩
    exact ⟨k.log, k.seqLow, k.seqHigh, fun c => get_set_length _ _ _ _ (Nat.zero_le _) c (k.queues c),
      fun c => (e c).posLoss, fun c => (e c).enabled⟩⟩

theorem refit_asked (s : State) (old : Params) : Asked s (s.refit old) := by
  have h : ∀ b t, Asked t (if old.fits b = s.params.fits b then t else t.clearSlot b) := fun b t => by
    split
    · exact Asked.refl t
    · exact clearSlot_asked _ _
  exact Asked.after (h .s4 _) (Asked.after (h .s3 _) (Asked.after (h .s2 _) (h .s1 s)))

theorem storeParam_asked (s : State) (p : ParamId) (v : Nat) : Asked s (s.storeParam p v) := by
  have h0 : Asked s { s with params := s.params.set p v } := params_asked _ _
  unfold State.storeParam; dsimp only; split
  · exact Asked.after (refit_asked _ _) h0
  · exact Asked.after (evaluate_kept _).asked h0
  · exact h0

theorem setParam_asked (id : Byte) (v : Word) (s : State) : Asked s (reqSetParam id v s).1 := by
  unfold reqSetParam; split
  · exact Asked.refl s
  · split
    · exact Asked.refl s
    · split
      · exact Asked.refl s
      · dsimp only; split
        · exact storeParam_asked _ _ _
        · exact Asked.refl s

theorem getParam_same (id : Byte) (s : State) : (reqGetParam id s).1 = s := by
  unfold reqGetParam; split <;> rfl

/-! ## The cycle -/

theorem startHole_asked (s : State) (b : Slot) (e : QueueEntry) (rest : List QueueEntry) (r : Recipe)
    (h : s.queues.get b = e :: rest) : Asked s (s.startHole b e rest r) := by
  unfold State.startHole; dsimp only
  refine Asked.after (enterPhase_kept _ _ _ _).asked (Asked.after (setBoom_asked (fun k => ⟨k.posLoss, k.enabled⟩))
    (queues_asked s _ (fun c k => ?_)))
  by_cases q : c = b
  · subst q
    rw [four_get_set_self]
    rw [h] at k
    exact (Nat.le_succ _).trans k
  · rw [four_get_set_of_ne _ _ q]; exact k

theorem go_asked (boom : Byte) (s : State) : Asked s (reqGo boom s).1 := by
  unfold reqGo; split
  · exact Asked.refl s
  · split
    · exact Asked.refl s
    · split
      · exact Asked.refl s
      · split
        · exact Asked.refl s
        · split
          · exact Asked.refl s
          · split
            · exact Asked.refl s
            · split
              · exact Asked.refl s
              next h => 
                split
                · exact Asked.refl s
                · exact startHole_asked _ _ _ _ _ h

theorem abandon_kept (boom : Byte) (s : State) : Kept s (reqAbandon boom s).1 := by
  unfold reqAbandon; split
  · exact Kept.refl s
  · split
    · exact abandonHole_kept _ _ _
    · exact Kept.refl s

theorem maskable_of_bits (w : Word) (h : w &&& ~~~CondSet.maskableBits = 0) (c : Cond) (k : Cond.maskable c = false) :
    CondSet.has (w.setWidth 17) c = false := by
  have e : ∀ i, i < 9 → w.getLsbD i = false := fun i hi => by
    have q : (w &&& ~~~CondSet.maskableBits).getLsbD i = false := by rw [h]; exact BitVec.getLsbD_zero
    have m : CondSet.maskableBits.getLsbD i = false := by
      unfold CondSet.maskableBits
      interval_cases i <;> decide
    have hlt : i < 32 := by omega
    rw [BitVec.getLsbD_and, BitVec.getLsbD_not, m, decide_eq_true hlt] at q
    simpa only [Bool.not_false, Bool.and_true] using q
  have hp : c.priority - 1 < 9 := by
    cases c <;> simp_all [Cond.maskable, Cond.priority]
  unfold CondSet.has
  rw [BitVec.getLsbD_setWidth, e _ hp, Bool.and_false]

theorem setEnables_asked (boom : Byte) (w : Word) (s : State) : Asked s (reqSetEnables boom w s).1 := by
  unfold reqSetEnables; split
  · exact Asked.refl s
  · split
    next h => exact setBoom_asked (fun k => ⟨k.posLoss, maskable_of_bits w h⟩)
    next => exact Asked.refl s

theorem gapTested_kept (x : Boom) (p : Phase) : BoomKept x (x.gapTested p) := by
  unfold Boom.gapTested; split <;> exact ⟨rfl, rfl, rfl, rfl, rfl⟩

theorem continueNext_kept (s : State) (b : Slot) (h : Hole) : Kept s (s.continueNext b h) :=
  Kept.after (enterPhase_kept _ _ _ _)
    (setBoom_kept (BoomKept.trans (y := (s.boom b).clearPosted) ⟨rfl, rfl, rfl, rfl, rfl⟩ (gapTested_kept _ _)))

theorem continuePhase_kept (s : State) (b : Slot) (f : ExFrame) (h : Hole) : Kept s (s.continuePhase b f h) := by
  unfold State.continuePhase; split
  · exact enterPhase_kept _ _ _ _
  · exact Kept.after (resume_kept _ _ _) (setBoom_kept (gapTested_kept _ _))

theorem continueFrame_kept (s : State) (b : Slot) (f : ExFrame) (h : Hole) : Kept s (s.continueFrame b f h) := by
  unfold State.continueFrame; split
  · exact continueNext_kept _ _ _
  · exact continuePhase_kept _ _ _ _

theorem retryFrame_kept (s : State) (b : Slot) (h : Hole) (k : RetryKind) : Kept s (s.retryFrame b h k) := by
  unfold State.retryFrame; split
  · exact resume_kept _ _ _
  · exact resume_kept _ _ _
  · exact Kept.after (enterPhase_kept _ _ _ _) (setBoom_kept ⟨rfl, rfl, rfl, rfl, rfl⟩)

theorem resolveOn_kept (a : Action) (n : Nat) (b : Slot) (f : ExFrame) (h : Hole) (s : State) :
    Kept s (resolveOn a n b f h s).1 := by
  unfold resolveOn; split
  · unfold resolveContinueOn; split
    · exact Kept.refl s
    · exact continueFrame_kept _ _ _ _
  · unfold resolveRetryOn; split
    · exact Kept.refl s
    · split
      · exact Kept.refl s
      · split
        · exact Kept.refl s
        · exact retryFrame_kept _ _ _ _
  · unfold resolveCartridgesOn; split
    · exact Kept.refl s
    · split
      · exact Kept.refl s
      · split
        · exact Kept.refl s
        · exact continueFrame_kept _ _ _ _
  · exact abandonHole_kept _ _ _

theorem resolve_kept (boom action : Byte) (v : Option Byte) (s : State) : Kept s (reqResolve boom action v s).1 := by
  unfold reqResolve; split
  · exact Kept.refl s
  · split
    · exact Kept.refl s
    · split
      · exact Kept.refl s
      · exact resolveOn_kept _ _ _ _ _ _

theorem getFrame_same (boom : Byte) (s : State) : (reqGetFrame boom s).1 = s := by
  unfold reqGetFrame; repeat' split
  all_goals rfl

theorem getProfile_same (boom : Byte) (s : State) : (reqGetProfile boom s).1 = s := by
  unfold reqGetProfile; repeat' split
  all_goals rfl

/-! ## Interventions -/

theorem takeover_kept (boom : Byte) (s : State) : Kept s (reqTakeover boom s).1 := by
  unfold reqTakeover; repeat' split
  all_goals first | exact Kept.refl s | exact takeoverBoom_kept _ _

theorem driveManual_kept (x : Boom) (m : ManualCtx) (f r : Int) (c : ChuckArg) : BoomKept x (x.driveManual m f r c) := by
  cases c <;> exact ⟨rfl, rfl, rfl, rfl, rfl⟩

theorem manualDrive_kept (boom : Byte) (f r : Half) (c : Byte) (s : State) : Kept s (reqManualDrive boom f r c s).1 := by
  have h : ∀ b m x y z, Kept s (s.manualDrive b m x y z) := fun b m x y z => by
    unfold State.manualDrive; split
    · split
      · exact setBoom_kept (driveManual_kept _ _ _ _ _)
      · exact Kept.refl s
    · exact Kept.refl s
  unfold reqManualDrive; repeat' split
  all_goals first | exact Kept.refl s | exact h _ _ _ _ _

theorem handback_kept (boom : Byte) (s : State) : Kept s (reqHandback boom s).1 := by
  unfold reqHandback; repeat' split
  all_goals first | exact Kept.refl s | exact Kept.after (popAuto_kept _ _) (withdrawBoom_kept _ _)

theorem safeRetract_kept (boom : Byte) (s : State) : Kept s (reqSafeRetract boom s).1 := by
  unfold reqSafeRetract; repeat' split
  all_goals first | exact Kept.refl s | exact startRetract_kept _ _

theorem retractClear_kept (boom : Byte) (s : State) : Kept s (reqRetractClear boom s).1 := by
  unfold reqRetractClear; repeat' split
  all_goals first | exact Kept.refl s | exact popRetract_kept _ _

/-! ## Flow and the log -/

theorem reserveFlow_kept (n : Half) (s : State) : Kept s (reqReserveFlow n s).1 := by
  unfold reqReserveFlow; split
  · exact Kept.refl s
  · dsimp only; split
    · exact Kept.after (evaluateInReserve_kept _) (arbiter_kept s _)
    · split
      · exact Kept.refl s
      · exact Kept.after (evaluate_kept _) (arbiter_kept s _)

theorem releaseFlow_kept (s : State) : Kept s (reqReleaseFlow s).1 := by
  unfold reqReleaseFlow; split
  · exact Kept.refl s
  · exact Kept.after (evaluate_kept _) (arbiter_kept s _)

theorem fetchRecord_same (s : State) : (reqFetchRecord s).1 = s := by
  unfold reqFetchRecord; split <;> rfl

/-- A drop that admits a waiter finds the place it has just freed. -/
theorem admitWriter_kept (s : State) (room : s.log.length < Config.logSize) : Kept s s.admitWriter := by
  unfold State.admitWriter; split
  · exact Kept.refl s
  · dsimp only; split
    · exact Kept.after (emptyContext_kept _ _) (Kept.after (writeRecord_kept _ room) (writers_kept s _))
    · exact writers_kept s _

theorem dropRecord_asked (s : State) : Asked s (reqDropRecord s).1 := by
  unfold reqDropRecord; split
  · exact Asked.refl s
  next r rest h =>
    dsimp only
    have h0 : Asked s { s with log := rest } :=
      ⟨rfl, rfl, rfl, rfl, rfl, rfl, rfl, rfl, rfl, rfl, rfl, rfl, fun k => ⟨by
        have := k.log
        rw [h] at this
        exact (Nat.le_succ _).trans this, k.seqLow, k.seqHigh, k.queues, k.posLoss, k.enabled⟩⟩
    by_cases room : rest.length < Config.logSize
    · exact Asked.after (admitWriter_kept { s with log := rest } room).asked h0
    · refine ⟨?_, ?_, ?_, ?_, ?_, ?_, ?_, ?_, ?_, ?_, ?_, ?_, fun k => ?_⟩
      all_goals first
        | (exfalso; have := k.log; rw [h] at this; exact room this)
        | (unfold State.admitWriter State.emptyContext State.changeBoom State.queueStatus
           dsimp only
           repeat' split
           all_goals rfl)

/-! ## Observation and Mode Control -/

theorem markStart_asked (boom : Byte) (id : Half) (slot : Byte) (tag : Half) (s : State) :
    Asked s (reqMarkStart boom id slot tag s).1 := by
  unfold reqMarkStart; repeat' split
  all_goals first | exact Asked.refl s | exact changeBoom_asked (fun k => ⟨k.posLoss, k.enabled⟩)

theorem markEnd_kept (boom : Byte) (s : State) : Kept s (reqMarkEnd boom s).1 := by
  unfold reqMarkEnd; repeat' split
  all_goals first
    | exact Kept.refl s
    | exact Kept.after (offerRecord_kept _ _ _)
        (setBoom_kept (x := (s.boom _).closeObserved s.params _) ⟨rfl, rfl, rfl, rfl, rfl⟩)

theorem setMode_asked (m : Byte) (s : State) : Asked s (reqSetMode m s).1 := by
  unfold reqSetMode; repeat' split
  all_goals first
    | exact Asked.refl s
    | exact requested_asked _ _
    | exact Asked.after (t := { s with requested := some _ }) (settleMode_kept _).asked (requested_asked _ _)

theorem restart_asked (s : State) : Asked s (reqRestart s).1 :=
  ⟨rfl, rfl, rfl, rfl, rfl, rfl, rfl, rfl, rfl, rfl, rfl, rfl,
    fun h => ⟨h.log, h.seqLow, h.seqHigh, h.queues, h.posLoss, h.enabled⟩⟩

/-- What taking any request leaves alone, and the bounds it keeps. -/
theorem handleRequest_asked (r : Request) (s : State) : Asked s (handleRequest r s).1 := by
  cases r <;> simp only [handleRequest]
  case getStatus => exact Asked.refl s
  case setMode => exact setMode_asked _ _
  case restart => exact restart_asked s
  case setParam => exact setParam_asked _ _ _
  case getParam => rw [getParam_same]; exact Asked.refl s
  case loadRecipe => exact loadRecipe_asked _ _ _
  case clearRecipe => exact clearRecipe_asked _ _
  case getRecipe => rw [getRecipe_same]; exact Asked.refl s
  case queueHole => exact queueHole_asked _ _ _ _ _ _ _
  case cancelHole => exact cancelHole_asked _ _
  case flushQueue => exact flushQueue_asked _ _
  case getQueue => rw [getQueue_same]; exact Asked.refl s
  case go => exact go_asked _ _
  case abandon => exact (abandon_kept _ _).asked
  case setEnables => exact setEnables_asked _ _ _
  case resolve => exact (resolve_kept _ _ _ _).asked
  case getFrame => rw [getFrame_same]; exact Asked.refl s
  case getProfile => rw [getProfile_same]; exact Asked.refl s
  case takeover => exact (takeover_kept _ _).asked
  case manualDrive => exact (manualDrive_kept _ _ _ _ _).asked
  case handback => exact (handback_kept _ _).asked
  case safeRetract => exact (safeRetract_kept _ _).asked
  case retractClear => exact (retractClear_kept _ _).asked
  case reserveFlow => exact (reserveFlow_kept _ _).asked
  case releaseFlow => exact (releaseFlow_kept _).asked
  case getFlow => exact Asked.refl s
  case fetchRecord => rw [fetchRecord_same]; exact Asked.refl s
  case dropRecord => exact dropRecord_asked _
  case markStart => exact markStart_asked _ _ _ _ _
  case markEnd => exact (markEnd_kept _ _).asked

/-- What taking any frame leaves alone, and the bounds it keeps. -/
theorem handleFrame_asked (f : Frame) (s : State) : Asked s (handleFrame f s).1 := by
  unfold handleFrame; split
  · exact Asked.refl s
  · exact Asked.refl s
  · exact handleRequest_asked _ _

end Sys2Proof.Machine
end

