-- ==== Sys2Proof/Laws/Link.lean ====
section
/-! SUPPORT. What the transmitter, the settling and the taking of a frame do: an idle transmitter's choice touches the link
alone, and a request that arrives at a ready link is decided at once. -/

namespace Sys2Proof.Machine

/-! ## The transmitter -/

/-- What the transmitter's choice leaves of the link. -/
structure Link.SameReceiver (l m : Link) : Prop where
  assembler : m.assembler = l.assembler
  waiting : m.waiting = l.waiting
  restarting : m.restarting = l.restarting
  silenceTicks : m.silenceTicks = l.silenceTicks
  silent : m.silent = l.silent

theorem Link.SameReceiver.refl (l : Link) : Link.SameReceiver l l := ⟨rfl, rfl, rfl, rfl, rfl⟩

/-- The transmitter's choice changes the link alone, and of the link only the reply, the report slots and the frame being sent
(R193). -/
theorem startNext_link (s : State) :
    ∃ l, s.startNext = { s with link := l } ∧ Link.SameReceiver s.link l := by
  unfold State.startNext
  split
  · exact ⟨s.link, rfl, Link.SameReceiver.refl _⟩
  · split
    · exact ⟨_, rfl, ⟨rfl, rfl, rfl, rfl, rfl⟩⟩
    · unfold State.startReport
      split
      · exact ⟨_, rfl, ⟨rfl, rfl, rfl, rfl, rfl⟩⟩
      · split
        · exact ⟨_, rfl, ⟨rfl, rfl, rfl, rfl, rfl⟩⟩
        · split
          · exact ⟨_, rfl, ⟨rfl, rfl, rfl, rfl, rfl⟩⟩
          · unfold State.startLow
            split
            · exact ⟨_, rfl, ⟨rfl, rfl, rfl, rfl, rfl⟩⟩
            · split
              · exact ⟨_, rfl, ⟨rfl, rfl, rfl, rfl, rfl⟩⟩
              · exact ⟨s.link, rfl, Link.SameReceiver.refl _⟩

/-- Sending goes on: a busy transmitter makes no choice (R193). -/
theorem startNext_busy {s : State} {f : Frame} (h : s.link.sending = some f) : s.startNext = s := by
  unfold State.startNext; rw [h]

/-- Once it has chosen, the transmitter is busy or nothing was queued (R193). -/
theorem startNext_or (s : State) : s.startNext = s ∨ ∃ f, s.startNext.link.sending = some f := by
  unfold State.startNext
  split
  · exact Or.inl rfl
  · split
    · exact Or.inr ⟨_, rfl⟩
    · unfold State.startReport
      split
      · exact Or.inr ⟨_, rfl⟩
      · split
        · exact Or.inr ⟨_, rfl⟩
        · split
          · exact Or.inr ⟨_, rfl⟩
          · unfold State.startLow
            split
            · exact Or.inr ⟨_, rfl⟩
            · split
              · exact Or.inr ⟨_, rfl⟩
              · exact Or.inl rfl

@[simp] theorem startNext_startNext (s : State) : s.startNext.startNext = s.startNext := by
  rcases startNext_or s with h | ⟨f, h⟩
  · rw [h, h]
  · exact startNext_busy h

/-- A choice made with an empty reply slot leaves it empty (R193). -/
theorem startNext_reply (s : State) (h : s.link.reply = none) : s.startNext.link.reply = none := by
  unfold State.startNext
  split
  · exact h
  · rw [h]
    dsimp only
    unfold State.startReport
    split
    · exact h
    · split
      · exact h
      · split
        · exact h
        · unfold State.startLow
          split
          · exact h
          · split <;> exact h

/-- An idle transmitter with a reply in the slot starts it (R193). -/
theorem startNext_sends {s : State} {f : Frame} (h : s.link.sending = none) (k : s.link.reply = some f) :
    s.startNext = { s with link := { s.link with reply := none, sending := some f } } := by
  unfold State.startNext State.startReply State.send; rw [h]; dsimp only; rw [k]

/-! ## Serving -/

theorem takeWaiting_none {s : State} (h : s.link.waiting = []) : s.takeWaiting = s := by
  unfold State.takeWaiting; rw [h]; split <;> first | rfl | simp_all

/-- With the reply slot empty the oldest waiting frame is taken (R190). -/
theorem takeWaiting_frame {s : State} {f : Frame} {rest : List Frame} (h : s.link.reply = none)
    (k : s.link.waiting = f :: rest) (r : s.link.restarting = false) : s.takeWaiting = s.takeFrame f rest := by
  unfold State.takeWaiting; rw [h, k, r]; rfl

theorem startNext_waiting (s : State) : s.startNext.link.waiting = s.link.waiting := by
  obtain ⟨l, h, k⟩ := startNext_link s
  rw [h]; exact k.waiting

/-- With no frame waiting, serving is the transmitter's choice alone. -/
theorem serve_unhurried {s : State} (h : s.link.waiting = []) : s.serve = s.startNext := by
  have k : s.startNext.link.waiting = [] := (startNext_waiting s).trans h
  unfold State.serve
  rw [takeWaiting_none k, startNext_startNext, takeWaiting_none k]

/-! ## Settling -/

theorem settleMode_settled {s : State} (h : s.settled) : s.settleMode = s := by
  unfold State.settleMode
  rcases h with h | h
  · rw [h]
  · split
    · rw [h]; rfl
    · rfl

/-- With no mode change due, settling is the memory of the CHUCK outputs alone (R164, R179). -/
theorem settle_settled {s : State} (h : s.settled) : s.settle = s.noted := by
  unfold State.settle State.noted; rw [settleMode_settled h]

theorem noteChuck_booms (s : State) (b : Slot) : ∃ bs, s.noteChuck b = { s with booms := bs } := by
  unfold State.noteChuck; split
  · exact ⟨s.booms, rfl⟩
  · exact ⟨_, rfl⟩

/-- The memory of the CHUCK outputs changes the booms alone. -/
theorem noted_booms (s : State) : ∃ bs, s.noted = { s with booms := bs } := by
  have f : ∀ b (t : State), (∃ bs, t = { s with booms := bs }) →
      ∃ bs, (if t.fits b then t.noteChuck b else t) = { s with booms := bs } := by
    rintro b t ⟨bs, rfl⟩
    split
    · obtain ⟨cs, h⟩ := noteChuck_booms { s with booms := bs } b
      exact ⟨cs, h⟩
    · exact ⟨bs, rfl⟩
  exact f .s4 _ (f .s3 _ (f .s2 _ (f .s1 s ⟨s.booms, rfl⟩)))

theorem noted_link (s : State) : s.noted.link = s.link := by
  obtain ⟨bs, h⟩ := noted_booms s; rw [h]

/-- An event with no frame waiting and no mode change due: its effect, the memory of the CHUCK outputs, and the transmitter's
choice. -/
theorem finish_unhurried {s : State} (h : s.link.waiting = []) (k : s.settled) : s.finish = s.noted.startNext := by
  unfold State.finish
  rw [settle_settled k]
  exact serve_unhurried (by rw [noted_link]; exact h)

/-! ## A request at a ready link -/

/-- A request that fits the receive buffer and arrives at a ready link is decided on the state the arrival leaves, what follows
the event is settled, and its reply is formed (R188 to R190, R193). -/
theorem requestArrives_ready {s : State} (h : s.ready) (tag : Byte) (r : Request) (n : r.payload.length ≤ 505) :
    s.requestArrives tag r =
      ((handleFrame { kind := r.kind, tag := tag, payload := r.payload } s.heard).1.settle.setReply
        (replyFrame { kind := r.kind, tag := tag, payload := r.payload }
          (handleFrame { kind := r.kind, tag := tag, payload := r.payload } s.heard).2)).startNext := by
  obtain ⟨hr, hw, hs⟩ := h
  generalize hf : ({ kind := r.kind, tag := tag, payload := r.payload } : Frame) = f
  have room : s.link.room = 512 := by simp [Link.room, Link.waitingBytes, hw, Config.receiveBytes]
  have acc : s.link.arrive r.kind tag r.payload = s.link.accept f := by
    unfold Link.arrive Link.receiveFrame
    rw [room, if_neg (by unfold frameSize; omega), if_pos rfl, hf]
  have st : (s.withLink (s.link.arrive r.kind tag r.payload)).startNext =
      { s.heard with link := { s.heard.link with waiting := [f] } } := by
    rw [acc]
    unfold State.heard State.withLink Link.accept
    rw [hw]
    unfold State.startNext
    simp only [List.nil_append, hr]
    split
    · rfl
    · unfold State.startReport Link.nextException
      dsimp only
      split
      · rfl
      · split
        · rfl
        · split
          · rfl
          · unfold State.startLow Link.nextStatus
            dsimp only
            split
            · rfl
            · split <;> rfl
  obtain ⟨l, hl, kl⟩ := startNext_link { s with link := { s.link with assembler := .hunt, silenceTicks := 0, silent := false } }
  have hl' : s.heard = { s with link := l } := hl
  have hrep : s.heard.link.reply = none := startNext_reply _ hr
  have hres : s.heard.link.restarting = false := by rw [hl']; exact kl.restarting.trans hs
  have hwait : s.heard.link.waiting = [] := by rw [hl']; exact kl.waiting.trans hw
  have back : ({ { s.heard with link := { s.heard.link with waiting := [f] } } with
      link := { ({ s.heard with link := { s.heard.link with waiting := [f] } } : State).link with waiting := [] } } : State)
        = s.heard := by
    generalize s.heard = t at hwait ⊢
    have : { t.link with waiting := [] } = t.link := by rw [← hwait]
    show ({ t with link := { t.link with waiting := [] } } : State) = t
    rw [this]
  have take : ({ s.heard with link := { s.heard.link with waiting := [f] } } : State).takeWaiting =
      (handleFrame f s.heard).1.settle.setReply (replyFrame f (handleFrame f s.heard).2) := by
    refine (takeWaiting_frame (s := { s.heard with link := { s.heard.link with waiting := [f] } }) (f := f) (rest := [])
      hrep rfl hres).trans ?_
    exact congrArg (fun u => (handleFrame f u).1.settle.setReply (replyFrame f (handleFrame f u).2)) back
  unfold State.requestArrives State.serve
  rw [st, take]
  refine takeWaiting_none ?_
  rw [startNext_waiting]
  show (handleFrame f s.heard).1.settle.link.waiting = []
  rw [(settle_kept _).waiting, (handleFrame_asked _ _).waiting, hwait]

end Sys2Proof.Machine
end

