-- ==== Sys2Proof/Laws/DueTick.lean ====
section
/-! SUPPORT. What the acts around a tick do: the marks of an event of the tick falling due, the start of a tick, a change of the
drive-enable input, and the end of a frame. -/

namespace Sys2Proof.Machine

/-! ## Entries placed ahead of their tick (log entry 2) -/

theorem stoodIn_of_mem {e : WaitEntry} {old : List WaitEntry} (h : e ∈ old) : e.stoodIn old = true :=
  List.any_eq_true.2 ⟨e, h, by simp⟩

/-- An entry that stood before the event keeps its marks. -/
theorem markAhead_of_mem {e : WaitEntry} {old : List WaitEntry} (h : e ∈ old) : e.markAhead old = e := by
  simp [WaitEntry.markAhead, stoodIn_of_mem h]

/-- An event that places no entry marks none. -/
theorem Arbiter.markAhead_same {a : Arbiter} {old : List WaitEntry} (h : ∀ e ∈ a.waitList, e ∈ old) : a.markAhead old = a := by
  have k : a.waitList.map (WaitEntry.markAhead old) = a.waitList := by
    conv => rhs; rw [← List.map_id a.waitList]
    exact List.map_congr_left fun e m => markAhead_of_mem (h e m)
  unfold Arbiter.markAhead
  rw [k]

@[simp] theorem Arbiter.markAhead_grants (old : List WaitEntry) (a : Arbiter) : (a.markAhead old).grants = a.grants := rfl

@[simp] theorem Arbiter.markAhead_reserve (old : List WaitEntry) (a : Arbiter) : (a.markAhead old).reserve = a.reserve := rfl

@[simp] theorem Arbiter.markAhead_grantList (old : List WaitEntry) (a : Arbiter) :
    (a.markAhead old).grantList = a.grantList := rfl

/-- An event of the tick falling due that places no entry is `f` at that tick, with the clock as it was. -/
theorem atDueTick_placing_none {f : State → State} {s : State}
    (h : ∀ e ∈ (f { s with clock := s.clock + 1 }).arbiter.waitList, e ∈ s.arbiter.waitList) :
    atDueTick f s = { f { s with clock := s.clock + 1 } with clock := s.clock } := by
  unfold atDueTick
  dsimp only
  rw [Arbiter.markAhead_same h]

/-! ## The start of a tick -/

@[simp] theorem startTick_clock (s : State) (d : Bool) : (s.startTick d).clock = s.clock + 1 := rfl

@[simp] theorem startTick_drive (s : State) (d : Bool) : (s.startTick d).drive = some d := rfl

@[simp] theorem startTick_driveLine (s : State) (d : Bool) : (s.startTick d).driveLine = some d := rfl

@[simp] theorem startTick_boom (s : State) (d : Bool) (b : Slot) : (s.startTick d).boom b = s.boom b := rfl

@[simp] theorem startTick_grant (s : State) (d : Bool) (b : Slot) : (s.startTick d).grant b = s.grant b := rfl

@[simp] theorem startTick_params (s : State) (d : Bool) : (s.startTick d).params = s.params := rfl

@[simp] theorem startTick_fits (s : State) (d : Bool) (b : Slot) : (s.startTick d).fits b = s.fits b := rfl

@[simp] theorem startTick_link (s : State) (d : Bool) : (s.startTick d).link = s.link := rfl

/-! ## A change of drive-enable (R57) -/

/-- The input's own fall or return changes the level at the line, and of the booms the loader command on the harness alone. -/
theorem setDriveLine_booms (s : State) (level : Bool) :
    ∃ bs, s.setDriveLine level = { s with driveLine := some level, booms := bs } ∧
      ∀ b, bs.get b = if level = false ∧ s.fits b = true then (s.boom b).loseCommand else s.boom b := by
  cases level
  · unfold State.setDriveLine forFitted forSlots
    refine ⟨{ b1 := if s.fits .s1 then s.booms.b1.loseCommand else s.booms.b1,
              b2 := if s.fits .s2 then s.booms.b2.loseCommand else s.booms.b2,
              b3 := if s.fits .s3 then s.booms.b3.loseCommand else s.booms.b3,
              b4 := if s.fits .s4 then s.booms.b4.loseCommand else s.booms.b4 }, ?_, ?_⟩
    · rcases h1 : s.params.fits .s1 <;> rcases h2 : s.params.fits .s2 <;> rcases h3 : s.params.fits .s3 <;>
        rcases h4 : s.params.fits .s4 <;> simp [State.fits, State.setBoom, State.boom, Four.set, Four.get, h1, h2, h3, h4]
    · intro b
      cases b <;> simp [Four.get, State.boom]
  · exact ⟨s.booms, rfl, fun b => by simp [State.boom]⟩

/-- A reading that changes the level known reaches every fitted boom. -/
theorem readDrive_change {s : State} {level : Bool} (h : s.drive = some (!level)) (f : Slot → State → State) :
    s.readDrive level f = forFitted f { s with drive := some level } := by
  simp [State.readDrive, h]

/-- Any other reading is no change. -/
theorem readDrive_same {s : State} {level : Bool} (h : s.drive ≠ some (!level)) (f : Slot → State → State) :
    s.readDrive level f = s := by
  simp [State.readDrive, h]

/-- A fall of the input itself, which no boom is told of. -/
theorem driveFall_line {s : State} (h : s.driveLine ≠ some false) : s.driveFall = s.setDriveLine false := by
  simp [State.driveFall, h]

/-- The reading of a fall that has come. -/
theorem driveFall_read {s : State} (h : s.driveLine = some false) (k : s.drive = some true) :
    s.driveFall = forFitted (fun b t => t.driveFell b) { s with drive := some false } := by
  simp [State.driveFall, h, readDrive_change (level := false) k]

/-- A return of the input itself. -/
theorem driveReturn_line {s : State} (h : s.driveLine ≠ some true) : s.driveReturn = s.setDriveLine true := by
  simp [State.driveReturn, h]

/-- The reading of a return that has come. -/
theorem driveReturn_read {s : State} (h : s.driveLine = some true) (k : s.drive = some false) :
    s.driveReturn = forFitted (fun b t => t.driveCame b) { s with drive := some true } := by
  simp [State.driveReturn, h, readDrive_change (level := true) k]

/-! ## The end of a frame (R193) -/

/-- The end of the frame being transmitted. -/
theorem transmitEnd_busy {s : State} {f : Frame} (h : s.link.sending = some f) :
    s.transmitEnd = if s.link.restartDue then s.restarted else s.sent.serve := by
  unfold State.transmitEnd
  simp [startNext_busy h, h]

/-- An idle transmitter with nothing queued has ended nothing, and serves. -/
theorem transmitEnd_idle {s : State} (h : s.startNext = s) (k : s.link.sending = none) : s.transmitEnd = s.serve := by
  have e : s.sent = s := by
    unfold State.sent
    rw [← k]
  unfold State.transmitEnd
  rw [h]
  dsimp only
  rw [k, e]
  rfl

/-- A queued frame that an idle transmitter had not begun is the one that ends (log entry 8). -/
theorem transmitEnd_startNext (s : State) : s.startNext.transmitEnd = s.transmitEnd := by
  unfold State.transmitEnd
  rw [startNext_startNext]

end Sys2Proof.Machine
end

