-- ==== Sys2Proof/Laws/Layout.lean ====
section
/-! SUPPORT. Lists of entries of one size: their length, and where each entry stands (R196, R203, R204). -/

namespace Sys2Proof.Machine

/-- The bytes of a list of entries of one size. -/
theorem flatMap_length {α : Type} {f : α → List Byte} {k : Nat} (h : ∀ a, (f a).length = k) (l : List α) :
    (l.flatMap f).length = k * l.length := by
  induction l with
  | nil => rfl
  | cons a as ih => rw [List.flatMap_cons, List.length_append, h, ih, List.length_cons, Nat.mul_succ, Nat.add_comm]

/-- Entry `i` of a list of entries of one size stands at `i` times that size. -/
theorem flatMap_entry {α : Type} {f : α → List Byte} {k : Nat} (h : ∀ a, (f a).length = k) {l : List α} {i : Nat} {a : α}
    (e : l[i]? = some a) : ((l.flatMap f).drop (k * i)).take k = f a := by
  induction l generalizing i with
  | nil => simp at e
  | cons b bs ih =>
    cases i with
    | zero =>
      have e' : b = a := by simpa using e
      subst e'
      simp [← h b]
    | succ i =>
      have s : k * (i + 1) = (f b).length + k * i := by rw [h, Nat.mul_succ, Nat.add_comm]
      rw [s, List.flatMap_cons, ← List.drop_drop, List.drop_left]
      exact ih (by simpa using e)

end Sys2Proof.Machine
end

