-- ==== Sys2Proof/Laws/PerInstr.lean ====
section
/-! SUPPORT. The statement made of every command: a row that carries a request carries a well-formed one exactly when the command
is well-formed, its kind is one of R199's, and its frame fits an empty receive buffer (R188, R199). -/

namespace Sys2Proof.Laws.CarriedRequest

/-- What a request row carries is a request of R199's table, and its frame fits an empty receive buffer (R188). -/
def Statement (i : Instr) : Prop :=
  ∀ (tag : Byte) (r : Request), i.carries tag r →
    isRequestKind r.kind = true ∧ r.wellFormed = i.wellFormed ∧
      (i.wellFormed = true → r.payload.length + 7 ≤ Config.receiveBytes)

/-- The frame of a short payload fits. -/
theorem shortFits {n : Nat} (h : n ≤ 9) : n + 7 ≤ Config.receiveBytes := by
  have : Config.receiveBytes = 512 := rfl
  omega

/-- A list of two-byte numbers takes two bytes for each. -/
theorem halvesBytes_length (l : List Half) : (halvesBytes l).length = 2 * l.length := by
  induction l with
  | nil => rfl
  | cons h t ih => simp only [halvesBytes, halfBytes, List.length_append, List.length_cons, List.length_nil, ih]; omega

theorem powerOn : Statement (.powerOn) := fun _ _ h => h.elim

theorem sampleTick (drive : Bool) (line : Bool) (readings : Four (Quad Reading))
    : Statement (.sampleTick drive line readings) := fun _ _ h => h.elim

theorem driveEnableFall : Statement (.driveEnableFall) := fun _ _ h => h.elim

theorem driveEnableReturn : Statement (.driveEnableReturn) := fun _ _ h => h.elim

theorem retractLineAssert : Statement (.retractLineAssert) := fun _ _ h => h.elim

theorem retractLineRelease : Statement (.retractLineRelease) := fun _ _ h => h.elim

theorem loaderDone (b : Slot) : Statement (.loaderDone b) := fun _ _ h => h.elim

theorem loaderFault (b : Slot) : Statement (.loaderFault b) := fun _ _ h => h.elim

theorem loadTimeout (b : Slot) : Statement (.loadTimeout b) := fun _ _ h => h.elim

theorem feedStall (b : Slot) : Statement (.feedStall b) := fun _ _ h => h.elim

theorem retractTimeout (b : Slot) : Statement (.retractTimeout b) := fun _ _ h => h.elim

theorem abandonRetractOverdue (b : Slot) : Statement (.abandonRetractOverdue b) := fun _ _ h => h.elim

theorem safeRetractOverdue (b : Slot) : Statement (.safeRetractOverdue b) := fun _ _ h => h.elim

theorem mixShort (b : Slot) : Statement (.mixShort b) := fun _ _ h => h.elim

theorem holdTimerElapsed (b : Slot) : Statement (.holdTimerElapsed b) := fun _ _ h => h.elim

theorem torqueTimeout (b : Slot) : Statement (.torqueTimeout b) := fun _ _ h => h.elim

theorem gelLimitReached (b : Slot) : Statement (.gelLimitReached b) := fun _ _ h => h.elim

theorem positionLost (b : Slot) : Statement (.positionLost b) := fun _ _ h => h.elim

theorem flowStarved (b : Slot) : Statement (.flowStarved b) := fun _ _ h => h.elim

theorem manualHoldExpiry (b : Slot) : Statement (.manualHoldExpiry b) := fun _ _ h => h.elim

theorem intervalForcedClose (b : Slot) : Statement (.intervalForcedClose b) := fun _ _ h => h.elim

theorem linkSilent : Statement (.linkSilent) := fun _ _ h => h.elim

theorem frameReceived (kind : Byte) (tag : Byte) (payload : List Byte) (crc : Half)
    : Statement (.frameReceived kind tag payload crc) := fun _ _ h => h.elim

theorem frameGapTimeout : Statement (.frameGapTimeout) := fun _ _ h => h.elim

theorem unknownKind (kind : Byte) (tag : Byte) (payload : List Byte) : Statement (.unknownKind kind tag payload) := fun _ _ h => h.elim

theorem frameTransmitEnd : Statement (.frameTransmitEnd) := fun _ _ h => h.elim

theorem getStatus (tag : Byte) : Statement (.getStatus tag) := by
  rintro _ _ ⟨rfl, rfl⟩
  exact ⟨rfl, rfl, fun _ => shortFits (Nat.le_of_ble_eq_true rfl)⟩

theorem setMode (tag : Byte) (mode : Byte) : Statement (.setMode tag mode) := by
  rintro _ _ ⟨rfl, rfl⟩
  exact ⟨rfl, rfl, fun _ => shortFits (Nat.le_of_ble_eq_true rfl)⟩

theorem restart (tag : Byte) : Statement (.restart tag) := by
  rintro _ _ ⟨rfl, rfl⟩
  exact ⟨rfl, rfl, fun _ => shortFits (Nat.le_of_ble_eq_true rfl)⟩

theorem warmRestart : Statement (.warmRestart) := fun _ _ h => h.elim

theorem setParam (tag : Byte) (id : Byte) (value : Word) : Statement (.setParam tag id value) := by
  rintro _ _ ⟨rfl, rfl⟩
  exact ⟨rfl, rfl, fun _ => shortFits (Nat.le_of_ble_eq_true rfl)⟩

theorem getParam (tag : Byte) (id : Byte) : Statement (.getParam tag id) := by
  rintro _ _ ⟨rfl, rfl⟩
  exact ⟨rfl, rfl, fun _ => shortFits (Nat.le_of_ble_eq_true rfl)⟩

theorem loadRecipe (tag : Byte) (slot : Byte) (fields : List Half) : Statement (.loadRecipe tag slot fields) := by
  rintro _ _ ⟨rfl, rfl⟩
  refine ⟨rfl, rfl, fun h => ?_⟩
  have n : fields.length = 28 := of_decide_eq_true h
  show (slot :: halvesBytes fields).length + 7 ≤ 512
  rw [List.length_cons, halvesBytes_length, n]
  decide

theorem clearRecipe (tag : Byte) (slot : Byte) : Statement (.clearRecipe tag slot) := by
  rintro _ _ ⟨rfl, rfl⟩
  exact ⟨rfl, rfl, fun _ => shortFits (Nat.le_of_ble_eq_true rfl)⟩

theorem getRecipe (tag : Byte) (slot : Byte) : Statement (.getRecipe tag slot) := by
  rintro _ _ ⟨rfl, rfl⟩
  exact ⟨rfl, rfl, fun _ => shortFits (Nat.le_of_ble_eq_true rfl)⟩

theorem queueHole (tag : Byte) (boom : Byte) (holeId : Half) (slot : Byte) (posTag : Half) (override : Option Half)
    : Statement (.queueHole tag boom holeId slot posTag override) := by
  rintro _ _ ⟨rfl, rfl⟩
  refine ⟨rfl, rfl, fun _ => ?_⟩
  cases override <;> exact shortFits (Nat.le_of_ble_eq_true rfl)

theorem cancelHole (tag : Byte) (holeId : Half) : Statement (.cancelHole tag holeId) := by
  rintro _ _ ⟨rfl, rfl⟩
  exact ⟨rfl, rfl, fun _ => shortFits (Nat.le_of_ble_eq_true rfl)⟩

theorem flushQueue (tag : Byte) (boom : Byte) : Statement (.flushQueue tag boom) := by
  rintro _ _ ⟨rfl, rfl⟩
  exact ⟨rfl, rfl, fun _ => shortFits (Nat.le_of_ble_eq_true rfl)⟩

theorem getQueue (tag : Byte) (boom : Byte) : Statement (.getQueue tag boom) := by
  rintro _ _ ⟨rfl, rfl⟩
  exact ⟨rfl, rfl, fun _ => shortFits (Nat.le_of_ble_eq_true rfl)⟩

theorem go (tag : Byte) (boom : Byte) : Statement (.go tag boom) := by
  rintro _ _ ⟨rfl, rfl⟩
  exact ⟨rfl, rfl, fun _ => shortFits (Nat.le_of_ble_eq_true rfl)⟩

theorem abandon (tag : Byte) (boom : Byte) : Statement (.abandon tag boom) := by
  rintro _ _ ⟨rfl, rfl⟩
  exact ⟨rfl, rfl, fun _ => shortFits (Nat.le_of_ble_eq_true rfl)⟩

theorem setEnables (tag : Byte) (boom : Byte) (set : Word) : Statement (.setEnables tag boom set) := by
  rintro _ _ ⟨rfl, rfl⟩
  exact ⟨rfl, rfl, fun _ => shortFits (Nat.le_of_ble_eq_true rfl)⟩

theorem resolveContinue (tag : Byte) (boom : Byte) (value : Option Byte)
    : Statement (.resolveContinue tag boom value) := by
  rintro _ _ ⟨rfl, rfl⟩
  refine ⟨rfl, rfl, fun _ => ?_⟩
  cases value <;> exact shortFits (Nat.le_of_ble_eq_true rfl)

theorem resolveRetry (tag : Byte) (boom : Byte) (value : Option Byte) : Statement (.resolveRetry tag boom value) := by
  rintro _ _ ⟨rfl, rfl⟩
  refine ⟨rfl, rfl, fun _ => ?_⟩
  cases value <;> exact shortFits (Nat.le_of_ble_eq_true rfl)

theorem resolveSetCartridges (tag : Byte) (boom : Byte) (value : Option Byte)
    : Statement (.resolveSetCartridges tag boom value) := by
  rintro _ _ ⟨rfl, rfl⟩
  refine ⟨rfl, rfl, fun _ => ?_⟩
  cases value <;> exact shortFits (Nat.le_of_ble_eq_true rfl)

theorem resolveAbandon (tag : Byte) (boom : Byte) (value : Option Byte)
    : Statement (.resolveAbandon tag boom value) := by
  rintro _ _ ⟨rfl, rfl⟩
  refine ⟨rfl, rfl, fun _ => ?_⟩
  cases value <;> exact shortFits (Nat.le_of_ble_eq_true rfl)

theorem getFrame (tag : Byte) (boom : Byte) : Statement (.getFrame tag boom) := by
  rintro _ _ ⟨rfl, rfl⟩
  exact ⟨rfl, rfl, fun _ => shortFits (Nat.le_of_ble_eq_true rfl)⟩

theorem getProfile (tag : Byte) (boom : Byte) : Statement (.getProfile tag boom) := by
  rintro _ _ ⟨rfl, rfl⟩
  exact ⟨rfl, rfl, fun _ => shortFits (Nat.le_of_ble_eq_true rfl)⟩

theorem takeover (tag : Byte) (boom : Byte) : Statement (.takeover tag boom) := by
  rintro _ _ ⟨rfl, rfl⟩
  exact ⟨rfl, rfl, fun _ => shortFits (Nat.le_of_ble_eq_true rfl)⟩

theorem manualDrive (tag : Byte) (boom : Byte) (feed : Half) (rotation : Half) (chuck : Byte)
    : Statement (.manualDrive tag boom feed rotation chuck) := by
  rintro _ _ ⟨rfl, rfl⟩
  exact ⟨rfl, rfl, fun _ => shortFits (Nat.le_of_ble_eq_true rfl)⟩

theorem handback (tag : Byte) (boom : Byte) : Statement (.handback tag boom) := by
  rintro _ _ ⟨rfl, rfl⟩
  exact ⟨rfl, rfl, fun _ => shortFits (Nat.le_of_ble_eq_true rfl)⟩

theorem safeRetract (tag : Byte) (boom : Byte) : Statement (.safeRetract tag boom) := by
  rintro _ _ ⟨rfl, rfl⟩
  exact ⟨rfl, rfl, fun _ => shortFits (Nat.le_of_ble_eq_true rfl)⟩

theorem retractClear (tag : Byte) (boom : Byte) : Statement (.retractClear tag boom) := by
  rintro _ _ ⟨rfl, rfl⟩
  exact ⟨rfl, rfl, fun _ => shortFits (Nat.le_of_ble_eq_true rfl)⟩

theorem reserveFlow (tag : Byte) (amount : Half) : Statement (.reserveFlow tag amount) := by
  rintro _ _ ⟨rfl, rfl⟩
  exact ⟨rfl, rfl, fun _ => shortFits (Nat.le_of_ble_eq_true rfl)⟩

theorem releaseFlow (tag : Byte) : Statement (.releaseFlow tag) := by
  rintro _ _ ⟨rfl, rfl⟩
  exact ⟨rfl, rfl, fun _ => shortFits (Nat.le_of_ble_eq_true rfl)⟩

theorem getFlow (tag : Byte) : Statement (.getFlow tag) := by
  rintro _ _ ⟨rfl, rfl⟩
  exact ⟨rfl, rfl, fun _ => shortFits (Nat.le_of_ble_eq_true rfl)⟩

theorem fetchRecord (tag : Byte) : Statement (.fetchRecord tag) := by
  rintro _ _ ⟨rfl, rfl⟩
  exact ⟨rfl, rfl, fun _ => shortFits (Nat.le_of_ble_eq_true rfl)⟩

theorem dropRecord (tag : Byte) : Statement (.dropRecord tag) := by
  rintro _ _ ⟨rfl, rfl⟩
  exact ⟨rfl, rfl, fun _ => shortFits (Nat.le_of_ble_eq_true rfl)⟩

theorem markStart (tag : Byte) (boom : Byte) (holeId : Half) (slot : Byte) (posTag : Half)
    : Statement (.markStart tag boom holeId slot posTag) := by
  rintro _ _ ⟨rfl, rfl⟩
  exact ⟨rfl, rfl, fun _ => shortFits (Nat.le_of_ble_eq_true rfl)⟩

theorem markEnd (tag : Byte) (boom : Byte) : Statement (.markEnd tag boom) := by
  rintro _ _ ⟨rfl, rfl⟩
  exact ⟨rfl, rfl, fun _ => shortFits (Nat.le_of_ble_eq_true rfl)⟩

theorem byteReceived (byte : Byte) : Statement (.byteReceived byte) := fun _ _ h => h.elim

end Sys2Proof.Laws.CarriedRequest
end

