-- ==== Sys2Proof/Laws/Strata.lean ====
section
/-! SUPPORT. What the Strata Monitor's operations do, each said once: a sample taken in, an addition to the bands, and the close
of an interval. -/

namespace Sys2Proof.Machine

/-- A contributing sample (R67). -/
theorem Interval.take_eq_withSample (iv : Interval) (thrust torque speed : Option Nat) :
    iv.take thrust torque speed = iv.withSample thrust torque speed := by
  cases thrust <;> cases torque <;> cases speed <;> simp [Interval.take, Interval.withSample]

/-- A band extended, whatever its class and its MERGED mark become (R78 to R80). -/
theorem Band.extend_tookIn (old : Band) (a : Addition) (cls : BandClass) (merged : Bool) :
    old.TookIn a { old.extend a with cls := cls, isMerged := merged } := by
  obtain ⟨_, _, _, counts, se, _, _, _⟩ := a
  refine ⟨?_, ?_, ?_, ?_, ?_, ?_⟩
  · cases se <;> rfl
  · cases se <;> rfl
  · cases se <;> cases counts <;> simp [Band.extend, Band.takeEnergy, bandCountUp, Config.maxBandCount] <;> intro h <;> simp [h]
  · cases se <;> simp [Band.extend, Band.takeEnergy]
  · intro e h
    subst h
    simp only [Band.extend, Band.takeEnergy, bandCountUp, bandSumUp, Config.maxBandCount]
    refine ⟨fun h => by simp [h], fun h => by simp [h], ?_, ?_⟩
    · cases old.seMin <;> simp [Nat.min_comm]
    · cases old.seMax <;> simp [Nat.max_comm]
  · cases se <;> simp [Band.extend, Band.takeEnergy]

/-- A band as it is appended, with an SE in the range of R73. -/
theorem Band.start_extend (a : Addition) (h : ∀ e, a.se = some e → e ≤ 65535) : (Band.start a).extend a = a.asBand := by
  obtain ⟨_, _, _, counts, se, _, _, _⟩ := a
  cases se with
  | none => cases counts <;> simp [Band.start, Band.extend, Band.takeEnergy, Addition.asBand, bandCountUp, Config.maxBandCount]
  | some e =>
    have := h e rfl
    cases counts <;>
      simp [Band.start, Band.extend, Band.takeEnergy, Addition.asBand, bandCountUp, bandSumUp, Config.maxBandCount] <;> omega

/-- The more severe of two unlike classes (R79). -/
theorem BandClass.moreSevere_of_ne {a b : BandClass} (h : a ≠ b) : BandClass.moreSevere a b = some (a.worse b) := by
  cases a <;> cases b <;> first | exact absurd rfl h | decide

/-- Everything an addition can make of the band list (R78, R79). -/
theorem Profile.addBand_added (p : Profile) (a : Addition) (h : ∀ e, a.se = some e → e ≤ 65535) : p.Added a (p.addBand a) := by
  refine ⟨fun e => by simp [Profile.addBand, e, Band.start_extend a h], ?_, ?_, ?_⟩
  · intro l last e k
    have same : ({ last.extend a with cls := last.cls, isMerged := last.isMerged } : Band) = last.extend a := by
      obtain ⟨_, _, _, _, se, _, _, _⟩ := a; cases se <;> rfl
    refine ⟨last.extend a, same ▸ Band.extend_tookIn last a last.cls last.isMerged, ?_, ?_, by simp [Profile.addBand, e, k]⟩ <;>
      (obtain ⟨_, _, _, _, se, _, _, _⟩ := a; cases se <;> rfl)
  · intro l last e k n
    have : ¬31 ≤ l.length := by simp [e] at n; omega
    simp [Profile.addBand, e, k, Config.maxBands, Band.start_extend a h]; omega
  · intro l last e k n
    have : ¬l.length < 31 := by simp [e] at n; omega
    refine ⟨{ last.extend a with cls := last.cls.worse a.cls, isMerged := true }, Band.extend_tookIn last a _ _,
      BandClass.moreSevere_of_ne k, rfl, ?_⟩
    simp [Profile.addBand, e, k, Config.maxBands]; omega

/-- The reference after a COMPETENT interval, in numbers that do not go below 0 (R75). -/
theorem nextReference_eq (r e : Nat) :
    nextReference r e = if r ≤ e then max 1 (r + (e - r) / 8) else max 1 (r - (r - e) / 8) := by
  unfold nextReference
  split
  · have k : ((e : Int) - r) = ((e - r : Nat) : Int) := by omega
    simp only [k, show ((e - r : Nat) : Int).tdiv 8 = ((e - r) / 8 : Nat) from rfl]
    split <;> omega
  · have k : ((e : Int) - r) = -((r - e : Nat) : Int) := by omega
    simp only [k, Int.neg_tdiv, show ((r - e : Nat) : Int).tdiv 8 = ((r - e) / 8 : Nat) from rfl]
    split <;> omega

/-- Everything the close of an interval does (R71 to R80). -/
theorem Profile.closeInterval_closed (g : StrataFigures) (kind : CloseKind) (iv : Interval) (p : Profile) :
    p.Closed g kind iv (p.closeInterval g kind iv).1 (p.closeInterval g kind iv).2 := by
  constructor
  · intro h
    have k : p.frontier - iv.start = 0 := by omega
    refine ⟨by simp [Profile.closeInterval, Interval.energy, k, classify], ?_⟩
    simpa [Profile.closeInterval, Interval.energy, k, classify, markedSuspect] using
      Profile.addBand_added p
        { cls := .unknown, top := iv.start, bottom := p.frontier, counts := true, se := none,
          isPartial := decide (kind = .partialClose), isForced := decide (kind = .forced), isSuspect := false } (by simp)
  · intro h
    have k : p.frontier - iv.start ≠ 0 := by omega
    generalize hw : (if iv.workCount = 0 then 0
      else if iv.workCount < iv.samples then roundDiv (iv.sumWork * iv.samples) iv.workCount else iv.sumWork) = work
    have hs : iv.workScaled = work := hw
    have energy : iv.energy g.bit (p.frontier - iv.start) =
        some (min 65535
          ((if iv.forceCount = 0 then 0 else roundDiv (4096 * iv.sumForce) (3217 * g.bit ^ 2 * iv.forceCount)) +
            roundDiv (4 * work) (3 * g.bit ^ 2 * (p.frontier - iv.start)))) := by
      simp [Interval.energy, k, Interval.thrustTerm, Interval.rotaryTerm, hs]
    generalize he : min 65535
      ((if iv.forceCount = 0 then 0 else roundDiv (4096 * iv.sumForce) (3217 * g.bit ^ 2 * iv.forceCount)) +
        roundDiv (4 * work) (3 * g.bit ^ 2 * (p.frontier - iv.start))) = se at energy
    have bound : se ≤ 65535 := by omega
    have class_eq : classify g p.collarLimit p.refSE iv (some se) =
        (if iv.start < p.collarLimit then BandClass.collar
        else if iv.samples < 4 * iv.drops then .unknown
        else if 100 * se / p.refSE < g.voidPct then .void
        else if 100 * se / p.refSE < g.softPct then .soft
        else if 100 * se / p.refSE ≤ g.hardPct then .competent
        else .hard) := by
      simp only [classify, Interval.suspect, Nat.mul_comm iv.drops 4, decide_eq_true_eq]
      by_cases c1 : iv.start < p.collarLimit
      · simp [c1]
      · by_cases c2 : iv.samples < 4 * iv.drops
        · simp [c1, c2]
        · simp only [c1, c2, if_false]; rfl
    refine ⟨work, se, classify g p.collarLimit p.refSE iv (some se), rfl, he.symm, class_eq, by
      simp [Profile.closeInterval, energy], ?_⟩
    have mark : decide (p.collarLimit ≤ iv.start ∧ iv.samples < 4 * iv.drops) =
        markedSuspect p.collarLimit iv (some se) := by
      simp [markedSuspect, Interval.suspect, Nat.mul_comm iv.drops 4]
    rw [mark, ← nextReference_eq]
    generalize hc : classify g p.collarLimit p.refSE iv (some se) = c
    have whole : (p.closeInterval g kind iv).1 =
        Profile.addBand
          { p with lastSE := se, refSE := if c ≠ .competent then p.refSE else nextReference p.refSE se }
          { cls := c, top := iv.start, bottom := p.frontier, counts := true, se := some se,
            isPartial := decide (kind = .partialClose), isForced := decide (kind = .forced),
            isSuspect := markedSuspect p.collarLimit iv (some se) } := by
      simp only [Profile.closeInterval, energy, hc, Option.getD_some]
      cases c <;> simp
    rw [whole]
    exact Profile.addBand_added _ _ (by simpa using bound)

end Sys2Proof.Machine
end

