-- ==== Sys2Proof/Tests/Slice0.lean ====
section
/-! SUPPORT. The model's own tests: ill-formed commands refused, each command once or twice on a small state against a figure of
the spec, and a witness for each statement that has hypotheses. -/

namespace Sys2Proof.Tests

open Sys2Proof Sys2Proof.Machine
set_option Elab.async false

/-! ## Helpers -/

/-- The state a command leaves; the state itself where it leaves none. -/
def after (c : Instr) (s : State) : State :=
  match exec c s with
  | .next t => t
  | .fault _ => s
  | .refused _ => s

/-- Boom 4's recipe of the worked figures of 05_resin_mixing_and_tension.md, with boom 3's torque figures; the rest in range. -/
def recipe : Recipe :=
  { bitDiameter := 27, boltDiameter := 20, encapsulation := 1200, targetDepth := 1800, collarDepth := 30, expectedSE := 500,
    collarFeed := 300, collarRotation := 310, drillFeed := 500, drillRotation := 510, insertFeed := 200, mixFeed := 250,
    mixRotation := 800, torqueRotation := 600, thrustCeiling := 40000, cartDiameter := 23, cartLength := 600, waste := 15,
    maxCartridges := 4, mixRevs := 30, mixTimeMax := 12000, gelLimit := 15000, gelHold := 8000, targetTorque := 2750,
    torqueTimeout := 6000, nutFactor := 210, tensionMin := 700, tensionMax := 900 }

/-- What a hole of that recipe was given. -/
def plan : Plan := { holeId := 101, recipeSlot := 3, posTag := 1041, recipe := recipe, target := 18000, start := 100 }

/-- A hole in a phase. -/
def inPhase (p : Phase) : Hole := { Hole.start plan with phase := p, drilled := some 18000, resinStart := some 4000 }

/-- The part in RUN with drive-enable present, the line inactive, the recipe in slot 3, and nothing queued. -/
def rig : State :=
  { State.reset with
    mode := .run, drive := some true, driveLine := some true, retractLine := some false, clock := 5000,
    recipes := State.reset.recipes.set 3 (some recipe), link := { State.reset.link with modeReport := none } }

/-- Boom 2 with a level-0 context at a depth, a grant, and P0 4000. -/
def withBoom (a : Auto) (depth grant : Nat) (s : State) : State :=
  { s.setBoom .s2 { s.boom .s2 with
      auto := a, p0 := 4000, lastGood := { thrust := 18200, torque := 1210, speed := 480, position := 4000 + depth },
      profile := Profile.openFor recipe, chuck := .closed, feed := 77, rotation := 66 } with
    arbiter := { s.arbiter with
      grants := s.arbiter.grants.set .s2 grant, grantList := if grant = 0 then [] else [.boom .s2] } }

/-- Boom 2 with interventions above its context. -/
def under (m : Option ManualCtx) (r : Option RetractCtx) (s : State) : State :=
  s.setBoom .s2 { s.boom .s2 with manual := m, retract := r, awayDepth := (s.boom .s2).depth }

/-- Boom 2 with a loader handshake. -/
def loading (h : Handshake) (s : State) : State := s.setBoom .s2 { s.boom .s2 with handshake := h }

/-- Boom 2 drilling at 1500.0 mm under 45 L/min. -/
def drilling : State := withBoom (.cycle .active (inPhase .drilling)) 15000 45 rig

/-- A frame of boom 2. -/
def frame (k : FrameKind) (c : Cond) (posted : CondSet) (raisedIn phase : Phase) : ExFrame :=
  { slot := .s2, holeId := 101, kind := k, cause := c, current := 0, posted := posted, raisedIn := raisedIn, phase := phase,
    depth := 0, thrust := 0, torque := 0, speed := 0, lastSE := 0, refSE := 500, time := 4900, operand := 0 }

/-- Boom 2 stopped with a frame. -/
def stoppedBoom (f : ExFrame) (h : Hole) : State := withBoom (.exception f h) 15000 0 rig

/-- The same readings on every slot. -/
def readings (thrust torque speed position : Reading) : Four (Quad Reading) :=
  Four.fill { thrust := thrust, torque := torque, speed := speed, position := position }

/-- The status of the reply being transmitted. -/
def status (s : State) : Option Byte :=
  match s.link.sending with
  | some f => f.payload.head?
  | none => none

/-! ## Ill-formed commands -/

theorem test_wf_refuses_reading_above_range :
    (Instr.sampleTick true false (readings (.value 60001) .low .low .low)).wellFormed = false := by decide

theorem test_wf_refuses_position_above_range :
    (Instr.sampleTick true false (readings (.value 60000) (.value 5000) (.value 1200) (.value 30001))).wellFormed = false := by
  decide

theorem test_wf_takes_readings_at_range_ends :
    (Instr.sampleTick true false (readings (.value 60000) (.value 5000) (.value 1200) (.value 30000))).wellFormed = true := by
  decide

theorem test_wf_refuses_short_recipe : (Instr.loadRecipe 0 0 (List.replicate 27 0)).wellFormed = false := by decide

theorem test_wf_refuses_request_kind_as_unknown : (Instr.unknownKind 0x1E 0 []).wellFormed = false := by decide

theorem test_wf_refuses_payload_above_length_field :
    (Instr.frameReceived 1 0 (List.replicate 65536 0) 0).wellFormed = false := by
  have h : (List.replicate 65536 (0 : Byte)).length = 65536 := List.length_replicate
  show decide ((List.replicate 65536 (0 : Byte)).length < 65536) = false
  rw [h]; rfl

theorem test_wf_request_refuses_short_recipe : (Request.loadRecipe 0 []).wellFormed = false := by decide

/-! ## Resets, the tick and the machine inputs -/

/-- R185: power-on queues MODE with cause POWER and takes mode CONFIG. -/
theorem test_power_on : (after .powerOn drilling).mode = .config ∧ (after .powerOn drilling).link.modeReport = some .power := by
  decide +kernel

/-- R185: the warm restart keeps the recipes. -/
theorem test_warm_restart_keeps_recipes :
    (after .frameTransmitEnd (after (.restart 7) rig)).recipeAt 3 = some recipe ∧
      (after .warmRestart (after (.restart 7) rig)).restartCause = .restart := by decide +kernel

/-- 3.3, tick 2: LOW CLAMPed to 0 and HIGH HELD. -/
theorem test_sample_values_in_force :
    ((after (.sampleTick true false (readings .low .high (.value 480) (.value 19000))) drilling).boom .s2).inForce =
      { thrust := some 0, torque := some 1210, speed := some 480, position := some 19000 } := by decide +kernel

/-- 3.3, tick 4: a HIGH thrust CLAMPed to 60000 is at the ceiling, and the boom stops with OVER_THRUST. -/
theorem test_sample_over_thrust :
    ((after (.sampleTick true false (readings .high (.value 1230) (.value 470) (.value 19000))) drilling).boom .s2).view =
      { state := 2, phase := 2, sub := 0, level := 0 } := by decide +kernel

/-- R141: a fall stops an ACTIVE boom, and the grant of a DRILLING boom goes to 0. -/
theorem test_drive_fall :
    let s := after .driveEnableFall (after .driveEnableFall drilling)
    (s.boom .s2).view.state = 2 ∧ s.grant .s2 = 0 := by decide +kernel

/-- R57, R62: before the fall is read the outputs are zero, the handshake stands and a DONE counts. -/
theorem test_drive_fall_at_line :
    let s := after .driveEnableFall
      (loading (.outstanding .push 1 4990) (withBoom (.cycle .active { inPhase .resinLoad with planned := some 2 }) 0 10 rig))
    s.outputs .s2 = Outputs.rest ∧ (s.boom .s2).view.state = 1 ∧
      (((after (.loaderDone .s2) s).boom .s2).auto.hole.map Hole.loaded) = some 1 := by decide +kernel

/-- R57: a fall and a return between two ticks are no fall, and the boom drills on. -/
theorem test_drive_fall_unread :
    let s := after .driveEnableReturn (after .driveEnableFall drilling)
    s.drive = some true ∧ (s.boom .s2).auto = (drilling.boom .s2).auto ∧ (s.outputs .s2).feed = 77 := by decide +kernel

/-- R47: a return lets a held retract move at −RETRACT_FEED. -/
theorem test_drive_return :
    ((after .driveEnableReturn { withBoom (.abandoning .driveHeld (inPhase .drilling)) 15000 25 rig with
      drive := some false }).boom .s2).feed = -600 := by decide +kernel

/-- R160: an assertion in RUN puts every fitted boom at level 2. -/
theorem test_line_assert : ∀ b ∈ Slot.all, ((after .retractLineAssert drilling).boom b).level = 2 := by decide +kernel

/-- R160: a release pops nothing. -/
theorem test_line_release :
    ((after .retractLineRelease (after .retractLineAssert drilling)).boom .s2).level = 2 := by decide +kernel

/-! ## The loader and the timers -/

/-- R59: the INDEX's DONE closes the chuck on the bolt. -/
theorem test_loader_done_index :
    ((after (.loaderDone .s2) (loading (.outstanding .index 1 4990) (withBoom (.cycle .active (inPhase .boltLoad)) 0 10
      rig))).boom .s2).handshake = .none := by decide +kernel

/-- 3.5: the first FAULT makes the second attempt due, and a late DONE is ignored. -/
theorem test_loader_fault_then_late_done :
    ((after (.loaderDone .s2) (after (.loaderFault .s2) (loading (.outstanding .push 1 4990)
      (withBoom (.cycle .active (inPhase .resinLoad)) 0 10 rig)))).boom .s2).handshake = .reissueDue .push := by
  decide +kernel

/-- 3.5: 300 ticks after its issue a PUSH times out and the boom stops with LOADER_JAM. -/
theorem test_load_timeout :
    ((after (.loadTimeout .s2) (loading (.outstanding .push 2 4701) (withBoom (.cycle .active (inPhase .resinLoad)) 0 10
      rig))).boom .s2).view = { state := 2, phase := 4, sub := 0, level := 0 } := by decide +kernel

/-- R61: one tick earlier nothing happens. -/
theorem test_load_timeout_early :
    ((after (.loadTimeout .s2) (loading (.outstanding .push 2 4702) (withBoom (.cycle .active (inPhase .resinLoad)) 0 10
      rig))).boom .s2).view.state = 1 := by decide +kernel

/-- R37: the stall window's 150th tick. -/
theorem test_feed_stall :
    ((after (.feedStall .s2) (withBoom (.cycle .active { inPhase .drilling with stallTicks := 149 }) 15000 45 rig)).boom
      .s2).current = 0x20 := by decide +kernel

/-- R38: the retract timer's 1000th tick. -/
theorem test_retract_timeout :
    ((after (.retractTimeout .s2) (withBoom (.cycle .active { inPhase .retractDrill with retractTicks := 999 }) 15000 25
      rig)).boom .s2).current = 0x10 := by decide +kernel

/-- R47: the overdue flag of an abandon retract is set and shown. -/
theorem test_abandon_overdue :
    ((after (.abandonRetractOverdue .s2) (withBoom (.abandoning .active { inPhase .drilling with retractTicks := 999 }) 15000 25
      rig)).boom .s2).overdueShown = true := by decide +kernel

/-- R162: the same for a safety retract. -/
theorem test_safe_retract_overdue :
    ((after (.safeRetractOverdue .s2) (under none (some { sub := .active, ticks := 999, overdue := false })
      drilling)).boom .s2).overdueShown = true := by decide +kernel

/-- R95, R138: MIX_SHORT's operand is the resin age, here 1001 ticks. -/
theorem test_mix_short_operand :
    ((after (.mixShort .s2) (withBoom (.cycle .active { inPhase .mixing with mixStart := some 3801 }) 0 45 rig)).link.exceptionReport.get
      .s2).isNone = true ∧
    ((after (.mixShort .s2) (withBoom (.cycle .active { inPhase .mixing with mixStart := some 3801 }) 0 45 rig)).link.sending.map
      (fun f => f.payload.drop 31)) = some (le4 10010) := by decide +kernel

/-- R40: after 8000 ms HOLDING ends, and TORQUING asks for 35 L/min. -/
theorem test_hold_elapsed :
    (after (.holdTimerElapsed .s2) (withBoom (.cycle .active { inPhase .holding with mixEnd := some 4201 }) 0 5 rig)).grant
      .s2 = 35 := by decide +kernel

/-- R102, R104: 2000 N·m is 476, below 700, so the boom stops at the boundary on UNDER_TENSION. -/
theorem test_torque_timeout :
    ((after (.torqueTimeout .s2) (withBoom (.cycle .active { inPhase .torquing with torqueStart := some 4401, peak := 2000 }) 0
      35 rig)).boom .s2).posted = 0x2000 := by decide +kernel

/-- R96: the gel limit is marked at 1500 ticks. -/
theorem test_gel_limit :
    (((after (.gelLimitReached .s2) (withBoom (.cycle .active { inPhase .mixing with resinStart := some 3501 }) 0 45
      rig)).boom .s2).auto.hole.map Hole.gelReached) = some true := by decide +kernel

/-- R52: POSITION_LOST stops a boom in motion. -/
theorem test_position_lost :
    ((after (.positionLost .s2) (drilling.setBoom .s2 { drilling.boom .s2 with posLoss := 20 })).boom .s2).current = 0x4 := by
  decide +kernel

/-- Boom 2 waiting in DRILLING with nothing granted and the reserve holding the pump. -/
def starving : State :=
  let s := withBoom (.cycle .waitFlow (inPhase .drilling)) 15000 0 rig
  { s with
    arbiter :=
      { s.arbiter with
        reserve := 160, grantList := [.reserve]
        waitList :=
          [{ requester := .boom .s2, cls := .normal, demand := 45, join := 3000, waitStart := 3001, backedOff := false }] } }

/-- R122: masked, the wait is timed afresh. -/
theorem test_flow_starved_masked :
    (after (.flowStarved .s2) starving).arbiter.waitList.map WaitEntry.waitStart = [5001] := by decide +kernel

/-- R156: at MANUAL_HOLD feed and rotation fall to 0. -/
theorem test_manual_hold :
    ((after (.manualHoldExpiry .s2) (under (some { sub := .ready, hold := some 29, away := 0 }) none drilling)).boom
      .s2).feed = 0 := by decide +kernel

/-- Boom 2 drilling with an interval that holds its 4095 samples. -/
def fullInterval : State :=
  drilling.setBoom .s2 { drilling.boom .s2 with
    inForce := { thrust := some 18200, torque := some 1210, speed := some 480, position := some 19000 }
    profile := { Profile.openFor recipe with
      frontier := 14990,
      interval := some { start := 14990, samples := 4095, sumForce := 0, forceCount := 0, sumWork := 0, workCount := 0,
                         drops := 4095 } } }

/-- R69: an interval of 4095 samples that has not advanced closes as FORCED. -/
theorem test_forced_close :
    ((after (.intervalForcedClose .s2) fullInterval).boom .s2).profile.bands.map Band.isForced = [true] := by decide +kernel

/-! ## The link -/

/-- R194: at LINK_SILENCE the silence stops a moving boom. -/
theorem test_link_silent :
    ((after .linkSilent { drilling with link := { drilling.link with silenceTicks := 99 } }).boom .s2).current = 0x2 := by
  decide +kernel

/-- R189: the CRC check's own figure, as R189's rule gives it, lets GET_FLOW in. -/
theorem test_frame_received : status (after (.frameReceived 0x1A 7 [] (crc16 [0, 0, 0x1A, 7])) rig) = some 0 := by
  decide +kernel

/-- R187: a gap in a frame sends the assembler back to hunting. -/
theorem test_frame_gap :
    (after .frameGapTimeout { rig with link := { rig.link with assembler := .header [1] } }).link.assembler = .hunt := by
  decide +kernel

/-- R190: a kind that is no request kind is answered UNKNOWN_KIND, 8. -/
theorem test_unknown_kind : status (after (.unknownKind 0x1F 7 []) rig) = some 8 := by decide +kernel

/-- R193: MODE goes out before BOOM_STATUS. -/
theorem test_transmit_order :
    ((after .frameTransmitEnd { rig with link := { rig.link with
      sending := some { kind := 0x81, tag := 0, payload := [] }, modeReport := some .change,
      boomStatus := Four.fill true } }).link.sending.map Frame.kind) = some 0x72 := by decide +kernel

/-- R187: the marker starts a frame. -/
theorem test_byte_marker : (after (.byteReceived 0xC3) rig).link.assembler = .header [] := by decide +kernel

/-- R186, R204: GET_STATUS carries a status byte, 11 bytes and four boom blocks of 20. -/
theorem test_get_status : ((after (.getStatus 7) rig).link.sending.map (fun f => f.payload.length)) = some 92 := by
  decide +kernel

/-- R178: RUN to CONFIG with every boom quiescent changes at once. -/
theorem test_set_mode : (after (.setMode 7 0) rig).mode = .config := by decide +kernel

/-- R178, R179: with a boom at work the change waits. -/
theorem test_set_mode_waits : (after (.setMode 7 0) drilling).requested = some .config := by decide +kernel

/-- R185: RESTART is answered OK. -/
theorem test_restart : status (after (.restart 7) rig) = some 0 := by decide +kernel

/-! ## The Plan Store and the parameters -/

/-- The part in CONFIG. -/
def config : State := { rig with mode := .config }

/-- R184: an out-of-range value goes to the nearer end. -/
theorem test_set_param : (after (.setParam 7 2 500) config).params.pumpCapacity = 400 := by decide +kernel

/-- R184: outside CONFIG it is REFUSED_MODE, 10. -/
theorem test_set_param_mode : status (after (.setParam 7 2 100) rig) = some 10 := by decide +kernel

/-- R184: GET_PARAM of PUMP_CAPACITY. -/
theorem test_get_param : ((after (.getParam 7 2) rig).link.sending.map Frame.payload) = some [0, 160, 0, 0, 0] := by
  decide +kernel

/-- The recipe's fields with bolt diameter 20, waste 60 and max cartridges 8, as load 2 of 1.2 sends them. -/
def secondLoad : List Half := ({ recipe with waste := 60, maxCartridges := 8 } : Recipe).toList.map (BitVec.ofNat 16)

/-- 1.2, load 2: CLAMPED, with waste 50 and max cartridges 6. -/
theorem test_load_recipe_clamps :
    (after (.loadRecipe 7 4 secondLoad) config).recipeAt 4 = some { recipe with waste := 50, maxCartridges := 6 } ∧
      status (after (.loadRecipe 7 4 secondLoad) config) = some 1 := by decide +kernel

/-- 1.2, load 1: bolt diameter 26 fails the relation, 9, and slot 4 stays empty. -/
theorem test_load_recipe_relation :
    status (after (.loadRecipe 7 4 (({ recipe with boltDiameter := 26 } : Recipe).toList.map (BitVec.ofNat 16))) config) =
      some 9 := by decide +kernel

/-- R7: a recipe slot is emptied; 1.5, row 10: not in RUN. -/
theorem test_clear_recipe :
    (after (.clearRecipe 7 3) config).recipeAt 3 = none ∧ status (after (.clearRecipe 7 3) rig) = some 10 := by decide +kernel

/-- R8: a holding slot is read whole, an empty one gives EMPTY, 13. -/
theorem test_get_recipe :
    ((after (.getRecipe 7 3) rig).link.sending.map (fun f => f.payload.length)) = some 57 ∧
      status (after (.getRecipe 7 5) rig) = some 13 := by decide +kernel

/-- Rows 1 and 2 of 1.5: holes 101 and 102 (2600) on boom 2. -/
def queued : State :=
  let held : List QueueEntry :=
    [{ holeId := 101, recipeSlot := 3, posTag := 1041, depth := none },
     { holeId := 102, recipeSlot := 3, posTag := 1042, depth := some 2600 }]
  { rig with queues := rig.queues.set .s2 held }

/-- 1.5, row 5: an override of 400 is raised to 1200. -/
theorem test_queue_hole_clamps :
    ((after (.queueHole 7 2 103 3 1043 (some 400)) queued).queues.get .s2).map QueueEntry.depth =
      [none, some 2600, some 1200] := by decide +kernel

/-- 1.5, row 3: DUPLICATE, 14, whatever the boom. -/
theorem test_queue_hole_duplicate : status (after (.queueHole 7 1 102 3 1042 none) queued) = some 14 := by decide +kernel

/-- 1.5, rows 7 and 8: 102 leaves the queue, and 101 in a hole is REFUSED_STATE, 11. -/
theorem test_cancel_hole :
    ((after (.cancelHole 7 102) queued).queues.get .s2).map QueueEntry.holeId = [101] ∧
      status (after (.cancelHole 7 101) drilling) = some 11 := by decide +kernel

/-- R15: the queue is emptied and the count carried. -/
theorem test_flush_queue :
    (after (.flushQueue 7 2) queued).queues.get .s2 = [] ∧
      ((after (.flushQueue 7 2) queued).link.sending.map Frame.payload) = some [0, 2] := by decide +kernel

/-- R16, R201: two entries, of 6 and 8 bytes. -/
theorem test_get_queue : ((after (.getQueue 7 2) queued).link.sending.map (fun f => f.payload.length)) = some 16 := by
  decide +kernel

/-! ## Holes -/

/-- 1.5, row 6: GO takes 101, and COLLARING starts under 30 L/min. -/
theorem test_go :
    ((after (.go 7 2) queued).boom .s2).auto.holeId = some 101 ∧ (after (.go 7 2) queued).grant .s2 = 30 := by decide +kernel

/-- R46: an abandoned boom retracts at −RETRACT_FEED. -/
theorem test_abandon : ((after (.abandon 7 2) drilling).boom .s2).feed = -600 := by decide +kernel

/-- R130: a set that names DRIVE_LOST is BAD_ARG, 9; FLOW_STARVED alone is stored. -/
theorem test_set_enables :
    status (after (.setEnables 7 2 1) rig) = some 9 ∧ ((after (.setEnables 7 2 0x200) rig).boom .s2).enabled = 0x200 := by
  decide +kernel

/-- Boom 2 stopped before RETRACT_DRILL on POOR_ANCHOR, with two cartridges planned. -/
def poorAnchor : State :=
  stoppedBoom (frame .prePhase .poorAnchor 0x800 .drilling .retractDrill)
    { inPhase .retractDrill with computed := some 2, planned := some 2 }

/-- R144: CONTINUE enters the next phase. -/
theorem test_resolve_continue :
    ((after (.resolveContinue 7 2 none) poorAnchor).boom .s2).view = { state := 1, phase := 3, sub := 2, level := 0 } := by
  decide +kernel

/-- R148: SET_CARTRIDGES(4) plans four, the computed count staying 2 (the last case of 5.3). -/
theorem test_resolve_set_cartridges :
    (((after (.resolveSetCartridges 7 2 (some 4)) poorAnchor).boom .s2).auto.hole.map (fun h => (h.planned, h.computed))) =
      some (some 4, some 2) := by decide +kernel

/-- Boom 2 stopped before RELEASING on UNDER_TENSION after a number of retorques. -/
def underTension (n : Nat) : State :=
  stoppedBoom (frame .prePhase .underTension 0x2000 .torquing .releasing) { inPhase .releasing with retorques := n }

/-- R106: a second retorque is taken, a third is TOO_LATE, 18. -/
theorem test_resolve_retry :
    ((after (.resolveRetry 7 2 none) (underTension 1)).boom .s2).view.phase = 9 ∧
      status (after (.resolveRetry 7 2 none) (underTension 2)) = some 18 := by decide +kernel

/-- R149: ABANDON of a stopped hole retracts. -/
theorem test_resolve_abandon : ((after (.resolveAbandon 7 2 none) poorAnchor).boom .s2).view.state = 3 := by decide +kernel

/-- R140: the stacked mark and the 35-byte frame. -/
theorem test_get_frame : ((after (.getFrame 7 2) poorAnchor).link.sending.map (fun f => f.payload.length)) = some 37 := by
  decide +kernel

/-- R86: an open profile is read; an EMPTY one gives EMPTY, 13. -/
theorem test_get_profile :
    status (after (.getProfile 7 2) drilling) = some 0 ∧ status (after (.getProfile 7 2) rig) = some 13 := by decide +kernel

/-! ## Interventions -/

/-- R154, R155: a takeover of a drilling boom is READY with 40 L/min. -/
theorem test_takeover :
    ((after (.takeover 7 2) drilling).boom .s2).view = { state := 6, phase := 0, sub := 7, level := 1 } ∧
      (after (.takeover 7 2) drilling).grant .s2 = 40 := by decide +kernel

/-- Boom 2 drilling under a takeover that is READY. -/
def taken : State := under (some { sub := .ready, hold := none, away := 0 }) none drilling

/-- R156: a drive of −5 per-mille. -/
theorem test_manual_drive : ((after (.manualDrive 7 2 0xFFFB 3 0) taken).boom .s2).feed = -5 := by decide +kernel

/-- R158, R166: an unmoved drilling boom drills on. -/
theorem test_handback : ((after (.handback 7 2) taken).boom .s2).view = { state := 1, phase := 2, sub := 2, level := 0 } := by
  decide +kernel

/-- R161: a safety retract of a drilling boom retracts under 25 L/min. -/
theorem test_safe_retract :
    ((after (.safeRetract 7 2) drilling).boom .s2).feed = -600 ∧ (after (.safeRetract 7 2) drilling).grant .s2 = 25 := by
  decide +kernel

/-- Boom 2 with a retract at rest over its context. -/
def atRest (a : Auto) (m : Option ManualCtx) : State :=
  under m (some { sub := .retracted, ticks := 0, overdue := false }) (withBoom a 0 0 rig)

/-- R163: with the line inactive the retract ends; asserted, it is CAUSE_PRESENT, 17. -/
theorem test_retract_clear :
    ((after (.retractClear 7 2) (atRest .idle none)).boom .s2).level = 0 ∧
      status (after (.retractClear 7 2) { atRest .idle none with retractLine := some true }) = some 17 := by decide +kernel

/-! ## Flow and the log -/

/-- The start of the worked case of 6.11: booms 1 to 3 with 45 each, granted in the order 3, 1, 2. -/
def flowCase : State :=
  let busy := fun (p : Phase) => { Boom.fresh with auto := .cycle .active (inPhase p) }
  { rig with
    booms := { b1 := busy .mixing, b2 := busy .retractDrill, b3 := busy .drilling, b4 := busy .drilling }
    arbiter :=
      { grants := { b1 := 45, b2 := 25, b3 := 45, b4 := 45 }, reserve := 0,
        grantList := [.boom .s3, .boom .s1, .boom .s2, .boom .s4], waitList := [] } }

/-- 6.11, row 4: RESERVE_FLOW(40) backs boom 4 off and is granted. -/
theorem test_reserve_flow :
    (after (.reserveFlow 7 40) flowCase).arbiter =
      { grants := { b1 := 45, b2 := 25, b3 := 45, b4 := 0 }, reserve := 40,
        grantList := [.boom .s3, .boom .s1, .boom .s2, .reserve],
        waitList :=
          [{ requester := .boom .s4, cls := .normal, demand := 45, join := 5000, waitStart := 5000, backedOff := true }] } := by
  decide +kernel

/-- 6.11: had the rig asked for 160, the reserve would wait, 2, and no boom be backed off. -/
theorem test_reserve_flow_waits :
    status (after (.reserveFlow 7 160) flowCase) = some 2 ∧ (after (.reserveFlow 7 160) flowCase).grant .s4 = 45 := by
  decide +kernel

/-- 6.11, row 7 from row 4: the release lets boom 4 drill again with its 45. -/
theorem test_release_flow :
    (after (.releaseFlow 7) (after .frameTransmitEnd (after (.reserveFlow 7 40) flowCase))).grant .s4 = 45 := by
  decide +kernel

/-- R126: capacity 160 and free flow 0 lead the reply. -/
theorem test_get_flow : ((after (.getFlow 7) flowCase).link.sending.map (fun f => f.payload.take 5)) = some [0, 160, 0, 0, 0] := by
  decide +kernel

/-- A record. -/
def record : BoltRecord := (drilling.boom .s2).holeRecord .s2 (inPhase .releasing) 4000

/-- Two records in the log. -/
def logged : State := { rig with log := [{ record with seq := 5 }, { record with seq := 6 }], nextSeq := 7 }

/-- R173: FETCH_RECORD reads the oldest, and an empty log gives EMPTY, 13. -/
theorem test_fetch_record :
    ((after (.fetchRecord 7) logged).link.sending.map (fun f => f.payload.take 5)) = some [0, 5, 0, 0, 0] ∧
      status (after (.fetchRecord 7) rig) = some 13 := by decide +kernel

/-- R174: DROP_RECORD drops the oldest. -/
theorem test_drop_record : (after (.dropRecord 7) logged).log.map BoltRecord.seq = [6] := by decide +kernel

/-- The part in OBSERVE. -/
def observe : State := { rig with mode := .observe }

/-- Boom 2 observing. -/
def observing : State := { withBoom (.observing plan) 15000 0 rig with mode := .observe }

/-- R181: a marked boom is OBSERVING. -/
theorem test_mark_start : ((after (.markStart 7 2 9 3 4) observe).boom .s2).view.state = 5 := by decide +kernel

/-- R171, R183: MARK_END logs a LOGGED record under the next sequence number. -/
theorem test_mark_end :
    (after (.markEnd 7 2) observing).log.map (fun r => (r.seq, r.verdict)) = [(1, .logged)] := by decide +kernel

/-! ## Arithmetic -/

/-- 4.6: the bands and the reference after the first four closes, from their SEs. -/
theorem test_reference : nextReference 500 566 = 508 ∧ nextReference 508 470 = 504 := by decide

/-- 4.6: a full list takes a COMPETENT interval into its SOFT last band, MERGED. -/
theorem test_merge :
    (({ Profile.openFor recipe with
        bands := List.replicate 32 { cls := .soft, top := 14200, bottom := 14420, count := 1, seCount := 1, seMin := some 240,
                                     seMax := some 240, seSum := 240, isPartial := false, isForced := false,
                                     isSuspect := false, isMerged := false } } : Profile).addBand
      { cls := .competent, top := 14420, bottom := 14630, counts := true, se := some 530, isPartial := false,
        isForced := false, isSuspect := false }).bands.getLast? =
      some { cls := .soft, top := 14200, bottom := 14630, count := 2, seCount := 2, seMin := some 240, seMax := some 530,
             seSum := 770, isPartial := false, isForced := false, isSuspect := false, isMerged := true } := by
  decide +kernel

/-! ## Witnesses: states and operands that meet the hypotheses of each statement -/

theorem witness_StepRunsFrontCommand : State.reset.pending = [] := rfl

/-- RESTART taken, its reply being transmitted. -/
def restarting : State := after (.restart 7) rig

theorem witness_WarmRestartValues :
    restarting.link.restarting = true ∧ restarting.link.reply = none ∧
      restarting.link.sending = some { kind := 0x83, tag := 7, payload := [0] } := by decide +kernel

theorem witness_RestartTakesNoMore :
    (rig.ready ∧ rig.settled) ∧ restarting.link.restarting = true ∧
      (Request.go 2).payload.length + 7 ≤ restarting.link.room := by decide +kernel

theorem witness_RestartTakesNoMore_carries : (Instr.go 7 2).carries 7 (.go 2) := ⟨rfl, rfl⟩

theorem witness_SampleTickReads :
    rig.unhurried ∧
      readingsInRange { thrust := .value 60000, torque := .value 5000, speed := .value 1200, position := .value 30000 } = true ∧
      readingsInRange { thrust := .value 0, torque := .value 0, speed := .value 0, position := .value 0 } = true ∧
      readingsInRange { thrust := .low, torque := .high, speed := .low, position := .high } = true ∧
      rig.fits .s4 = true := by decide +kernel

/-- Boom 2 one tenth of a millimetre short of its target. -/
def nearTarget : State := withBoom (.cycle .active (inPhase .drilling)) 17999 45 rig

theorem witness_DrillingSampleGoesOn :
    (nearTarget.boom .s2).running = some (.active, inPhase .drilling) ∧ (inPhase .drilling).phase = .drilling ∧
      nearTarget.stopCause .s2
        (nearTarget.activeConds .s2 ((inPhase .drilling).sampleTimers (nearTarget.depth .s2) nearTarget.clock)) = none ∧
      nearTarget.depth .s2 < plan.target := by decide +kernel

/-- Booms 1 to 4 drilling, waiting, retracting from an abandoned hole, and under a takeover. -/
def mixed : State :=
  { rig with
    booms :=
      { b1 := { Boom.fresh with auto := .cycle .active (inPhase .mixing) }
        b2 := { Boom.fresh with auto := .cycle .waitFlow (inPhase .drilling) }
        b3 := { Boom.fresh with auto := .abandoning .active (inPhase .drilling) }
        b4 := { Boom.fresh with manual := some { sub := .ready, hold := some 3, away := 0 } } } }

/-- A state whose drive-enable input has fallen and is not read yet. -/
def fallen (s : State) : State := { s with driveLine := some false }

/-- Booms 1 to 4 re-engaging, backed off, retracting for safety, and stopped. -/
def mixed2 : State :=
  { rig with
    booms :=
      { b1 := { Boom.fresh with auto := .cycle .reEngage (inPhase .holding) }
        b2 := { Boom.fresh with auto := .cycle .backedOff (inPhase .drilling) }
        b3 := { Boom.fresh with retract := some { sub := .active, ticks := 4, overdue := false } }
        b4 := { Boom.fresh with
          auto := .exception (frame .inPhase .feedStall 0 .drilling .drilling) (inPhase .drilling) } } }

theorem witness_DriveFallStopsMotion :
    ((fallen mixed).drive = some true ∧ (fallen mixed).driveLine = some false ∧ (fallen mixed).flowQuiet ∧ (fallen mixed).unhurried ∧
        (fallen mixed).requested = none) ∧
      ((fallen mixed2).drive = some true ∧ (fallen mixed2).driveLine = some false ∧ (fallen mixed2).flowQuiet ∧ (fallen mixed2).unhurried ∧
        (fallen mixed2).requested = none) ∧
      (mixed.fits .s1 = true ∧ (mixed.boom .s1).running = some (.active, inPhase .mixing)) ∧
      (mixed2.fits .s1 = true ∧ (mixed2.boom .s1).running = some (.reEngage, inPhase .holding)) ∧
      (mixed.boom .s2).running = some (.waitFlow, inPhase .drilling) ∧
      (mixed2.boom .s2).running = some (.backedOff, inPhase .drilling) ∧
      ((mixed.boom .s3).level = 0 ∧ (mixed.boom .s3).auto = .abandoning .active (inPhase .drilling)) ∧
      ((mixed.boom .s4).level = 1 ∧ (mixed.boom .s4).manual = some { sub := .ready, hold := some 3, away := 0 }) ∧
      (mixed2.boom .s3).retract = some { sub := .active, ticks := 4, overdue := false } := by decide +kernel

/-- A retract of each kind held for want of drive-enable, and a boom stopped in its hole. -/
def held : State :=
  { rig with
    drive := some false
    booms :=
      { b1 := { Boom.fresh with auto := .abandoning .driveHeld (inPhase .drilling) }
        b2 := { Boom.fresh with retract := some { sub := .driveHeld, ticks := 4, overdue := false } }
        b3 := { Boom.fresh with auto := .cycle .waitFlow (inPhase .drilling) }
        b4 := Boom.fresh } }

theorem witness_DriveReturnResumesRetracts :
    (held.drive = some false ∧ held.driveLine = some true ∧ held.unhurried ∧ held.requested = none) ∧
      (held.fits .s1 = true ∧ (held.boom .s1).level = 0 ∧
        (held.boom .s1).auto = .abandoning .driveHeld (inPhase .drilling)) ∧
      (held.fits .s2 = true ∧ (held.boom .s2).retract = some { sub := .driveHeld, ticks := 4, overdue := false }) ∧
      (held.fits .s3 = true ∧ (held.boom .s3).running = some (.waitFlow, inPhase .drilling)) := by decide +kernel

theorem witness_RetractLineSweeps :
    (mixed2.unhurried ∧ mixed2.retractLine = some false ∧ mixed2.mode = .run ∧ mixed2.requested = none ∧
      (mixed2.boom .s3).level = 2 ∧ (mixed2.boom .s4).level ≠ 2 ∧ mixed2.fits .s4 = true) ∧
      (config.unhurried ∧ config.settled ∧ config.retractLine = some false ∧ config.mode ≠ .run) ∧
      (({ rig with retractLine := some true } : State).settled ∧
        ({ rig with retractLine := some true } : State).unhurried) := by decide +kernel

/-- Boom 2 loading, with a handshake. -/
def pushing (p : Phase) (h : Handshake) : State := loading h (withBoom (.cycle .active (inPhase p)) 0 10 rig)

theorem witness_LoaderAnswers :
    ((pushing .resinLoad (.outstanding .push 1 4990)).fits .s2 = true ∧
      (pushing .resinLoad (.outstanding .push 1 4990)).unhurried ∧
      ((pushing .resinLoad (.outstanding .push 1 4990)).boom .s2).running = some (.active, inPhase .resinLoad) ∧
      ((pushing .resinLoad (.outstanding .push 1 4990)).boom .s2).handshake = .outstanding .push 1 4990 ∧
      (pushing .resinLoad (.outstanding .push 1 4990)).settled) ∧
      (((pushing .boltLoad (.outstanding .index 2 4990)).boom .s2).running = some (.active, inPhase .boltLoad) ∧
        ((pushing .boltLoad (.outstanding .index 2 4990)).boom .s2).handshake = .outstanding .index 2 4990 ∧
        (pushing .boltLoad (.outstanding .index 2 4990)).unhurried ∧
        (pushing .boltLoad (.outstanding .index 2 4990)).waitsAlone .s2) := by decide +kernel

theorem witness_LoaderAnswers_ignored :
    (pushing .resinLoad (.reissueDue .push)).settled ∧
      ∀ c n t, ((pushing .resinLoad (.reissueDue .push)).boom .s2).handshake ≠ .outstanding c n t := by
  refine ⟨by decide +kernel, fun c n t => ?_⟩
  have h : ((pushing .resinLoad (.reissueDue .push)).boom .s2).handshake = .reissueDue .push := by decide +kernel
  rw [h]; nofun

/-- Boom 2 in a cycle with a hole, at the depth of its collar. -/
def running (h : Hole) : State := withBoom (.cycle .active h) 0 45 rig

theorem witness_TimersStopTheBoom :
    (drilling.fits .s2 = true ∧ drilling.unhurried ∧ drilling.waitsAlone .s2 ∧
      (drilling.boom .s2).running = some (.active, inPhase .drilling)) ∧
      ((pushing .resinLoad (.outstanding .push 2 4701)).boom .s2).handshake = .outstanding .push 2 4701 ∧
      rig.params.loadTimeout ≤ 10 * ticksSince (rig.clock + 1) 4701 ∧
      2 * rig.params.loadTimeout ≤ 10 * ticksSince (rig.clock + 1) 4401 ∧
      rig.params.stallWindow ≤ 10 * (149 + 1) ∧ rig.params.retractTimeout ≤ 10 * (999 + 1) ∧
      ((running { inPhase .drilling with stallTicks := 149 }).boom .s2).running =
        some (.active, { inPhase .drilling with stallTicks := 149 }) ∧
      ((running { inPhase .releasing with retractTicks := 999, releaseFeeding := true }).boom .s2).running =
        some (.active, { inPhase .releasing with retractTicks := 999, releaseFeeding := true }) ∧
      ({ inPhase .mixing with mixStart := some 3801 } : Hole).mixDone rig.params 0 = false ∧
      recipe.mixTimeMax ≤ 10 * ticksSince (rig.clock + 1) 3801 ∧
      ((running { inPhase .mixing with mixStart := some 3801 }).boom .s2).running =
        some (.active, { inPhase .mixing with mixStart := some 3801 }) ∧
      ((drilling.setBoom .s2 { drilling.boom .s2 with posLoss := 20 }).boom .s2).posLoss = 20 := by decide +kernel

theorem witness_StarvationMaskedOrEnabled :
    (starving.fits .s2 = true ∧ starving.unhurried ∧ starving.settled ∧
      (starving.boom .s2).running = some (.waitFlow, inPhase .drilling) ∧
      starving.arbiter.waitList =
        [{ requester := .boom .s2, cls := .normal, demand := 45, join := 3000, waitStart := 3001, backedOff := false }] ∧
      starving.params.waitLimit ≤ 10 * ticksSince (starving.clock + 1) 3001) ∧
      CondSet.has (starving.boom .s2).enabled .flowStarved = false ∧
      CondSet.has ((starving.setBoom .s2 { starving.boom .s2 with enabled := 0x200 }).boom .s2).enabled .flowStarved = true ∧
      (starving.setBoom .s2 { starving.boom .s2 with enabled := 0x200 }).settled := by decide +kernel

/-- Boom 2 at the end of its hold, with a grant. -/
def holding (grant : Nat) : State := withBoom (.cycle .active { inPhase .holding with mixEnd := some 4201 }) 0 grant rig

theorem witness_HoldTimerEntersTorquing :
    ((holding 5).fits .s2 = true ∧ (holding 5).unhurried ∧ (holding 5).flowQuiet ∧
      ((holding 5).boom .s2).running = some (.active, { inPhase .holding with mixEnd := some 4201 }) ∧
      recipe.gelHold ≤ 10 * ticksSince (rig.clock + 1) 4201 ∧ ((holding 5).boom .s2).posted = 0 ∧
      (holding 5).drive = some true ∧ (holding 5).link.silent = false) ∧
      min rig.params.demandTorquing rig.params.pumpCapacity ≤ (holding 35).grant .s2 := by decide +kernel

/-- Boom 2 at its torque timeout, under an enable set. -/
def torquing (e : CondSet) : State :=
  let s := withBoom (.cycle .active { inPhase .torquing with torqueStart := some 4401, peak := 2000, torqueRun := [2750, 2760] })
    0 25 rig
  s.setBoom .s2 { s.boom .s2 with enabled := e }

theorem witness_TorqueTimeoutEndsOnPeak :
    ((torquing 0).fits .s2 = true ∧ (torquing 0).unhurried ∧ (torquing 0).flowQuiet ∧
      ((torquing 0).boom .s2).running =
        some (.active, { inPhase .torquing with torqueStart := some 4401, peak := 2000, torqueRun := [2750, 2760] }) ∧
      recipe.torqueTimeout ≤ 10 * ticksSince (rig.clock + 1) 4401 ∧ (torquing 0).drive = some true ∧
      (torquing 0).link.silent = false ∧
      min rig.params.demandReleasing rig.params.pumpCapacity ≤ (torquing 0).grant .s2) ∧
      (tensionOf recipe 2000 < recipe.tensionMin ∧ ((torquing 0).boom .s2).posted = 0 ∧
        ((torquing 0).boom .s2).enabled = 0) ∧
      (((torquing 0x400).boom .s2).posted = 0 ∧
        CondSet.has ((torquing 0x400).boom .s2).enabled .torqueTimeout = true) := by decide +kernel

theorem witness_GelLimitIsMarked :
    ((running { inPhase .mixing with resinStart := some 3501 }).fits .s2 = true ∧
      (running { inPhase .mixing with resinStart := some 3501 }).unhurried ∧
      recipe.gelLimit ≤ 10 * ticksSince (rig.clock + 1) 3501 ∧
      ((running { inPhase .mixing with resinStart := some 3501 }).boom .s2).auto =
        .cycle .active { inPhase .mixing with resinStart := some 3501 }) ∧
      ((stoppedBoom (frame .inPhase .mixShort 0 .mixing .mixing) { inPhase .mixing with resinStart := some 3501 }).boom
        .s2).auto =
        .exception (frame .inPhase .mixShort 0 .mixing .mixing) { inPhase .mixing with resinStart := some 3501 } := by
  decide +kernel

theorem witness_InterventionTimersRunOut :
    (rig.params.retractTimeout ≤ 10 * (999 + 1) ∧ rig.params.manualHold ≤ 10 * (29 + 1)) ∧
      (((withBoom (.abandoning .active { inPhase .drilling with retractTicks := 999 }) 0 25 rig).boom .s2).level = 0 ∧
        ((withBoom (.abandoning .active { inPhase .drilling with retractTicks := 999 }) 0 25 rig).boom .s2).auto =
          .abandoning .active { inPhase .drilling with retractTicks := 999 }) ∧
      ((under none (some { sub := .active, ticks := 999, overdue := false }) drilling).boom .s2).retract =
        some { sub := .active, ticks := 999, overdue := false } ∧
      (((under (some { sub := .ready, hold := some 29, away := 0 }) none drilling).boom .s2).retract = none ∧
        ((under (some { sub := .ready, hold := some 29, away := 0 }) none drilling).boom .s2).manual =
          some { sub := .ready, hold := some 29, away := 0 }) ∧
      (under none none drilling).fits .s2 = true ∧ (under none none drilling).unhurried := by decide +kernel

theorem witness_ForcedCloseStartsAfresh :
    fullInterval.fits .s2 = true ∧ fullInterval.unhurried ∧
      (fullInterval.boom .s2).running = some (.active, inPhase .drilling) ∧
      (fullInterval.boom .s2).profile.cond = .opened ∧
      (fullInterval.boom .s2).profile.interval =
        some { start := 14990, samples := 4095, sumForce := 0, forceCount := 0, sumWork := 0, workCount := 0, drops := 4095 } ∧
      (fullInterval.boom .s2).profile.frontier < 14990 + 10 * fullInterval.params.profileInterval := by decide +kernel

/-- A part at the last tick before silence. -/
def quietLink (s : State) : State := { s with link := { s.link with silenceTicks := 99 } }

theorem witness_SilenceStopsMovingBooms :
    ((quietLink mixed).link.silent = false ∧ (quietLink mixed).params.linkSilence ≠ 0 ∧
      (quietLink mixed).params.linkSilence ≤ 10 * ((quietLink mixed).link.silenceTicks + 1) ∧ (quietLink mixed).flowQuiet ∧
      (quietLink mixed).unhurried ∧ (quietLink mixed).requested = none) ∧
      ((quietLink mixed).boom .s1).running = some (.active, inPhase .mixing) ∧
      ((quietLink mixed2).boom .s1).running = some (.reEngage, inPhase .holding) ∧
      (((quietLink mixed).boom .s4).level = 1 ∧ (quietLink mixed).fits .s4 = true) ∧
      (((quietLink mixed2).boom .s3).level = 2 ∧ (quietLink mixed2).fits .s3 = true) ∧
      ((quietLink mixed2).boom .s4).level = 0 := by decide +kernel

theorem witness_SilenceStopsMovingBooms_others :
    (∀ h, ((quietLink mixed2).boom .s4).auto ≠ .cycle .active h) ∧
      ∀ h, ((quietLink mixed2).boom .s4).auto ≠ .cycle .reEngage h := by
  have k : ((quietLink mixed2).boom .s4).auto =
    .exception (frame .inPhase .feedStall 0 .drilling .drilling) (inPhase .drilling) := by decide +kernel
  rw [k]
  refine ⟨fun h => ?_, fun h => ?_⟩ <;> nofun

theorem witness_FrameCarriesItsRequest :
    (Instr.go 7 2).carries 7 (.go 2) ∧ (Instr.resolveRetry 7 2 none).carries 7 (.resolve 2 1 none) ∧ rig.settled :=
  ⟨⟨rfl, rfl⟩, ⟨rfl, rfl⟩, by decide +kernel⟩

theorem witness_BadFramesLeaveNoTrace :
    rig.settled ∧ rig.unhurried ∧ crc16 (crcSpan 0x1A 7 []) ≠ 0 ∧ 505 < (List.replicate 506 (0 : Byte)).length ∧
      rig.link.assembler = .hunt ∧ (0xC2 : Byte) ≠ 0xC3 := by decide +kernel

theorem witness_OddFramesAreAnswered :
    rig.ready ∧ rig.settled ∧ (List.replicate 505 (0 : Byte)).length ≤ 505 ∧ isRequestKind 0 = false ∧
      isRequestKind 0x1F = false ∧ decodeRequest 0x1E [] = .badLength ∧
      decodeRequest 1 (List.replicate 505 0) = .badLength := by decide +kernel

theorem witness_BytesMakeTheFrame :
    rig.link.assembler = .hunt ∧ (List.replicate 1024 (0 : Byte)).length ≤ 1024 := by decide +kernel

/-- A part whose transmitter sends, with some report slots full. -/
def talking (e : Four (Option ExFrame)) (m : Option ModeCause) (f r : Bool) (b : Four Bool) (reply : Option Frame) : State :=
  { rig with
    link :=
      { rig.link with
        sending := some { kind := 0x81, tag := 0, payload := [] }, exceptionReport := e, modeReport := m, flowGranted := f,
        recordReady := r, boomStatus := b, reply := reply } }

theorem witness_TransmitterChoosesInOrder :
    (∀ e m f r b q, (talking e m f r b q).link.sending = some { kind := 0x81, tag := 0, payload := [] } ∧
      (talking e m f r b q).link.restarting = false ∧ (talking e m f r b q).unhurried) ∧
      (∀ e m f r b q, (talking e m f r b q).link.reply = q ∧ (talking e m f r b q).link.exceptionReport = e ∧
        (talking e m f r b q).link.modeReport = m ∧ (talking e m f r b q).link.flowGranted = f ∧
        (talking e m f r b q).link.recordReady = r ∧ (talking e m f r b q).link.boomStatus = b) ∧
      (∀ c, slotNum c < slotNum .s4 → ((Four.fill none).set .s4 (some 0)).get c = (none : Option Nat)) ∧
      (∀ c, slotNum c < slotNum .s4 → ((Four.fill false).set .s4 true).get c = false) :=
  ⟨fun _ _ _ _ _ _ => ⟨rfl, rfl, rfl⟩, fun _ _ _ _ _ _ => ⟨rfl, rfl, rfl, rfl, rfl, rfl⟩,
    fun c h => by cases c <;> first | rfl | exact absurd h (by decide),
    fun c h => by cases c <;> first | rfl | exact absurd h (by decide)⟩

theorem witness_RequestsWaitTheirTurn :
    (Instr.getFlow 7).carries 7 .getFlow ∧
      (talking (Four.fill none) none false false (Four.fill false) (some { kind := 0x81, tag := 1, payload := [] })).settled ∧
      (Request.getFlow).payload.length + 7 ≤
        (talking (Four.fill none) none false false (Four.fill false) (some { kind := 0x81, tag := 1, payload := [] })).link.room :=
  ⟨⟨rfl, rfl⟩, by decide +kernel, by decide +kernel⟩

theorem witness_RequestsSurviveEncoding :
    (Request.loadRecipe 15 (List.replicate 28 0xFFFF)).wellFormed = true ∧
      (Request.queueHole 4 0xFFFF 15 0xFFFF 1 (some 0xFFFF)).wellFormed = true := by decide

theorem witness_RefusalsChangeNothing : 8 ≤ (handleRequest (.go 0) rig).2.status.code := by decide +kernel

theorem witness_DeviceAndPlanReads : rig.ready ∧ rig.settled := by decide +kernel

theorem witness_HoleReads :
    rig.ready ∧ rig.settled ∧ poorAnchor.ready ∧ poorAnchor.settled ∧ poorAnchor.slotOf 2 = some .s2 ∧
      (poorAnchor.boom .s2).auto =
        .exception (frame .prePhase .poorAnchor 0x800 .drilling .retractDrill)
          { inPhase .retractDrill with computed := some 2, planned := some 2 } ∧
      rig.slotOf 4 = some .s4 ∧ rig.slotOf 5 = none ∧ rig.slotOf 0 = none := by decide +kernel

theorem rig_idle : (rig.boom .s2).auto = .idle := by decide +kernel

theorem witness_HoleReads_empty : rig.slotOf 2 = some .s2 ∧ ∀ f h, (rig.boom .s2).auto ≠ .exception f h := by
  refine ⟨by decide +kernel, fun f h => ?_⟩
  rw [rig_idle]; nofun

theorem witness_LoadRecipeClampsThenRelates :
    rig.ready ∧ rig.settled ∧ config.ready ∧ config.settled ∧ secondLoad.length = 28 ∧ rig.mode ≠ .config ∧
      config.mode = .config ∧ recipeIndex 16 = none ∧ recipeIndex 15 = some 15 := by decide +kernel

/-- The part in CONFIG with two holes queued. -/
def queuedConfig : State := { queued with mode := .config }

theorem witness_ClearRecipeKeepsNamedSlots :
    (config.ready ∧ config.settled ∧ recipeIndex 16 = none ∧ recipeIndex 3 = some 3 ∧ config.mode = .config ∧
      config.recipeAt 5 = none ∧ recipeIndex 5 = some 5 ∧ rig.mode ≠ .config) ∧
      (queuedConfig.ready ∧ queuedConfig.settled ∧ queuedConfig.recipeAt 3 = some recipe ∧
        ({ holeId := 101, recipeSlot := 3, posTag := 1041, depth := none } : QueueEntry) ∈ queuedConfig.queues.get .s2) ∧
      config.recipeAt 3 = some recipe ∧ ∀ b ∈ Slot.all, config.queues.get b = [] := by decide +kernel

theorem witness_QueueHoleChecksThenJoins : queued.ready ∧ queued.settled := by decide +kernel

theorem witness_EntriesLeaveTheQueues : queued.ready ∧ queued.settled := by decide +kernel

theorem witness_SetParamTreatsByKind :
    (config.ready ∧ config.requested = none ∧ config.flowQuiet ∧ rig.mode ≠ .config ∧ config.mode = .config) ∧
      ParamId.ofCode 0 = none ∧ ParamId.ofCode 2 = some .pumpCapacity ∧ ParamId.fittedBooms ≠ .pumpCapacity ∧
      ParamId.pumpCapacity.kind.treat 401 = some 400 ∧ ParamId.thrustPolicy.kind.treat 3 = none ∧
      ParamId.ofCode 30 = some .thrustPolicy := by decide +kernel

theorem witness_FittedBoomsChangeSlots :
    config.ready ∧ config.requested = none ∧ config.mode = .config ∧ config.params.ordered = true ∧
      1 ≤ (1 : Word).toInt ∧ (15 : Word).toInt ≤ 15 := by decide +kernel

theorem witness_GoChecksInOrder :
    (rig.ready ∧ rig.settled ∧ rig.slotOf 0 = none ∧ rig.slotOf 4 = some .s4 ∧ config.mode ≠ .run ∧ rig.mode = .run) ∧
      (({ drilling with requested := some .config } : State).ready ∧
        ({ drilling with requested := some .config } : State).settled) ∧
      (drilling.settled ∧ drilling.requested = none ∧ (drilling.boom .s2).auto ≠ .idle) ∧
      ((rig.boom .s4).auto = .idle ∧ (rig.boom .s4).level = 0 ∧ rig.lineOn = false ∧ rig.driveOn = true ∧
        rig.queues.get .s4 = []) ∧
      ({ rig with retractLine := some true } : State).lineOn = true ∧
      ({ rig with drive := some false } : State).driveOn = false := by decide +kernel

theorem witness_GoStartsTheHole :
    queued.ready ∧ queued.slotOf 2 = some .s2 ∧ queued.mode = .run ∧ queued.requested = none ∧
      (queued.boom .s2).auto = .idle ∧ (queued.boom .s2).level = 0 ∧ queued.retractLine ≠ some true ∧
      queued.drive = some true ∧
      queued.queues.get .s2 =
        [{ holeId := 101, recipeSlot := 3, posTag := 1041, depth := none },
         { holeId := 102, recipeSlot := 3, posTag := 1042, depth := some 2600 }] ∧
      queued.recipeOf (BitVec.ofNat 8 3) = some recipe ∧ queued.flowQuiet ∧ queued.grant .s2 = 0 := by decide +kernel

theorem witness_AbandonRetracts :
    (drilling.ready ∧ drilling.requested = none ∧ drilling.slotOf 2 = some .s2 ∧ drilling.waitsAlone .s2 ∧
      (drilling.boom .s2).level = 0 ∧ 10 * drilling.params.homeTolerance < drilling.depth .s2 ∧
      min drilling.params.demandRetractDrill drilling.params.pumpCapacity ≤ drilling.grant .s2 ∧
      (drilling.boom .s2).auto = .cycle .active (inPhase .drilling)) ∧
      (poorAnchor.ready ∧ poorAnchor.requested = none ∧ poorAnchor.slotOf 2 = some .s2 ∧ poorAnchor.waitsAlone .s2 ∧
        (poorAnchor.boom .s2).level = 0 ∧ 10 * poorAnchor.params.homeTolerance < poorAnchor.depth .s2 ∧
        min poorAnchor.params.demandRetractDrill poorAnchor.params.pumpCapacity - poorAnchor.grant .s2 ≤ poorAnchor.free) := by
  decide +kernel

/-- Boom 2 drilling at the limit of its home depth, with a number of records in the log. -/
def atHome (n : Nat) : State :=
  { withBoom (.cycle .active (inPhase .drilling)) 200 45 rig with log := List.replicate n record }

theorem witness_AbandonAtHomeEndsTheHole :
    ((atHome 47).ready ∧ (atHome 47).requested = none ∧ (atHome 47).slotOf 2 = some .s2 ∧ (atHome 47).waitsAlone .s2 ∧
      ((atHome 47).boom .s2).running = some (.active, inPhase .drilling) ∧
      (atHome 47).depth .s2 ≤ 10 * (atHome 47).params.homeTolerance ∧ (atHome 47).log.length < 48) ∧
      (atHome 48).ready ∧ ¬(atHome 48).log.length < 48 := by decide +kernel

theorem witness_SetEnablesReplacesTheSet :
    rig.ready ∧ rig.settled ∧ rig.slotOf 5 = none ∧ rig.slotOf 1 = some .s1 ∧ (0x100 : Word).getLsbD 8 = true ∧
      (0x20000 : Word).getLsbD 17 = true := by decide +kernel

theorem witness_SetEnablesReplacesTheSet_maskable : ∀ i, (0x10200 : Word).getLsbD i = true → 9 ≤ i ∧ i < 17 := by
  intro i h
  have n : i < 32 := by
    by_contra k
    rw [BitVec.getLsbD_of_ge _ _ (by omega)] at h
    cases h
  revert h
  revert i
  decide

theorem witness_AbandonAndResolveRefusals :
    (rig.ready ∧ rig.settled ∧ rig.slotOf 0 = none ∧ rig.slotOf 2 = some .s2 ∧ (some 0 : Option Byte) ≠ none ∧
      taken.settled ∧ (taken.boom .s2).level ≠ 0) ∧
      (poorAnchor.ready ∧ poorAnchor.settled ∧ (poorAnchor.boom .s2).level = 0) ∧
      ({ poorAnchor with retractLine := some true } : State).lineOn = true ∧
      (inPhase .mixing).phase = .mixing := by decide +kernel

theorem witness_AbandonAndResolveRefusals_idle :
    (∀ sub h, (rig.boom .s2).auto ≠ .cycle sub h) ∧ ∀ f h, (rig.boom .s2).auto ≠ .exception f h := by
  rw [rig_idle]
  refine ⟨fun sub h => ?_, fun f h => ?_⟩ <;> nofun

theorem witness_ResolveEntersTheNextPhase :
    poorAnchor.ready ∧ poorAnchor.requested = none ∧ poorAnchor.flowQuiet ∧ poorAnchor.slotOf 2 = some .s2 ∧
      (poorAnchor.boom .s2).level = 0 ∧
      (poorAnchor.boom .s2).auto =
        .exception (frame .prePhase .poorAnchor 0x800 .drilling .retractDrill)
          { inPhase .retractDrill with computed := some 2, planned := some 2 } ∧
      poorAnchor.retractLine ≠ some true ∧ poorAnchor.drive = some true ∧
      (poorAnchor.boom .s2).outNow.position = false ∧
      min poorAnchor.params.demandRetractDrill poorAnchor.params.pumpCapacity - poorAnchor.grant .s2 ≤ poorAnchor.free ∧
      CondSet.has 0x800 .poorAnchor = true ∧ CondSet.has 0x1000 .shortResin = true := by decide +kernel

/-- Boom 2 stopped in MIXING on MIX_SHORT, its resin started at a tick. -/
def mixShort (start : Tick) : State :=
  stoppedBoom (frame .inPhase .mixShort 0 .mixing .mixing) { inPhase .mixing with resinStart := some start }

theorem witness_ResolveRetryByFrame :
    ((underTension 1).ready ∧ (underTension 1).requested = none ∧ (underTension 1).flowQuiet ∧
      (underTension 1).slotOf 2 = some .s2 ∧ ((underTension 1).boom .s2).level = 0 ∧
      ((underTension 1).boom .s2).auto =
        .exception (frame .prePhase .underTension 0x2000 .torquing .releasing) { inPhase .releasing with retorques := 1 } ∧
      (underTension 1).retractLine ≠ some true ∧ (underTension 1).drive = some true ∧
      CondSet.has 0x2000 .underTension = true ∧
      min rig.params.demandTorquing rig.params.pumpCapacity - (underTension 1).grant .s2 ≤ (underTension 1).free) ∧
      (underTension 2).ready ∧ (mixShort 3500).ready ∧ (mixShort 3501).ready ∧
      ({ inPhase .mixing with resinStart := some 3500 } : Hole).gelPassed rig.clock = true ∧
      ({ inPhase .mixing with resinStart := some 3501 } : Hole).gelPassed rig.clock = false ∧
      min rig.params.demandMixing rig.params.pumpCapacity - (mixShort 3501).grant .s2 ≤ (mixShort 3501).free := by
  decide +kernel

theorem witness_TakeoverSetsWorkAside :
    (drilling.ready ∧ drilling.settled ∧ drilling.slotOf 2 = some .s2 ∧ drilling.mode = .run ∧
      (drilling.boom .s2).level = 0 ∧ drilling.waitsAlone .s2 ∧
      min drilling.params.manualDemand drilling.params.pumpCapacity ≤ drilling.grant .s2) ∧
      (config.ready ∧ config.settled ∧ config.mode ≠ .run) ∧ (taken.settled ∧ (taken.boom .s2).level = 1) ∧
      ((atRest .idle none).settled ∧ ((atRest .idle none).boom .s2).level = 2) ∧
      ((rig.boom .s2).auto = .idle ∧
        min rig.params.manualDemand rig.params.pumpCapacity - rig.grant .s2 ≤ rig.free) := by decide +kernel

theorem witness_ManualDriveDrivesOrDiscards :
    (taken.ready ∧ taken.settled ∧ taken.slotOf 2 = some .s2 ∧ (taken.boom .s2).level = 1 ∧
      (taken.boom .s2).manual = some { sub := .ready, hold := none, away := 0 } ∧ taken.driveOn = true ∧
      (taken.boom .s2).auto = .cycle .active (inPhase .drilling)) ∧
      ((1001 : Half).toInt = 1001 ∧ (1000 : Half).toInt ≤ 1000 ∧ -1000 ≤ (0xFC18 : Half).toInt ∧
        (0xFC17 : Half).toInt < -1000 ∧ 2 < (3 : Byte).toNat ∧ (2 : Byte).toNat ≤ 2) ∧
      ((drilling.boom .s2).level ≠ 1 ∧ drilling.settled) ∧
      ({ taken with drive := some false } : State).driveOn = false := by decide +kernel

theorem witness_HandbackPopsTheTakeover :
    (rig.ready ∧ rig.settled ∧ rig.slotOf 2 = some .s2 ∧ (rig.boom .s2).level ≠ 1) ∧
      ((under (some { sub := .ready, hold := none, away := 0 }) none rig).ready ∧
        (under (some { sub := .ready, hold := none, away := 0 }) none rig).requested = none ∧
        (under (some { sub := .ready, hold := none, away := 0 }) none rig).flowQuiet ∧
        ((under (some { sub := .ready, hold := none, away := 0 }) none rig).boom .s2).level = 1 ∧
        ((under (some { sub := .ready, hold := none, away := 0 }) none rig).boom .s2).auto = .idle) := by decide +kernel

theorem witness_ReentryChecksTheMove :
    (drilling.boom .s2).auto = .cycle .active (inPhase .drilling) ∧ (drilling.boom .s2).level = 0 ∧
      drilling.waitsAlone .s2 ∧ 10 * drilling.params.reentryTolerance < 101 ∧
      100 ≤ 10 * drilling.params.reentryTolerance ∧ drilling.drive = some true ∧ drilling.link.silent = false ∧
      min drilling.params.demandDrilling drilling.params.pumpCapacity ≤ drilling.grant .s2 ∧
      (5 ≤ Phase.boltLoad.num ∧ Phase.torquing.num ≤ 9) := by decide +kernel

theorem witness_SafeRetractPullsTheBoom :
    (drilling.ready ∧ drilling.settled ∧ drilling.slotOf 2 = some .s2 ∧ drilling.mode = .run ∧
      (drilling.boom .s2).level ≠ 2 ∧ drilling.waitsAlone .s2 ∧
      min drilling.params.demandRetractDrill drilling.params.pumpCapacity ≤ drilling.grant .s2 ∧
      ¬drilling.depth .s2 ≤ 10 * drilling.params.homeTolerance) ∧
      ((atHome 0).ready ∧ (atHome 0).depth .s2 ≤ 10 * (atHome 0).params.homeTolerance) ∧
      config.mode ≠ .run ∧ (atRest .idle none).settled := by decide +kernel

theorem witness_RetractClearNeedsTheLine :
    ((atRest .idle none).ready ∧ (atRest .idle none).slotOf 2 = some .s2 ∧
      ((atRest .idle none).boom .s2).retract = some { sub := .retracted, ticks := 0, overdue := false } ∧
      (atRest .idle none).retractLine ≠ some true ∧ (atRest .idle none).requested = none ∧ (atRest .idle none).flowQuiet ∧
      ((atRest .idle none).boom .s2).manual = none ∧ ((atRest .idle none).boom .s2).auto = .idle) ∧
      (({ atRest .idle none with retractLine := some true } : State).ready ∧
        ({ atRest .idle none with retractLine := some true } : State).settled) ∧
      ((atRest .idle (some { sub := .ready, hold := none, away := 0 })).ready ∧
        ((atRest .idle (some { sub := .ready, hold := none, away := 0 })).boom .s2).manual =
          some { sub := .ready, hold := none, away := 0 }) ∧
      (rig.settled ∧ (rig.boom .s2).retract = none) := by decide +kernel

/-- The part with a reserve and nothing else granted. -/
def reserved (n : Nat) : State := { rig with arbiter := { rig.arbiter with reserve := n, grantList := [.reserve] } }

/-- The part with the whole pump granted to a mixing boom. -/
def curing : State := withBoom (.cycle .active (inPhase .mixing)) 0 160 rig

theorem witness_ReserveByItsTable :
    ((reserved 40).ready ∧ (reserved 40).settled ∧ (reserved 40).flowQuiet) ∧
      ((0 : Half).toNat < 1 ∧ 400 < (401 : Half).toNat ∧ 1 ≤ (1 : Half).toNat ∧ (400 : Half).toNat ≤ 400) ∧
      min (40 : Half).toNat (reserved 40).params.pumpCapacity = (reserved 40).arbiter.reserve ∧
      min (1 : Half).toNat (reserved 40).params.pumpCapacity < (reserved 40).arbiter.reserve ∧
      ((reserved 40).arbiter.reserve < min (400 : Half).toNat (reserved 40).params.pumpCapacity ∧
        min (400 : Half).toNat (reserved 40).params.pumpCapacity - (reserved 40).arbiter.reserve ≤ (reserved 40).free) ∧
      (curing.ready ∧ curing.settled ∧ curing.flowQuiet ∧
        curing.free + curing.backableFlow < min (1 : Half).toNat curing.params.pumpCapacity - curing.arbiter.reserve) ∧
      rig.arbiter.reserve = 0 ∧ 0 < (reserved 40).arbiter.reserve := by decide +kernel

theorem witness_EvaluationStaysWithinCapacity : flowCase.flowSafe :=
  show flowCase.arbiter.total ≤ flowCase.params.pumpCapacity by decide +kernel

theorem witness_BackoffTakesTheGrant :
    drilling.fits .s2 = true ∧ (drilling.boom .s2).running = some (.active, inPhase .drilling) := by decide +kernel

/-- Boom 2 waiting to write its record to a full log. -/
def logFull : State :=
  { withBoom (.logWait record) 0 0 rig with log := List.replicate 48 record, nextSeq := 65535, writers := [.s2] }

theorem witness_DropAdmitsOneWriter :
    (rig.ready ∧ rig.settled ∧ rig.log = []) ∧
      (logged.ready ∧ logged.settled ∧ logged.log = [{ record with seq := 5 }, { record with seq := 6 }] ∧
        logged.writers = []) ∧
      (logFull.ready ∧ logFull.requested = none ∧ logFull.log = record :: List.replicate 47 record ∧
        logFull.writers = [.s2] ∧ (logFull.boom .s2).auto = .logWait record) := by decide +kernel

theorem witness_MarkStartObserves :
    (observe.ready ∧ observe.settled ∧ observe.slotOf 0 = none ∧ observe.slotOf 2 = some .s2 ∧ observe.mode = .observe ∧
      observe.requested = none ∧ (observe.boom .s2).auto = .idle ∧ (observe.boom .s2).level = 0) ∧
      (rig.settled ∧ rig.mode ≠ .observe) ∧
      (({ observing with requested := some .run } : State).ready ∧
        ({ observing with requested := some .run } : State).settled) ∧
      (observing.settled ∧ (observing.boom .s2).auto ≠ .idle) ∧
      (observe.recipeOf 16 = none ∧ (9 : Half) ≠ 0 ∧ observe.recipeOf 3 = some recipe ∧ observe.idHeld 9 = false) ∧
      observing.idHeld 101 = true ∧ (observing.boom .s1).auto = .idle := by decide +kernel

theorem witness_MarkEndLogsTheHole :
    (rig.ready ∧ rig.settled ∧ rig.slotOf 2 = some .s2 ∧ rig.mode ≠ .observe) ∧
      (observe.ready ∧ observe.settled ∧ observe.mode = .observe) ∧
      (observing.ready ∧ observing.requested = none ∧ (observing.boom .s2).level = 0 ∧
        (observing.boom .s2).auto = .observing plan ∧ (observing.boom .s2).profile.cond = .opened) := by decide +kernel

theorem witness_MarkEndLogsTheHole_idle : ∀ p, (observe.boom .s2).auto ≠ .observing p := by
  have k : (observe.boom .s2).auto = .idle := by decide +kernel
  rw [k]; nofun

theorem witness_SetModeByItsTable :
    (rig.ready ∧ rig.settled ∧ Mode.ofCode 3 = none ∧ Mode.ofCode 2 = some .observe ∧ Mode.ofCode 0 = some .config ∧
      Mode.config ≠ rig.mode ∧ rig.quiescent = true ∧ rig.requested = none ∧ Mode.ofCode 1 = some rig.mode) ∧
      (drilling.ready ∧ drilling.quiescent = false) ∧
      (({ drilling with requested := some .config } : State).ready ∧
        ({ drilling with requested := some .config } : State).requested ≠ none) ∧
      (rig.retractLine ≠ some true) := by decide +kernel

theorem witness_StepKeepsBounds :
    rig.Bounded ∧ ∃ t, step { rig with pending := [.getFlow 7] } = .next t := by
  refine ⟨⟨by decide +kernel, by decide +kernel, by decide +kernel, ?_, ?_, ?_⟩, _, rfl⟩
  · intro b; cases b <;> decide +kernel
  · intro b; cases b <;> decide +kernel
  · intro b c; cases b <;> cases c <;> decide +kernel

theorem witness_StepLeavesNoChangeWaiting :
    ({ drilling with requested := some .config, pending := [.getFlow 7] } : State).settled ∧
      ∃ t, step { drilling with requested := some .config, pending := [.getFlow 7] } = .next t :=
  ⟨by decide +kernel, _, rfl⟩

theorem witness_WorkedFigures :
    recipe.bitDiameter = 27 ∧ recipe.boltDiameter = 20 ∧ recipe.encapsulation = 1200 ∧ recipe.waste = 15 ∧
      recipe.cartDiameter = 23 ∧ recipe.cartLength = 600 ∧
      ({ recipe with bitDiameter := 45, boltDiameter := 12, encapsulation := 2400, waste := 50, cartDiameter := 18,
                     cartLength := 300 } : Recipe).cartLength = 300 ∧
      ({ recipe with nutFactor := 100, boltDiameter := 12 } : Recipe).nutFactor = 100 := by decide

theorem witness_BaseCountIsTheSmallest :
    0 < recipe.cartDiameter ∧ 0 < recipe.cartLength ∧
      (recipe.bitDiameter ^ 2 - recipe.boltDiameter ^ 2) * recipe.encapsulation * (100 + recipe.waste) ≤
        2 * (recipe.cartDiameter ^ 2 * recipe.cartLength * 100) := by decide

/-! ### Samples of a running boom -/

/-- Boom 2 ACTIVE in a hole at a depth, with a grant and values in force. -/
def sampling (h : Hole) (depth grant : Nat) (v : Quad (Option Nat)) : State :=
  let s := withBoom (.cycle .active h) depth grant rig
  s.setBoom .s2 { s.boom .s2 with inForce := v }

/-- Values in force of a boom that turns with light thrust, and with a torque. -/
def light (torque : Nat) : Quad (Option Nat) :=
  { thrust := some 12000, torque := some torque, speed := some 480, position := none }

/-- No condition stops boom 2's sample of a hole. -/
abbrev noStop (s : State) (h : Hole) : Prop :=
  s.stopCause .s2 (s.activeConds .s2 (h.sampleTimers (s.depth .s2) s.clock)) = none

/-- Boom 2's sample of a hole meets what the entry of a phase asks. -/
abbrev enters (s : State) (h : Hole) : Prop :=
  (s.boom .s2).running = some (.active, h) ∧ noStop s h ∧ s.fits .s2 = true ∧ s.flowQuiet ∧ s.drive = some true ∧
    s.link.silent = false ∧ (s.boom .s2).posted = 0 ∧ CondSet.has (s.boom .s2).enabled .voidStruck = false ∧
    CondSet.has (s.boom .s2).enabled .sensorRange = false

theorem witness_DrillingSampleGoesOn_short :
    (enters (sampling (inPhase .collaring) 299 30 (light 0)) (inPhase .collaring) ∧
      (sampling (inPhase .collaring) 299 30 (light 0)).depth .s2 < 10 * recipe.collarDepth) ∧
      (enters (sampling (inPhase .retractDrill) 201 25 (light 0)) (inPhase .retractDrill) ∧
        10 * rig.params.homeTolerance < (sampling (inPhase .retractDrill) 201 25 (light 0)).depth .s2) ∧
      (enters (sampling (inPhase .inserting) 0 30 (light 0)) (inPhase .inserting) ∧
        (sampling (inPhase .inserting) 0 30 (light 0)).depth .s2 < 18000 - 10 * rig.params.mixStroke) := by decide +kernel

theorem witness_DrillingSampleGoesOn_ends :
    (enters (sampling (inPhase .collaring) 300 30 (light 0)) (inPhase .collaring) ∧
      10 * recipe.collarDepth ≤ (sampling (inPhase .collaring) 300 30 (light 0)).depth .s2) ∧
      (enters (sampling (inPhase .retractDrill) 200 25 (light 0)) (inPhase .retractDrill) ∧
        (sampling (inPhase .retractDrill) 200 25 (light 0)).depth .s2 ≤ 10 * rig.params.homeTolerance) ∧
      (enters (sampling (inPhase .inserting) (18000 - 10 * rig.params.mixStroke) 30 (light 0)) (inPhase .inserting) ∧
        18000 - 10 * rig.params.mixStroke ≤
          (sampling (inPhase .inserting) (18000 - 10 * rig.params.mixStroke) 30 (light 0)).depth .s2) := by decide +kernel

/-- Boom 2 drilling at its target, under an enable set and with a recipe of some cartridges at most. -/
def atTarget (e : CondSet) (most : Nat) : State :=
  let h := { inPhase .drilling with plan := { plan with recipe := { recipe with maxCartridges := most } } }
  let s := sampling h 18000 45 (light 1210)
  s.setBoom .s2 { s.boom .s2 with enabled := e }

/-- Boom 2's profile once DRILLING has ended at that sample. -/
def endProfile : Profile :=
  ((((atTarget 0x800 4).boom .s2).profile.sample (strataFigures rig.params recipe) 18000 (light 1210)).1.closePartial
    (strataFigures rig.params recipe)).1

theorem witness_DrillingSampleGoesOn_target :
    (((atTarget 0x800 4).boom .s2).running = some (.active, inPhase .drilling) ∧ noStop (atTarget 0x800 4) (inPhase .drilling) ∧
      plan.target ≤ (atTarget 0x800 4).depth .s2 ∧ (atTarget 0x800 4).fits .s2 = true ∧ (atTarget 0x800 4).flowQuiet ∧
      (atTarget 0x800 4).drive = some true ∧ (atTarget 0x800 4).link.silent = false ∧
      ((atTarget 0x800 4).boom .s2).posted = 0 ∧ ((atTarget 0x800 4).boom .s2).profile.cond = .opened) ∧
      ((endProfile.assess rig.params recipe.encapsulation).grade = .poor ∧
        CondSet.has ((atTarget 0x800 4).boom .s2).enabled .poorAnchor = true) ∧
      ((atTarget 0 4).boom .s2).enabled = 0 ∧
      (CondSet.has ((atTarget 0x1000 2).boom .s2).enabled .shortResin = true ∧
        CondSet.has ((atTarget 0x1000 2).boom .s2).enabled .poorAnchor = false ∧
        2 < baseCount recipe + 1 ∧ baseCount recipe = 2) := by decide +kernel

theorem witness_DriveReturnResumesRetracts_others :
    (∀ r, (held.boom .s3).retract = some r → r.sub ≠ .driveHeld) ∧
      ∀ h, (held.boom .s3).level = 0 → (held.boom .s3).auto ≠ .abandoning .driveHeld h := by
  have k : (held.boom .s3).retract = none ∧ (held.boom .s3).auto = .cycle .waitFlow (inPhase .drilling) := by decide +kernel
  rw [k.1, k.2]
  exact ⟨nofun, fun _ _ => nofun⟩

/-- A loading hole with two cartridges planned. -/
def loadHole (p : Phase) (loaded : Nat) (done : Bool) : Hole :=
  { inPhase p with planned := some 2, loaded := loaded, indexDone := done }

/-- Boom 2 ACTIVE in that hole with a handshake. -/
def loadSample (p : Phase) (loaded : Nat) (done : Bool) (h : Handshake) : State :=
  loading h (withBoom (.cycle .active (loadHole p loaded done)) 0 10 rig)

theorem witness_LoaderAnswers_issue :
    (((loadSample .resinLoad 1 false .none).boom .s2).running = some (.active, loadHole .resinLoad 1 false) ∧
      noStop (loadSample .resinLoad 1 false .none) (loadHole .resinLoad 1 false) ∧
      (loadHole .resinLoad 1 false).loaded ≠ (loadHole .resinLoad 1 false).planned.getD 0 ∧
      ((loadSample .resinLoad 1 false .none).boom .s2).handshake = .none) ∧
      (((loadSample .boltLoad 2 false (.reissueDue .index)).boom .s2).running = some (.active, loadHole .boltLoad 2 false) ∧
        noStop (loadSample .boltLoad 2 false (.reissueDue .index)) (loadHole .boltLoad 2 false) ∧
        (loadHole .boltLoad 2 false).indexDone = false ∧
        ((loadSample .boltLoad 2 false (.reissueDue .index)).boom .s2).handshake = .reissueDue .index) ∧
      (noStop (loadSample .resinLoad 0 false (.outstanding .push 1 4990)) (loadHole .resinLoad 0 false) ∧
        ((loadSample .resinLoad 0 false (.outstanding .push 1 4990)).boom .s2).handshake = .outstanding .push 1 4990) := by
  decide +kernel

theorem witness_LoaderAnswers_loaded :
    (enters (loadSample .resinLoad 2 false .none) (loadHole .resinLoad 2 false) ∧
      (loadHole .resinLoad 2 false).loaded = (loadHole .resinLoad 2 false).planned.getD 0) ∧
      (enters (loadSample .boltLoad 2 true .none) (loadHole .boltLoad 2 true) ∧
        (loadHole .boltLoad 2 true).indexDone = true) := by decide +kernel

/-- Values in force with a thrust at the recipe's ceiling. -/
def heavy : Quad (Option Nat) := { light 0 with thrust := some 40000 }

theorem witness_TimersStopTheBoom_thrust :
    ∀ p ∈ [Phase.collaring, .drilling, .inserting, .mixing],
      ((sampling (inPhase p) 0 30 heavy).boom .s2).running = some (.active, inPhase p) ∧
        (sampling (inPhase p) 0 30 heavy).fits .s2 = true ∧ (sampling (inPhase p) 0 30 heavy).flowQuiet ∧
        (sampling (inPhase p) 0 30 heavy).drive = some true ∧ ((sampling (inPhase p) 0 30 heavy).boom .s2).posLoss ≠ 20 ∧
        ((sampling (inPhase p) 0 30 heavy).boom .s2).inForce.thrust = some 40000 ∧ recipe.thrustCeiling ≤ 40000 := by
  decide +kernel

/-- Boom 2 with a torque reading out of range, seen before or not. -/
def torqueLow (seen : Bool) (s : State) : State :=
  s.setBoom .s2 { s.boom .s2 with
    raw := some { thrust := .value 0, torque := .low, speed := .value 0, position := .value 4000 }, seen := Quad.fill seen }

theorem witness_TimersStopTheBoom_range :
    (((torqueLow false starving).boom .s2).running = some (.waitFlow, inPhase .drilling) ∧
      ((torqueLow false starving).boom .s2).newlyOut = true ∧ ((torqueLow true starving).boom .s2).newlyOut = false) ∧
      (((torqueLow false (sampling (inPhase .retractDrill) 201 25 (light 0))).boom .s2).running =
          some (.active, inPhase .retractDrill) ∧
        10 * rig.params.homeTolerance < (torqueLow false (sampling (inPhase .retractDrill) 201 25 (light 0))).depth .s2 ∧
        noStop (torqueLow false (sampling (inPhase .retractDrill) 201 25 (light 0))) (inPhase .retractDrill)) := by
  decide +kernel

/-- A mixing hole with a mix sum and the start of its mix window. -/
def mixHole (sum : Nat) (start : Tick) : Hole := { inPhase .mixing with mixSum := sum, mixStart := some start }

theorem witness_HoldTimerEntersTorquing_mixing :
    (enters (sampling (mixHole 179520 4500) (18000 - 10 * rig.params.seatTolerance) 45 (light 0)) (mixHole 179520 4500) ∧
      6000 * recipe.mixRevs ≤ 179520 + 480 ∧ (mixHole 179520 4500).chuckReleased = false ∧
      (mixHole 179520 4500).moved = false) ∧
      (enters (sampling (mixHole 179519 3801) 18000 45 (light 0)) (mixHole 179519 3801) ∧
        179519 + 480 < 6000 * recipe.mixRevs ∧ 10 * ticksSince 5000 3801 < recipe.mixTimeMax) ∧
      (enters (sampling (mixHole 179519 3800) 18000 45 (light 0)) (mixHole 179519 3800) ∧
        recipe.mixTimeMax ≤ 10 * ticksSince 5000 3800) := by decide +kernel

/-- A holding hole whose mixing ended at a tick. -/
def holdHole (m : Tick) : Hole := { inPhase .holding with mixEnd := some m }

theorem witness_HoldTimerEntersTorquing_holding :
    (enters (sampling (holdHole 4201) 18000 5 (light 0)) (holdHole 4201) ∧ 10 * ticksSince 5000 4201 < recipe.gelHold) ∧
      (enters (sampling (holdHole 4200) 18000 5 (light 0)) (holdHole 4200) ∧ recipe.gelHold ≤ 10 * ticksSince 5000 4200 ∧
        (holdHole 4200).chuckReleased = false ∧ (holdHole 4200).moved = false) := by decide +kernel

/-- A torquing hole with a run of samples and the start of its torque timer. -/
def torqueHole (run : List Nat) : Hole := { inPhase .torquing with torqueRun := run, torqueStart := some 4401 }

theorem witness_TorqueTimeoutEndsOnPeak_run :
    (enters (sampling (torqueHole [2760, 2750]) 18000 35 (light 2750)) (torqueHole [2760, 2750]) ∧
      recipe.targetTorque ≤ 2750 ∧
      ((sampling (torqueHole [2760, 2750]) 18000 35 (light 2750)).boom .s2).inForce.torque = some 2750 ∧
      tensionOf recipe 2750 < recipe.tensionMin ∧
      CondSet.has ((sampling (torqueHole [2760, 2750]) 18000 35 (light 2750)).boom .s2).enabled .underTension = true) ∧
      (tensionOf { recipe with tensionMax := 600, tensionMin := 400 } 2750 = 655 ∧ recipe.tensionMax < tensionOf recipe 4000) ∧
      (enters (sampling (torqueHole [2760]) 18000 35 (light 2750)) (torqueHole [2760]) ∧ [2760].length < 2 ∧
        10 * ticksSince 5000 4401 < recipe.torqueTimeout) ∧
      (enters (sampling (torqueHole [2760, 2750]) 18000 35 (light 2749)) (torqueHole [2760, 2750]) ∧
        2749 < recipe.targetTorque) := by decide +kernel

theorem witness_BytesMakeTheFrame_long :
    1024 < (List.replicate 1025 (0 : Byte)).length ∧ (List.replicate 1025 (0 : Byte)).length < 65536 ∧
      ({ kind := 0x70, tag := 0, payload := [] } : Frame).payload.length + 7 ≤ rig.link.room := by decide +kernel

/-- A releasing hole. -/
def releaseHole (opened : Bool) : Hole := { inPhase .releasing with releaseOpened := opened }

theorem witness_AbandonAtHomeEndsTheHole_samples :
    (enters (sampling (releaseHole false) 201 25 (light 0)) (releaseHole false) ∧
      10 * rig.params.homeTolerance < (sampling (releaseHole false) 201 25 (light 0)).depth .s2) ∧
      (enters (sampling (releaseHole true) 200 25 (light 0)) (releaseHole true) ∧
        (sampling (releaseHole true) 200 25 (light 0)).depth .s2 ≤ 10 * rig.params.homeTolerance ∧
        (releaseHole true).abandoned = false) ∧
      (let h := { inPhase .drilling with abandoned := true };
        ((withBoom (.abandoning .active h) 200 25 rig).boom .s2).level = 0 ∧
          ((withBoom (.abandoning .active h) 200 25 rig).boom .s2).auto = .abandoning .active h ∧
          (withBoom (.abandoning .active h) 200 25 rig).depth .s2 ≤ 10 * rig.params.homeTolerance ∧
          (withBoom (.abandoning .active h) 200 25 rig).flowQuiet ∧
          10 * rig.params.homeTolerance < (withBoom (.abandoning .active h) 201 25 rig).depth .s2) := by decide +kernel

/-- R23, R24: a releasing boom whose chuck was closed by hand opens it again at its sample. -/
theorem test_releasing_opens_chuck :
    (((sampling (releaseHole true) 201 25 (light 0)).contextSample .s2).boom .s2).chuck = .opened := by decide +kernel

/-! ### Resolves, interventions and the modes -/

theorem witness_AbandonAndResolveRefusals_retry :
    (poorAnchor.ready ∧ poorAnchor.settled ∧ poorAnchor.slotOf 2 = some .s2 ∧ (poorAnchor.boom .s2).level = 0) ∧
      CondSet.has (frame .prePhase .poorAnchor 0x800 .drilling .retractDrill).posted .underTension = false ∧
      ((mixShort 3500).ready ∧ (mixShort 3500).settled ∧
        ({ inPhase .mixing with resinStart := some 3500 } : Hole).gelPassed (mixShort 3500).clock = true) ∧
      ((underTension 2).settled ∧ 2 ≤ ({ inPhase .releasing with retorques := 2 } : Hole).retorques) ∧
      (({ underTension 1 with retractLine := some true } : State).lineOn = true ∧
        ({ underTension 1 with retractLine := some true } : State).settled) ∧
      (mixShort 3501).lineOn = false := by decide +kernel

theorem witness_AbandonAndResolveRefusals_cartridges :
    ((underTension 1).settled ∧ CondSet.has 0x2000 .poorAnchor = false ∧ CondSet.has 0x2000 .shortResin = false) ∧
      (poorAnchor.settled ∧ CondSet.has 0x800 .poorAnchor = true ∧ (0 : Byte).toNat < 1 ∧ 6 < (7 : Byte).toNat ∧
        1 ≤ (1 : Byte).toNat ∧ (6 : Byte).toNat ≤ 6) ∧
      ({ poorAnchor with retractLine := some true } : State).lineOn = true := by decide +kernel

/-- The hypotheses CONTINUE of any frame has beyond its frame. -/
abbrev resumable (s : State) (f : ExFrame) (h : Hole) : Prop :=
  s.ready ∧ s.requested = none ∧ s.flowQuiet ∧ s.slotOf 2 = some .s2 ∧ (s.boom .s2).level = 0 ∧
    (s.boom .s2).auto = .exception f h ∧ s.retractLine ≠ some true ∧ s.drive = some true ∧
    CondSet.has f.current .positionLost = false ∧ h.chuckReleased = false ∧ h.moved = false ∧ h.resolves.length < 6

theorem witness_ResolveEntersTheNextPhase_any :
    resumable (stoppedBoom (frame .prePhase .poorAnchor 0x800 .drilling .retractDrill) (inPhase .retractDrill))
        (frame .prePhase .poorAnchor 0x800 .drilling .retractDrill) (inPhase .retractDrill) ∧
      resumable (stoppedBoom (frame .inPhase .mixShort 0 .mixing .mixing) (inPhase .mixing))
        (frame .inPhase .mixShort 0 .mixing .mixing) (inPhase .mixing) ∧
      resumable (stoppedBoom (frame .inPhase .feedStall 0 .drilling .drilling) (inPhase .drilling))
        (frame .inPhase .feedStall 0 .drilling .drilling) (inPhase .drilling) := by decide +kernel

theorem witness_ResolveRetryByFrame_jam :
    resumable (stoppedBoom (frame .inPhase .loaderJam 0 .resinLoad .resinLoad) (inPhase .resinLoad))
      (frame .inPhase .loaderJam 0 .resinLoad .resinLoad) (inPhase .resinLoad) := by decide +kernel

/-- Boom 2 stopped before RELEASING on UNDER_TENSION with its bolt let go. -/
def letGo : State :=
  stoppedBoom (frame .prePhase .underTension 0x2000 .torquing .releasing)
    { inPhase .releasing with retorques := 1, chuckReleased := true }

theorem witness_ResolveRetryByFrame_engage :
    letGo.ready ∧ letGo.requested = none ∧ letGo.flowQuiet ∧ letGo.slotOf 2 = some .s2 ∧ (letGo.boom .s2).level = 0 ∧
      (letGo.boom .s2).auto = .exception (frame .prePhase .underTension 0x2000 .torquing .releasing)
        { inPhase .releasing with retorques := 1, chuckReleased := true } ∧
      letGo.retractLine ≠ some true ∧ letGo.drive = some true ∧ CondSet.has 0x2000 .underTension = true ∧
      letGo.covers .s2 (letGo.demandOf .inserting) := by decide +kernel

theorem witness_TakeoverSetsWorkAside_contexts :
    ∀ s ∈ [poorAnchor, withBoom (.abandoning .active (inPhase .drilling)) 15000 25 rig,
        { withBoom (.logWait record) 0 0 rig with log := List.replicate 48 record, writers := [.s2] }],
      s.ready ∧ s.requested = none ∧ s.slotOf 2 = some .s2 ∧ s.mode = .run ∧ (s.boom .s2).level = 0 ∧ s.waitsAlone .s2 ∧
        min s.params.manualDemand s.params.pumpCapacity - s.grant .s2 ≤ s.free := by decide +kernel

/-- Boom 2 under a READY takeover over a context it was set aside in at a depth away from its own. -/
def aside (a : Auto) (moved : Nat) : State :=
  let s := under (some { sub := .ready, hold := none, away := 0 }) none (withBoom a 15000 40 rig)
  s.setBoom .s2 { s.boom .s2 with awayDepth := 15000 + moved }

/-- The contexts a pop may meet. -/
def contexts : List Auto :=
  [.cycle .active (inPhase .drilling), .cycle .active { inPhase .torquing with chuckReleased := true },
   .exception (frame .inPhase .feedStall 0 .drilling .drilling) (inPhase .drilling),
   .abandoning .active (inPhase .drilling), .logWait record]

theorem witness_HandbackPopsTheTakeover_contexts :
    (∀ a ∈ contexts, ∀ d ∈ [100, 101],
      (aside a d).ready ∧ (aside a d).requested = none ∧ (aside a d).flowQuiet ∧ (aside a d).slotOf 2 = some .s2 ∧
        ((aside a d).boom .s2).level = 1 ∧ (aside a d).movedAway .s2 = d ∧
        (aside a d).covers .s2 ((aside a d).demandOf .retractDrill) ∧
        10 * (aside a d).params.homeTolerance < (aside a d).depth .s2) ∧
      10 * rig.params.reentryTolerance = 100 ∧ 10 * rig.params.reentryTolerance < 101 ∧
      (inPhase .drilling).chuckReleased = false ∧ (inPhase .drilling).moved = false := by decide +kernel

theorem witness_RetractClearNeedsTheLine_contexts :
    ∀ a ∈ contexts,
      (atRest a none).ready ∧ (atRest a none).requested = none ∧ (atRest a none).flowQuiet ∧
        (atRest a none).slotOf 2 = some .s2 ∧
        ((atRest a none).boom .s2).retract = some { sub := .retracted, ticks := 0, overdue := false } ∧
        ((atRest a none).boom .s2).manual = none ∧ (atRest a none).retractLine ≠ some true := by decide +kernel

/-- Boom 2 seating its bolt at a depth. -/
def engaging (h : Hole) (depth : Nat) : State := withBoom (.cycle .reEngage h) depth 30 rig

theorem witness_ReentryChecksTheMove_engage :
    (((engaging (holdHole 4201) (17999 - 10 * rig.params.seatTolerance)).boom .s2).running =
        some (.reEngage, holdHole 4201) ∧
      (engaging (holdHole 4201) (17999 - 10 * rig.params.seatTolerance)).stopCause .s2
        ((engaging (holdHole 4201) (17999 - 10 * rig.params.seatTolerance)).engageConds .s2) = none ∧
      (engaging (holdHole 4201) (17999 - 10 * rig.params.seatTolerance)).depth .s2 <
        18000 - 10 * rig.params.seatTolerance) ∧
      ((engaging (holdHole 4201) (18000 - 10 * rig.params.seatTolerance)).flowQuiet ∧
        (engaging (holdHole 4201) (18000 - 10 * rig.params.seatTolerance)).drive = some true ∧
        (engaging (holdHole 4201) (18000 - 10 * rig.params.seatTolerance)).link.silent = false ∧
        (holdHole 4201).holdElapsed rig.clock = false) ∧
      ((holdHole 4200).holdElapsed rig.clock = true ∧ ((engaging (holdHole 4200) 18000).boom .s2).posted = 0 ∧
        CondSet.has ((engaging (holdHole 4200) 18000).boom .s2).enabled .sensorRange = false) := by decide +kernel

/-- Boom 2 under a safety retract that moves, at a depth. -/
def retracting (depth : Nat) : State :=
  under none (some { sub := .active, ticks := 998, overdue := false })
    (withBoom (.cycle .active (inPhase .drilling)) depth 25 rig)

theorem witness_SafeRetractPullsTheBoom_samples :
    ((retracting 201).boom .s2).retract = some { sub := .active, ticks := 998, overdue := false } ∧
      10 * rig.params.homeTolerance < (retracting 201).depth .s2 ∧
      (retracting 200).depth .s2 ≤ 10 * rig.params.homeTolerance ∧ (retracting 200).flowQuiet ∧
      (retracting 201).drive = some true ∧ ({ retracting 201 with drive := some false } : State).drive ≠ some true := by
  decide +kernel

/-- The reserve waiting behind boom 2's mixing, which holds all the pump gives but a part that is free. -/
def reserveWaits (free : Nat) : State :=
  let s := withBoom (.cycle .active (inPhase .mixing)) 0 (160 - free) rig
  { s with
    arbiter := { s.arbiter with
      waitList :=
        [{ requester := .reserve, cls := .urgent, demand := 100, join := 4000, waitStart := 4000, backedOff := false }] } }

theorem witness_ReserveByItsTable_waits :
    ((reserveWaits 0).ready ∧ (reserveWaits 0).settled ∧ 0 < (reserveWaits 0).params.pumpCapacity ∧
      (reserveWaits 0).free + (reserveWaits 0).backableFlow <
        min (1 : Half).toNat (reserveWaits 0).params.pumpCapacity - (reserveWaits 0).arbiter.reserve) ∧
      ((reserveWaits 40).ready ∧ (reserveWaits 40).settled ∧
        min (40 : Half).toNat (reserveWaits 40).params.pumpCapacity - (reserveWaits 40).arbiter.reserve ≤
          (reserveWaits 40).free) ∧
      (let s : State := { reserveWaits 40 with arbiter := { (reserveWaits 40).arbiter with reserve := 30 } };
        s.ready ∧ s.settled ∧ min (30 : Half).toNat s.params.pumpCapacity ≤ s.arbiter.reserve) := by decide +kernel

theorem witness_ReserveByItsTable_backoff :
    flowCase.ready ∧ flowCase.requested = none ∧ flowCase.flowQuiet ∧ flowCase.fits .s4 = true ∧
      (flowCase.boom .s4).running = some (.active, inPhase .drilling) ∧ Phase.drilling.flowClass = .normal ∧
      flowCase.arbiter.grantList.getLast? = some (.boom .s4) ∧
      flowCase.arbiter.reserve < min (45 : Half).toNat flowCase.params.pumpCapacity ∧
      flowCase.free < min (1 : Half).toNat flowCase.params.pumpCapacity - flowCase.arbiter.reserve ∧
      min (45 : Half).toNat flowCase.params.pumpCapacity - flowCase.arbiter.reserve ≤ flowCase.free + flowCase.grant .s4 := by
  decide +kernel

theorem served_starving : starving.Served where
  capacity := show starving.arbiter.total ≤ starving.params.pumpCapacity by decide +kernel
  entries := by
    intro e he b hb
    have k : starving.arbiter.waitList =
      [{ requester := .boom .s2, cls := .normal, demand := 45, join := 3000, waitStart := 3001, backedOff := false }] := by
      decide +kernel
    rw [k, List.mem_singleton] at he
    subst he
    cases hb
    exact Or.inl rfl
  once := by decide +kernel
  order := by decide +kernel
  restful := by intro b; cases b <;> decide +kernel
  unfitted := by intro b; cases b <;> decide +kernel
  config := nofun
  writersOnce := by decide +kernel
  writersWait := by
    intro b
    refine ⟨fun h => ?_, fun ⟨r, h⟩ => ?_⟩
    · have k : starving.writers = [] := by decide +kernel
      rw [k] at h; cases h
    · cases b <;> cases h
  logFull := fun h => absurd (by decide +kernel : starving.writers = []) h

theorem witness_EvaluationStaysWithinCapacity_step : starving.Served ∧
    ∃ t, step { starving with pending := [.releaseFlow 7] } = .next t := ⟨served_starving, _, rfl⟩

theorem witness_MarkEndLogsTheHole_sample :
    (observing.boom .s2).level = 0 ∧ (observing.boom .s2).auto = .observing plan ∧
      0 < ((sampling (inPhase .drilling) 0 0 (light 0)).boom .s2).inForce.speed.getD 0 ∧
      ¬0 < (observing.boom .s2).inForce.speed.getD 0 := by decide +kernel

theorem witness_SetModeByItsTable_sweep :
    ({ config with retractLine := some true } : State).ready ∧ ({ config with retractLine := some true } : State).flowQuiet ∧
      ({ config with retractLine := some true } : State).mode ≠ .run ∧
      ({ config with retractLine := some true } : State).quiescent = true := by decide +kernel

/-- Boom 2 pushing its second cartridge, with a hole queued. -/
def planning : State :=
  let s := loadSample .resinLoad 1 false (.outstanding .push 1 4990)
  { s with queues := s.queues.set .s1 [{ holeId := 102, recipeSlot := 3, posTag := 1042, depth := none }] }

theorem planned_planning : planning.Planned where
  ids := by decide +kernel
  recipes := by
    intro b
    cases b
    · intro e he
      have k : planning.queues.get .s1 = [{ holeId := 102, recipeSlot := 3, posTag := 1042, depth := none }] := by decide +kernel
      rw [k, List.mem_singleton] at he
      subst he
      exact ⟨recipe, by decide +kernel, by decide⟩
    all_goals intro e he; cases he
  push := by
    intro b h
    cases b
    · cases h
    · exact ⟨loadHole .resinLoad 1 false, rfl, rfl, by decide⟩
    · cases h
    · cases h
  index := by intro b h; cases b <;> cases h
  loaded := by
    intro b h e
    cases b
    · cases e
    · cases e; decide
    · cases e
    · cases e
  early := by
    intro b h e k
    cases b
    · cases e
    · cases e; exact absurd k (by decide)
    · cases e
    · cases e
  posted := by intro b h; exfalso; revert h; cases b <;> (unfold CondSet.askForResin; decide +kernel)
  frames := by intro b f h e; cases b <;> cases e

theorem witness_StepKeepsBounds_holes : planning.Planned ∧
    ∃ t, step { planning with pending := [.loaderDone .s2] } = .next t := ⟨planned_planning, _, rfl⟩

/-! ### The tick, the drive-enable input, and refusals -/

/-- Readings with every channel out of range. -/
def outReadings : Four (Quad Reading) := readings .low .high .low .high

theorem witness_SampleTickReads_tick :
    (readingsInRange outReadings.b1 = true ∧ readingsInRange outReadings.b4 = true) ∧
      drilling.unhurried ∧ drilling.fits .s2 = true ∧ (drilling.boom .s2).auto.counts = true := by decide +kernel

/-- Boom 2 drilling at its target through rock of its whole anchor length. -/
def soundTarget : State :=
  let s := atTarget CondSet.defaultEnabled 4
  s.setBoom .s2 { s.boom .s2 with
    profile := { (s.boom .s2).profile with
      frontier := 17990
      bands :=
        [{ cls := .competent, top := 0, bottom := 17990, count := 80, seCount := 80, seMin := some 480, seMax := some 530,
           seSum := 40000, isPartial := false, isForced := false, isSuspect := false, isMerged := false }] } }

/-- Its profile before and after the last interval is closed. -/
def soundProfile : Profile :=
  ((soundTarget.boom .s2).profile.sample (strataFigures rig.params recipe) 18000 (light 1210)).1

theorem witness_DrillingSampleGoesOn_sound :
    ((soundTarget.boom .s2).running = some (.active, inPhase .drilling) ∧ noStop soundTarget (inPhase .drilling) ∧
      soundTarget.fits .s2 = true ∧ soundTarget.flowQuiet ∧ soundTarget.drive = some true ∧
      soundTarget.link.silent = false ∧ (soundTarget.boom .s2).posted = 0 ∧
      (soundTarget.boom .s2).profile.cond = .opened) ∧
      ((soundTarget.boom .s2).enabled = CondSet.defaultEnabled ∧ (soundTarget.boom .s2).newlyOut = false ∧
        CondSet.has (soundTarget.boom .s2).enabled .voidStruck = false) ∧
      (((soundProfile.closePartial (strataFigures rig.params recipe)).1.assess rig.params recipe.encapsulation).grade = .good ∧
        baseCount recipe ≤ 4) := by decide +kernel

/-- Booms 1 to 4 idle, waiting in a hole, waiting in an abandoned hole, and under a takeover that waits, the reserve having the
pump. -/
def waiting : State :=
  let e : WaitEntry := { requester := .boom .s2, cls := .normal, demand := 45, join := 3000, waitStart := 3001, backedOff := false }
  { rig with
    booms :=
      { b1 := Boom.fresh
        b2 := { Boom.fresh with auto := .cycle .waitFlow (inPhase .drilling) }
        b3 := { Boom.fresh with auto := .abandoning .waitFlow (inPhase .drilling) }
        b4 := { Boom.fresh with manual := some { sub := .waitFlow, hold := none, away := 0 } } }
    arbiter :=
      { rig.arbiter with
        reserve := 160, grantList := [.reserve]
        waitList := [e, { e with requester := .boom .s3, demand := 25 }, { e with requester := .boom .s4, demand := 40 }] } }

/-- A boom under a retract that does not move. -/
def retractRests (sub : RetractSub) : State := under none (some { sub := sub, ticks := 0, overdue := false }) waiting

theorem witness_DriveFallStopsMotion_waiting :
    ((fallen waiting).drive = some true ∧ (fallen waiting).driveLine = some false ∧ (fallen waiting).unhurried ∧
      (fallen waiting).requested = none ∧ ¬(fallen waiting).flowQuiet) ∧
      ((waiting.boom .s1).level = 0 ∧ (waiting.boom .s1).auto = .idle ∧ waiting.arbiter.entryOf (.boom .s1) = none) ∧
      (waiting.boom .s2).running = some (.waitFlow, inPhase .drilling) ∧
      ((waiting.boom .s3).level = 0 ∧ (waiting.boom .s3).auto = .abandoning .waitFlow (inPhase .drilling)) ∧
      ((waiting.boom .s4).level = 1 ∧ (waiting.boom .s4).manual = some { sub := .waitFlow, hold := none, away := 0 }) ∧
      ∀ sub ∈ [RetractSub.waitFlow, .driveHeld, .retracted],
        ((retractRests sub).boom .s2).retract = some { sub := sub, ticks := 0, overdue := false } ∧
          (retractRests sub).drive = some true ∧ (retractRests sub).unhurried ∧ (retractRests sub).requested = none := by
  decide +kernel

theorem witness_DriveFallStopsMotion_rests :
    ((mixed2.boom .s4).level = 0 ∧
      (mixed2.boom .s4).auto = .exception (frame .inPhase .feedStall 0 .drilling .drilling) (inPhase .drilling) ∧
      mixed2.fits .s4 = true ∧ mixed2.flowQuiet) ∧
      ((atRest .idle none).flowQuiet ∧
        ((atRest .idle none).boom .s2).retract = some { sub := .retracted, ticks := 0, overdue := false }) := by decide +kernel

/-- A state read without drive-enable. -/
def unpowered (s : State) : State := { s with drive := some false, driveLine := some false }

theorem witness_DriveFallStopsMotion_line :
    (rig.unhurried ∧ rig.settled ∧ rig.driveLine ≠ some false ∧ rig.fits .s1 = true) ∧
      ((unpowered rig).unhurried ∧ (unpowered rig).settled ∧ (unpowered rig).driveLine = some false ∧
        (unpowered rig).drive ≠ some true) := by decide +kernel

theorem witness_DriveFallStopsMotion_sample :
    (unpowered mixed).drive ≠ some true ∧
      ((unpowered mixed).fits .s1 = true ∧ (unpowered mixed).flowQuiet ∧
        ((unpowered mixed).boom .s1).running = some (.active, inPhase .mixing)) ∧
      ((unpowered mixed2).flowQuiet ∧ ((unpowered mixed2).boom .s1).running = some (.reEngage, inPhase .holding)) ∧
      ((unpowered waiting).boom .s2).running = some (.waitFlow, inPhase .drilling) ∧
      ((unpowered mixed2).boom .s2).running = some (.backedOff, inPhase .drilling) ∧
      (((unpowered mixed).boom .s3).level = 0 ∧ ((unpowered mixed).boom .s3).auto = .abandoning .active (inPhase .drilling)) ∧
      (((unpowered mixed).boom .s4).level = 1 ∧
        ((unpowered mixed).boom .s4).manual = some { sub := .ready, hold := some 3, away := 0 }) ∧
      ((unpowered mixed2).boom .s3).retract = some { sub := .active, ticks := 4, overdue := false } ∧
      (((unpowered waiting).boom .s1).level = 0 ∧ ((unpowered waiting).boom .s1).auto = .idle) ∧
      ((unpowered (retractRests .retracted)).boom .s2).retract =
        some { sub := .retracted, ticks := 0, overdue := false } := by decide +kernel

theorem witness_DriveReturnResumesRetracts_line :
    (rig.unhurried ∧ rig.settled ∧ rig.driveLine = some true ∧ rig.drive ≠ some false) ∧
      ((fallen rig).unhurried ∧ (fallen rig).settled ∧ (fallen rig).driveLine ≠ some true ∧ (fallen rig).mode ≠ .config ∧
        (fallen rig).fits .s1 = true) := by decide +kernel

/-- A boom whose position run is at its limit. -/
def lost (s : State) (b : Slot) : State := s.setBoom b { s.boom b with posLoss := 20 }

theorem witness_TimersStopTheBoom_position :
    (((lost mixed .s1).boom .s1).running = some (.active, inPhase .mixing) ∧ ((lost mixed .s1).boom .s1).posLoss = 20 ∧
      (lost mixed .s1).fits .s1 = true ∧ (lost mixed .s1).flowQuiet ∧ (lost mixed .s1).drive = some true) ∧
      (((lost mixed2 .s1).boom .s1).running = some (.reEngage, inPhase .holding) ∧
        ((lost mixed2 .s1).boom .s1).posLoss = 20 ∧ (lost mixed2 .s1).flowQuiet ∧ (lost mixed2 .s1).drive = some true) := by
  decide +kernel

/-- Boom 2 at its torque timeout on a peak, under the enable set of a reset. -/
def peaked (peak : Nat) : State :=
  let s := withBoom (.cycle .active { torqueHole [] with peak := peak }) 18000 35 rig
  s.setBoom .s2 { s.boom .s2 with enabled := CondSet.defaultEnabled }

theorem witness_TorqueTimeoutEndsOnPeak_unraised :
    ((peaked 3200).fits .s2 = true ∧ (peaked 3200).unhurried ∧ (peaked 3200).flowQuiet ∧
      ((peaked 3200).boom .s2).running = some (.active, { torqueHole [] with peak := 3200 }) ∧
      recipe.torqueTimeout ≤ 10 * ticksSince (rig.clock + 1) 4401 ∧
      min rig.params.demandReleasing rig.params.pumpCapacity ≤ (peaked 3200).grant .s2 ∧
      ((peaked 3200).boom .s2).posted = 0 ∧ CondSet.has ((peaked 3200).boom .s2).enabled .torqueTimeout = false ∧
      recipe.tensionMin ≤ tensionOf recipe 3200 ∧ tensionOf recipe 3200 ≤ recipe.tensionMax) ∧
      (enters (sampling (torqueHole [3200, 3300]) 18000 35 (light 3250)) (torqueHole [3200, 3300]) ∧
        ((sampling (torqueHole [3200, 3300]) 18000 35 (light 3250)).boom .s2).enabled = CondSet.defaultEnabled ∧
        ((sampling (torqueHole [3200, 3300]) 18000 35 (light 3250)).boom .s2).newlyOut = false) := by decide +kernel

theorem witness_FrameCarriesItsRequest_longest :
    (Instr.loadRecipe 7 4 secondLoad).carries 7 (.loadRecipe 4 secondLoad) ∧
      (Request.loadRecipe 4 secondLoad).wellFormed = true ∧ (Request.go 2).wellFormed = true :=
  ⟨⟨rfl, rfl⟩, by decide, by decide⟩

theorem witness_TransmitterChoosesInOrder_idle :
    (rig.link.sending = none ∧ rig.unhurried ∧ rig.startNext = rig) ∧
      (State.reset.link.sending = none ∧ State.reset.unhurried ∧ State.reset.link.restarting = false ∧
        State.reset.startNext.link.sending.map Frame.kind = some 0x72) := by decide +kernel

/-- Boom 2 stopped in its hole at the limit of its home depth. -/
def stoppedAtHome : State :=
  withBoom (.exception (frame .inPhase .feedStall 0 .drilling .drilling) (inPhase .drilling)) 200 45 rig

theorem witness_AbandonAtHomeEndsTheHole_requests :
    (∀ s ∈ [atHome 0, atHome 48, stoppedAtHome],
      s.ready ∧ s.requested = none ∧ s.slotOf 2 = some .s2 ∧ s.waitsAlone .s2 ∧ (s.boom .s2).level = 0 ∧
        s.depth .s2 ≤ 10 * s.params.homeTolerance) ∧
      ((atHome 0).boom .s2).auto = .cycle .active (inPhase .drilling) ∧
      (stoppedAtHome.boom .s2).auto =
        .exception (frame .inPhase .feedStall 0 .drilling .drilling) (inPhase .drilling) := by decide +kernel

/-- The part with boom 4 outside FITTED_BOOMS. -/
def noSlot : State := { rig with params := { rig.params with fittedBooms := 7 } }

/-- A request for a slot that is not there: the state takes it and no slot is named. -/
abbrev unfitted (boom : Byte) : Prop := noSlot.ready ∧ noSlot.settled ∧ noSlot.slotOf boom = none

theorem witness_TakeoverSetsWorkAside_unfitted : unfitted 0 ∧ unfitted 4 ∧ unfitted 5 := by decide +kernel

theorem witness_ManualDriveDrivesOrDiscards_unfitted : unfitted 0 ∧ unfitted 4 ∧ unfitted 5 := by decide +kernel

theorem witness_HandbackPopsTheTakeover_unfitted : unfitted 0 ∧ unfitted 4 ∧ unfitted 5 := by decide +kernel

theorem witness_SafeRetractPullsTheBoom_unfitted : unfitted 0 ∧ unfitted 4 ∧ unfitted 5 := by decide +kernel

theorem witness_RetractClearNeedsTheLine_unfitted : unfitted 0 ∧ unfitted 4 ∧ unfitted 5 := by decide +kernel

theorem witness_MarkEndLogsTheHole_unfitted : unfitted 0 ∧ unfitted 4 ∧ unfitted 5 := by decide +kernel

/-! ### Small checks of what several rules share -/

/-- R134, R192: a resume whose start check fails queues BOOM_STATUS although the view is as it was. -/
theorem test_failed_start_queues_status :
    let s := { stoppedBoom (frame .inPhase .feedStall 0 .holding .holding) { inPhase .holding with mixEnd := some 4900 } with
      drive := some false }
    (after (.resolveContinue 7 2 none) s).link.boomStatus.get .s2 = true := by decide +kernel

/-- R126: GET_FLOW after a timer row at the tick falling due shows a wait of 0. -/
theorem test_wait_after_timer_row :
    (after (.flowStarved .s2) starving).arbiter.waitList.map
        (fun e => (((after (.flowStarved .s2) starving).waitBytes e).drop 6).take 4) = [le4 0] := by decide +kernel

/-- R114: a boom that joins now stands ahead of one that a timer row placed at the tick falling due. -/
theorem test_join_order :
    let e : WaitEntry :=
      { requester := .boom .s1, cls := .curing, demand := 45, join := 5000, waitStart := 5000, backedOff := false }
    let ahead := { e with requester := .boom .s3, join := 5001, joinAhead := true }
    placeEntry e [ahead] = [e, ahead] := by decide +kernel

/-- R186: an entry that no timer row placed, whose wait start is one ahead of the clock, has waited 2^32 - 1 ticks. -/
theorem test_wait_goes_round :
    ticksWaited 5000
      { requester := .reserve, cls := .urgent, demand := 1, join := 5001, waitStart := 5001, backedOff := false } =
        4294967295 := by decide

/-- R193, R195: after a reset the frame that ends is the MODE report, and the transmitter is then idle. -/
theorem test_first_frame_end :
    (after .frameTransmitEnd State.reset).link.modeReport = none ∧
      (after .frameTransmitEnd State.reset).link.sending = none := by decide +kernel

/-- R142: LINK_SILENT stops every moving boom, although the flow the first one gives up lets the waiting reserve be granted. -/
theorem test_silence_stops_all :
    let e : WaitEntry :=
      { requester := .reserve, cls := .urgent, demand := 100, join := 4000, waitStart := 4000, backedOff := false }
    let s := after .linkSilent { flowCase with
      arbiter := { flowCase.arbiter with waitList := [e] }, link := { flowCase.link with silenceTicks := 99 } }
    ∀ b ∈ Slot.all, (s.boom b).view.state = 2 := by decide +kernel

/-- R188: a frame whose length field is above 1024 is hunted from the byte after it, and a marker there starts a frame. -/
theorem test_long_frame_hunts :
    (([0xC3, 0x01, 0x04, 0xC3] : List Byte).foldl Link.receiveByte rig.link).assembler = .header [] := by decide +kernel

/-! ### The profile, the wait list and the layouts -/

theorem witness_SampleTickReads_policies :
    (let s : State := { drilling with params := { drilling.params with torquePolicy := 2 } };
      s.unhurried ∧ s.fits .s2 = true ∧ s.params.thrustPolicy = 0 ∧ s.params.torquePolicy = 2 ∧ s.params.speedPolicy = 1) ∧
      readingsInRange outReadings.b2 = true ∧ (outReadings.get .s2).thrust = .low ∧ (outReadings.get .s2).torque = .high ∧
      (outReadings.get .s2).position = .high := by decide +kernel

/-- An interval one sample short of full, at the place it starts. -/
def almostFull (start : Nat) : Machine.Interval :=
  { start := start, samples := 4094, sumForce := 0, forceCount := 0, sumWork := 0, workCount := 0, drops := 4094 }

/-- Boom 2 at a depth, its profile's last interval one sample short of full. -/
def beforeForced (s : State) (start : Nat) : State :=
  s.setBoom .s2 { s.boom .s2 with
    inForce := light 0, wasEligible := true,
    profile := { Profile.openFor recipe with frontier := start, interval := some (almostFull start) } }

/-- Boom 2's profile meets what the tick's own FORCED close asks. -/
abbrev closesForced (s : State) (iv : Machine.Interval) : Prop :=
  (s.boom .s2).profile.cond = .opened ∧ (s.boom .s2).profile.interval = some iv ∧ iv.samples = 4094 ∧
    (s.boom .s2).profile.frontier ≤ s.depth .s2 + 10 ∧
    max (s.boom .s2).profile.frontier (s.depth .s2) < iv.start + 10 * s.params.profileInterval

theorem witness_ForcedCloseStartsAfresh_tick :
    (let s := beforeForced drilling 15010;
      closesForced s (almostFull 15010) ∧ (s.boom .s2).running = some (.active, inPhase .drilling) ∧
        s.depth .s2 < plan.target ∧ noStop s (inPhase .drilling)) ∧
      (let s := beforeForced (withBoom (.cycle .active (inPhase .collaring)) 299 30 rig) 100;
        closesForced s (almostFull 100) ∧ (s.boom .s2).running = some (.active, inPhase .collaring) ∧
          s.depth .s2 < 10 * recipe.collarDepth ∧ noStop s (inPhase .collaring)) ∧
      (let s := beforeForced observing 14801;
        closesForced s (almostFull 14801) ∧ (s.boom .s2).level = 0 ∧ (s.boom .s2).auto = .observing plan ∧
          0 < (s.boom .s2).inForce.speed.getD 0 ∧ (s.boom .s2).wasEligible = true) := by decide +kernel

/-- R69: the tick closes the interval itself at the 4095th sample. -/
theorem test_tick_forced_close :
    ((((beforeForced observing 15010).contextSample .s2).boom .s2).profile.bands.map Band.isForced) = [true] := by decide +kernel

/-- An open profile with a frontier. -/
def openAt (frontier start : Nat) : Profile :=
  { Profile.openFor recipe with frontier := frontier, interval := some (Interval.opensAt start) }

theorem witness_ForcedCloseStartsAfresh_profile :
    ((openAt 12000 11990).cond = .opened ∧ (openAt 12000 11990).interval = some (Interval.opensAt 11990) ∧
      (openAt 12000 11990).truncated = false) ∧
      (11989 + 10 < (openAt 12000 11990).frontier ∧ (openAt 12000 11990).frontier ≤ 11990 + 10) ∧
      (11990 + 10 * 20 ≤ max 12000 12190 ∧ max 12000 12189 < 11990 + 10 * 20) ∧
      (4095 ≤ ((almostFull 11990).withSample none none none).samples ∧
        ((Interval.opensAt 11990).withSample none none none).samples < 4095) ∧
      ((openAt 12000 11991).frontier < 11991 + 10 ∧ 11990 + 10 ≤ (openAt 12000 11990).frontier) ∧
      (12010 ≤ (openAt 12000 11990).frontier + 10 ∧ (openAt 12000 11990).frontier + 10 < 12011) ∧
      Profile.vacant.cond ≠ .opened := by decide

theorem witness_EvaluationStaysWithinCapacity_head :
    (waiting.arbiter.waitList.length = 3 ∧ waiting.free < 45 - waiting.grant .s2 ∧
      (waiting.arbiter.waitList.head?.map WaitEntry.cls) = some .normal) ∧
      ((reserveWaits 0).arbiter.waitList.map WaitEntry.cls = [.urgent] ∧
        (reserveWaits 0).free + (reserveWaits 0).backableFlow < 100 - (reserveWaits 0).arbiter.reserve) ∧
      100 - (reserveWaits 100).arbiter.reserve ≤ (reserveWaits 100).free ∧
      (flowCase.free < 100 - flowCase.arbiter.reserve ∧
        100 - flowCase.arbiter.reserve ≤ flowCase.free + flowCase.backableFlow) ∧
      (flowCase.backable .s4 = true ∧ flowCase.backable .s1 = false ∧ 0 ≤ flowCase.free) ∧ rig.flowQuiet := by decide +kernel

/-- Boom 2 drilling, with an URGENT, a CURING, a marked and an unmarked NORMAL entry waiting. -/
def lined : State :=
  let e : WaitEntry :=
    { requester := .reserve, cls := .urgent, demand := 160, join := 4000, waitStart := 4000, backedOff := false }
  { rig with
    booms :=
      { b1 := { Boom.fresh with auto := .cycle .waitFlow (inPhase .mixing) }
        b2 := drilling.boom .s2
        b3 := { Boom.fresh with auto := .cycle .backedOff (inPhase .drilling) }
        b4 := { Boom.fresh with auto := .cycle .waitFlow (inPhase .drilling) } }
    arbiter :=
      { grants := { b1 := 0, b2 := 45, b3 := 0, b4 := 0 }, reserve := 115, grantList := [.boom .s2, .reserve]
        waitList :=
          [e, { e with requester := .boom .s1, cls := .curing, demand := 45 },
           { e with requester := .boom .s3, cls := .normal, demand := 45, backedOff := true },
           { e with requester := .boom .s4, cls := .normal, demand := 45 }] } }

theorem served_lined : lined.Served where
  capacity := show lined.arbiter.total ≤ lined.params.pumpCapacity by decide +kernel
  entries := by
    intro e he b hb
    have k : ∀ e ∈ lined.arbiter.waitList,
        e.requester = .reserve ∨ e.requester = .boom .s1 ∨ e.requester = .boom .s3 ∨ e.requester = .boom .s4 := by decide +kernel
    rcases k e he with h | h | h | h <;> rw [h] at hb <;> cases hb
    · exact Or.inl rfl
    · exact Or.inr rfl
    · exact Or.inl rfl
  once := by decide +kernel
  order := by decide +kernel
  restful := by intro b; cases b <;> decide +kernel
  unfitted := by intro b; cases b <;> decide +kernel
  config := nofun
  writersOnce := by decide +kernel
  writersWait := by
    intro b
    refine ⟨fun h => ?_, fun ⟨r, h⟩ => ?_⟩
    · have k : lined.writers = [] := by decide +kernel
      rw [k] at h; cases h
    · cases b <;> cases h
  logFull := fun h => absurd (by decide +kernel : lined.writers = []) h

theorem witness_BackoffTakesTheGrant_lined :
    lined.Served ∧ lined.fits .s2 = true ∧ (lined.boom .s2).running = some (.active, inPhase .drilling) :=
  ⟨served_lined, by decide +kernel, rfl⟩

theorem witness_BackoffTakesTheGrant_topUp :
    (∀ e ∈ lined.arbiter.waitList, e.requester ≠ .boom .s2) ∧
      ∃ l w m, lined.arbiter.waitList = l ++ w :: m ∧ w.requester = .boom .s4 ∧ (∀ e ∈ l ++ m, e.requester ≠ .boom .s4) ∧
        w.cls = .normal ∧ w.cls ≠ .urgent := by
  refine ⟨by decide +kernel, lined.arbiter.waitList.take 3, _, [], rfl, rfl, by decide +kernel, rfl, by decide⟩

/-- R121: the backed-off boom stands behind the marked entry and ahead of the unmarked one. -/
theorem test_backoff_place :
    (lined.backOff .s2).arbiter.waitList.map WaitEntry.requester =
      [.reserve, .boom .s1, .boom .s3, .boom .s2, .boom .s4] := by decide +kernel

/-- Boom 2 in the middle of the worked figures of 4.7. -/
def profiled : State :=
  drilling.setBoom .s2 { drilling.boom .s2 with
    profile :=
      { Profile.openFor recipe with
        frontier := 1290, refSE := 504, lastSE := 260
        interval := some { Interval.opensAt 1212 with samples := 46, forceCount := 46, workCount := 46 }
        bands :=
          [Band.figures .collar 0 406 2 180 420 600, Band.figures .competent 406 808 2 470 566 1036,
           Band.figures .void 808 1010 1 60 60 60, Band.figures .soft 1010 1212 1 260 260 260] } }

theorem vacant_sound : Profile.vacant.Sound :=
  ⟨by decide, by decide, ⟨0, rfl, by decide, nofun⟩, by decide, by decide, nofun, by decide, fun _ => rfl⟩

theorem profiled_profiled : profiled.Profiled where
  sound := by
    intro b
    cases b
    · exact vacant_sound
    · refine ⟨by decide +kernel, by decide +kernel,
        ⟨1212, ⟨rfl, by decide, rfl, by decide, rfl, by decide, rfl, by decide, rfl⟩, by decide +kernel, ?_⟩,
        by decide +kernel, by decide +kernel, ?_, by decide +kernel, nofun⟩
      · intro iv h; cases h; rfl
      · intro iv h; cases h; decide
    · exact vacant_sound
    · exact vacant_sound
  opened := by intro b; cases b <;> decide +kernel
  position := by intro b; cases b <;> decide +kernel
  recipes := by
    intro i r h
    have k : ∀ i, rig.recipeAt i = none ∨ rig.recipeAt i = some recipe := by decide +kernel
    rcases k i with k | k <;> (rw [show profiled.recipeAt i = rig.recipeAt i from rfl, k] at h; cases h)
    decide

theorem witness_StepKeepsBounds_profiles : profiled.Profiled ∧
    ∃ t, step { profiled with pending := [.sampleTick true false (readings .low .low .low .low)] } = .next t :=
  ⟨profiled_profiled, _, rfl⟩

theorem witness_TransmitterChoosesInOrder_views :
    ((retractRests .retracted).boom .s2).retract = some { sub := .retracted, ticks := 0, overdue := false } ∧
      ((waiting.boom .s4).retract = none ∧ (waiting.boom .s4).manual = some { sub := .waitFlow, hold := none, away := 0 }) ∧
      ((waiting.boom .s1).retract = none ∧ (waiting.boom .s1).manual = none ∧ (waiting.boom .s1).auto = .idle) ∧
      (waiting.boom .s3).auto = .abandoning .waitFlow (inPhase .drilling) ∧
      (logFull.boom .s2).auto = .logWait record ∧ (observing.boom .s2).auto = .observing plan := by decide +kernel

theorem witness_DeviceAndPlanReads_layouts :
    (lined.fittedSlots.length = 4 ∧ lined.fittedSlots[3]? = some .s4 ∧ (lined.boom .s2).raw = none ∧
      (((after (.sampleTick true false outReadings) lined).boom .s2).raw) = some (outReadings.get .s2)) ∧
      (lined.arbiter.grantList[1]? = some .reserve ∧ lined.arbiter.waitList.length = 4 ∧
        (lined.arbiter.waitList[3]?.map WaitEntry.requester) = some (.boom .s4)) ∧
      ({ holeId := 102, recipeSlot := 3, posTag := 1042, depth := some 1200 } : QueueEntry).depth = some 1200 := by
  decide +kernel

theorem witness_HoleReads_layouts :
    ((profiled.boom .s2).profile.bands.length = 4 ∧
      (profiled.boom .s2).profile.bands[3]? = some (Band.figures .soft 1010 1212 1 260 260 260)) ∧
      ({ record with resolves := [(.poorAnchor, .setCartridges)] } : BoltRecord).resolves[0]? =
        some (.poorAnchor, .setCartridges) := by decide +kernel

theorem witness_SetParamTreatsByKind_bounds :
    ((39 : Int) < (40 : Nat) ∧ ((400 : Nat) : Int) < 401 ∧ (40 : Nat) ≤ 400 ∧ (36 : Nat) < 37) ∧
      ((-1 : Int) ≤ 0 ∧ (0 : Int) < 199 ∧ (199 : Int) < (200 : Nat) ∧ ((5000 : Nat) : Int) < 5001) ∧
      ((-1 : Int) < 0 ∧ (2 : Int) < 3 ∧ (0 : Int) < 1 ∧ (15 : Int) < 16) := by decide

theorem witness_WorkedFigures_merge :
    ∃ (p : Profile) (l : List Band), p.cond = .opened ∧ p.frontier = 14420 ∧ p.interval = some (Interval.opensAt 14420) ∧
      p.refSE = 500 ∧ p.collarLimit = 300 ∧ l.length = 31 ∧
      p.bands = l ++ [Band.figures .soft 14200 14420 1 240 240 240] :=
  ⟨{ openAt 14420 14420 with
      bands := List.replicate 31 (Band.figures .collar 0 0 1 1 1 1) ++ [Band.figures .soft 14200 14420 1 240 240 240] },
    _, rfl, rfl, rfl, rfl, rfl, rfl, rfl⟩

end Sys2Proof.Tests
end

section
/-! SUPPORT. What a request taken at once answers: its own decision on the state the arrival leaves, then the memory of the CHUCK
outputs and the reply (R189 to R191). -/

namespace Sys2Proof.Machine

/-! ## The state a request meets -/

/-- The arrival of a frame changes the link alone (R189, R193). -/
theorem heard_link (s : State) : ∃ l, s.heard = { s with link := l } := by
  obtain ⟨l, h, -⟩ := startNext_link { s with link := { s.link with assembler := .hunt, silenceTicks := 0, silent := false } }
  exact ⟨l, h⟩

@[simp] theorem heard_mode (s : State) : s.heard.mode = s.mode := by
  obtain ⟨l, h⟩ := heard_link s; rw [h]

@[simp] theorem heard_recipeAt (s : State) (i : Fin 16) : s.heard.recipeAt i = s.recipeAt i := by
  obtain ⟨l, h⟩ := heard_link s; rw [h]; rfl

@[simp] theorem heard_recipeNamed (s : State) (i : Nat) : s.heard.recipeNamed i = s.recipeNamed i := by
  obtain ⟨l, h⟩ := heard_link s; rw [h]; rfl

/-- Whether a mode change is due does not depend on the link (R179). -/
theorem heard_settled {s : State} (h : s.settled) : s.heard.settled := by
  obtain ⟨l, e⟩ := heard_link s; rw [e]; exact h

/-- Whether a mode change is due does not depend on the recipes (R179). -/
theorem setRecipe_settled {s : State} (h : s.settled) (i : Fin 16) (r : Option Recipe) : (s.setRecipe i r).settled := h

/-! ## The reply -/

/-- A request at a ready link whose decision leaves no mode change due: its effect, the memory of the CHUCK outputs, and its
reply (R190). -/
theorem requestArrives_answered {s t : State} {r : Request} {reply : Reply} {kind : Byte} (tag : Byte) (ready : s.ready)
    (fits : r.payload.length ≤ 505) (replyKind : r.kind ||| 0x80#8 = kind)
    (decoded : decodeRequest r.kind r.payload = .request r)
    (decided : handleRequest r s.heard = (t, reply)) (settled : t.settled) :
    s.requestArrives tag r =
      t.noted.answered kind tag
        (le1 reply.status.code ++ (if reply.status.code < 8 then reply.figures else [])) := by
  have taken : handleFrame { kind := r.kind, tag := tag, payload := r.payload } s.heard = (t, reply) := by
    unfold handleFrame; rw [decoded]; exact decided
  rw [requestArrives_ready ready tag r fits, taken, settle_settled settled, ← replyKind]
  rfl

/-- The payload of a reply that carries its status alone (R190). -/
theorem plain_payload (st : Status) :
    le1 (Reply.plain st).status.code ++ (if (Reply.plain st).status.code < 8 then (Reply.plain st).figures else []) =
      le1 st.code := by
  split <;> exact List.append_nil _

/-- A request whose reply carries its status alone (R191). -/
theorem requestArrives_plain {s t : State} {r : Request} {st : Status} {kind : Byte} (tag : Byte) (ready : s.ready)
    (fits : r.payload.length ≤ 505) (replyKind : r.kind ||| 0x80#8 = kind)
    (decoded : decodeRequest r.kind r.payload = .request r)
    (decided : handleRequest r s.heard = (t, Reply.plain st)) (settled : t.settled) :
    s.requestArrives tag r = t.noted.answered kind tag (le1 st.code) := by
  rw [requestArrives_answered tag ready fits replyKind decoded decided settled, plain_payload]

/-- A request refused at a ready link changes nothing but the link (R190, R191). -/
theorem requestArrives_refused {s : State} {r : Request} {st : Status} {kind : Byte} (tag : Byte) (ready : s.ready)
    (settled : s.settled) (fits : r.payload.length ≤ 505) (replyKind : r.kind ||| 0x80#8 = kind)
    (decoded : decodeRequest r.kind r.payload = .request r)
    (decided : handleRequest r s.heard = s.heard.refuse st) :
    s.requestArrives tag r = s.refused kind tag st :=
  requestArrives_plain tag ready fits replyKind decoded decided (heard_settled settled)

end Sys2Proof.Machine
end

section
/-! SUPPORT. CLEAR_RECIPE decided case by case, and its obligation (R7). -/

namespace Sys2Proof.Machine

/-- A recipe slot is named when some entry of some queue names it (R7). -/
theorem recipeNamed_iff (s : State) (i : Nat) :
    s.recipeNamed i = true ↔ ∃ b, ∃ e ∈ s.queues.get b, e.recipeSlot = i := by
  have all : ∀ b, b ∈ Slot.all := by intro b; cases b <;> decide
  simp [State.recipeNamed, all]

/-! ## The decision -/

section decision

variable {s : State} {slot : Byte} {i : Fin 16} {r : Recipe}

theorem reqClearRecipe_of_mode_ne (mode : s.mode ≠ .config) : reqClearRecipe slot s = s.refuse .refusedMode := by
  unfold reqClearRecipe; rw [if_pos mode]

theorem reqClearRecipe_of_no_index (mode : s.mode = .config) (index : recipeIndex slot = none) :
    reqClearRecipe slot s = s.refuse .badArg := by
  simp [reqClearRecipe, mode, index]

theorem reqClearRecipe_of_empty (mode : s.mode = .config) (index : recipeIndex slot = some i)
    (empty : s.recipeAt i = none) : reqClearRecipe slot s = s.refuse .already := by
  simp [reqClearRecipe, mode, index, empty]

theorem reqClearRecipe_of_named (mode : s.mode = .config) (index : recipeIndex slot = some i)
    (holds : s.recipeAt i = some r) (named : s.recipeNamed i.val = true) : reqClearRecipe slot s = s.refuse .inUse := by
  simp [reqClearRecipe, mode, index, holds, named]

theorem reqClearRecipe_of_unnamed (mode : s.mode = .config) (index : recipeIndex slot = some i)
    (holds : s.recipeAt i = some r) (unnamed : s.recipeNamed i.val = false) :
    reqClearRecipe slot s = (s.setRecipe i none).done := by
  simp [reqClearRecipe, mode, index, holds, unnamed]

end decision

/-! ## The command -/

/-- The reply's kind is the request's with the top bit set (R190, R199). -/
theorem clearRecipe_replyKind (slot : Byte) : (Request.clearRecipe slot).kind ||| 0x80#8 = 0x87 := by
  show (0x07 : Byte) ||| 0x80#8 = 0x87
  decide

/-- CLEAR_RECIPE refused by its decision on the state its arrival leaves. -/
theorem exec_clearRecipe_refused {s : State} {slot : Byte} {st : Status} (tag : Byte) (ready : s.ready) (settled : s.settled)
    (decided : reqClearRecipe slot s.heard = s.heard.refuse st) :
    exec (.clearRecipe tag slot) s = .next (s.refused 0x87 tag st) :=
  congrArg Host.Outcome.next
    (requestArrives_refused (r := .clearRecipe slot) tag ready settled (by simp [Request.payload]) (clearRecipe_replyKind slot)
      rfl decided)

/-- CLEAR_RECIPE taken by its decision on the state its arrival leaves: the slot is emptied under OK (R7). -/
theorem exec_clearRecipe_done {s : State} {slot : Byte} {i : Fin 16} (tag : Byte) (ready : s.ready) (settled : s.settled)
    (decided : reqClearRecipe slot s.heard = (s.heard.setRecipe i none).done) :
    exec (.clearRecipe tag slot) s =
      .next (({ s.heard with recipes := s.recipes.set i none } : State).noted.answered 0x87 tag (le1 0)) := by
  have emptied : s.heard.setRecipe i none = { s.heard with recipes := s.recipes.set i none } := by
    obtain ⟨l, h⟩ := heard_link s; rw [h]; rfl
  rw [← emptied]
  exact congrArg Host.Outcome.next
    (requestArrives_plain (r := .clearRecipe slot) tag ready (by simp [Request.payload]) (clearRecipe_replyKind slot)
      rfl decided (setRecipe_settled (heard_settled settled) i none))

/-- Settles O30: each clause is one branch of the decision, made on the state the frame's arrival leaves. -/
theorem clearRecipeKeepsNamedSlots : Obligations.ClearRecipeKeepsNamedSlots := by
  unfold Obligations.ClearRecipeKeepsNamedSlots
  intro s tag slot ready settled
  refine ⟨fun mode => ?_, fun mode index => ?_, fun i mode index => ⟨fun empty => ?_, fun r b e holds mem names => ?_,
    fun r holds free => ?_⟩⟩
  · exact exec_clearRecipe_refused tag ready settled (reqClearRecipe_of_mode_ne (by simpa using mode))
  · exact exec_clearRecipe_refused tag ready settled (reqClearRecipe_of_no_index (by simpa using mode) index)
  · exact exec_clearRecipe_refused tag ready settled (reqClearRecipe_of_empty (by simpa using mode) index (by simpa using empty))
  · have named : s.recipeNamed i.val = true := (recipeNamed_iff s i.val).2 ⟨b, e, mem, names⟩
    exact exec_clearRecipe_refused tag ready settled
      (reqClearRecipe_of_named (by simpa using mode) index (by simpa using holds) (by simpa using named))
  · have unnamed : s.recipeNamed i.val = false := by
      rw [Bool.eq_false_iff, ne_eq, recipeNamed_iff]
      rintro ⟨b, e, mem, names⟩
      exact free b e mem names
    exact exec_clearRecipe_done tag ready settled
      (reqClearRecipe_of_unnamed (by simpa using mode) index (by simpa using holds) (by simpa using unnamed))

end Sys2Proof.Machine
end

section
/-! SUPPORT. GO's refusals decided check by check, and their obligation (R35). -/

namespace Sys2Proof.Machine

/-! ## What GO's checks read of the state a request meets -/

@[simp] theorem heard_slotOf (s : State) (boom : Byte) : s.heard.slotOf boom = s.slotOf boom := by
  obtain ⟨l, h⟩ := heard_link s; rw [h]; rfl

@[simp] theorem heard_requested (s : State) : s.heard.requested = s.requested := by
  obtain ⟨l, h⟩ := heard_link s; rw [h]

@[simp] theorem heard_boom (s : State) (b : Slot) : s.heard.boom b = s.boom b := by
  obtain ⟨l, h⟩ := heard_link s; rw [h]; rfl

@[simp] theorem heard_lineOn (s : State) : s.heard.lineOn = s.lineOn := by
  obtain ⟨l, h⟩ := heard_link s; rw [h]; rfl

@[simp] theorem heard_driveOn (s : State) : s.heard.driveOn = s.driveOn := by
  obtain ⟨l, h⟩ := heard_link s; rw [h]; rfl

@[simp] theorem heard_queues (s : State) : s.heard.queues = s.queues := by
  obtain ⟨l, h⟩ := heard_link s; rw [h]

theorem Boom.idleAtZero_iff (x : Boom) : x.idleAtZero = true ↔ x.auto = .idle ∧ x.level = 0 := by
  simp [Boom.idleAtZero]

theorem Boom.idleAtZero_eq_false_iff (x : Boom) : x.idleAtZero = false ↔ x.auto ≠ .idle ∨ x.level ≠ 0 := by
  rw [Bool.eq_false_iff, ne_eq, x.idleAtZero_iff, not_and_or]

/-! ## The decision -/

section decision

variable {s : State} {boom : Byte} {b : Slot}

theorem reqGo_of_no_slot (slot : s.slotOf boom = none) : reqGo boom s = s.refuse .badArg := by
  simp [reqGo, slot]

theorem reqGo_of_mode_ne (slot : s.slotOf boom = some b) (mode : s.mode ≠ .run) :
    reqGo boom s = s.refuse .refusedMode := by
  simp [reqGo, slot, mode]

theorem reqGo_of_requested (slot : s.slotOf boom = some b) (mode : s.mode = .run) (pending : s.requested ≠ none) :
    reqGo boom s = s.refuse .pendingMode := by
  simp [reqGo, slot, mode, pending]

theorem reqGo_of_not_idle (slot : s.slotOf boom = some b) (mode : s.mode = .run) (free : s.requested = none)
    (busy : (s.boom b).idleAtZero = false) : reqGo boom s = s.refuse .refusedState := by
  simp [reqGo, slot, mode, free, busy]

/-- The retract line asserted and drive-enable absent refuse alike, so their order does not show (R35). -/
theorem reqGo_of_cause (slot : s.slotOf boom = some b) (mode : s.mode = .run) (free : s.requested = none)
    (idle : (s.boom b).idleAtZero = true) (cause : s.lineOn = true ∨ s.driveOn = false) :
    reqGo boom s = s.refuse .causePresent := by
  rcases cause with line | drive
  · simp [reqGo, slot, mode, free, idle, line]
  · simp [reqGo, slot, mode, free, idle, drive]

theorem reqGo_of_no_entry (slot : s.slotOf boom = some b) (mode : s.mode = .run) (free : s.requested = none)
    (idle : (s.boom b).idleAtZero = true) (line : s.lineOn = false) (drive : s.driveOn = true)
    (empty : s.queues.get b = []) : reqGo boom s = s.refuse .empty := by
  simp [reqGo, slot, mode, free, idle, line, drive, empty]

end decision

/-! ## The command -/

/-- The reply's kind is the request's with the top bit set (R190, R199). -/
theorem go_replyKind (boom : Byte) : (Request.go boom).kind ||| 0x80#8 = 0x8D := by
  show (0x0D : Byte) ||| 0x80#8 = 0x8D
  decide

/-- GO refused by its decision on the state its arrival leaves. -/
theorem exec_go_refused {s : State} {boom : Byte} {st : Status} (tag : Byte) (ready : s.ready) (settled : s.settled)
    (decided : reqGo boom s.heard = s.heard.refuse st) : exec (.go tag boom) s = .next (s.refused 0x8D tag st) :=
  congrArg Host.Outcome.next
    (requestArrives_refused (r := .go boom) tag ready settled (by simp [Request.payload]) (go_replyKind boom) rfl decided)

/-- Settles O35: each check refuses on the state the frame's arrival leaves, which differs from the one before in its link alone. -/
theorem goChecksInOrder : Obligations.GoChecksInOrder := by
  unfold Obligations.GoChecksInOrder
  intro s tag boom ready settled
  refine ⟨fun noSlot => ?_, fun b slot => ?_⟩
  · exact exec_go_refused tag ready settled (reqGo_of_no_slot (by simpa using noSlot))
  have slot' : s.heard.slotOf boom = some b := by simpa using slot
  refine ⟨fun mode => ?_, fun mode => ?_⟩
  · exact exec_go_refused tag ready settled (reqGo_of_mode_ne slot' (by simpa using mode))
  have mode' : s.heard.mode = .run := by simpa using mode
  refine ⟨fun m pending => ?_, fun free => ?_⟩
  · exact exec_go_refused tag ready settled (reqGo_of_requested slot' mode' (by simp [pending]))
  have free' : s.heard.requested = none := by simpa using free
  refine ⟨fun busy => ?_, fun idle level => ?_⟩
  · have notIdle : (s.heard.boom b).idleAtZero = false := by simpa using (s.boom b).idleAtZero_eq_false_iff.2 busy
    exact exec_go_refused tag ready settled (reqGo_of_not_idle slot' mode' free' notIdle)
  have idle' : (s.heard.boom b).idleAtZero = true := by simpa using (s.boom b).idleAtZero_iff.2 ⟨idle, level⟩
  refine ⟨fun cause => ?_, fun line drive empty => ?_⟩
  · exact exec_go_refused tag ready settled (reqGo_of_cause slot' mode' free' idle' (by simpa using cause))
  · exact exec_go_refused tag ready settled
      (reqGo_of_no_entry slot' mode' free' idle' (by simpa using line) (by simpa using drive) (by simpa using empty))

end Sys2Proof.Machine
end

section
/-! SUPPORT. MARK_START decided check by check and the observed hole it opens, and their obligation (R181). -/

namespace Sys2Proof.Machine

/-! ## What MARK_START's checks read of the state a request meets -/

@[simp] theorem heard_clock (s : State) : s.heard.clock = s.clock := by
  obtain ⟨l, h⟩ := heard_link s; rw [h]

@[simp] theorem heard_recipeOf (s : State) (slot : Byte) : s.heard.recipeOf slot = s.recipeOf slot := by
  obtain ⟨l, h⟩ := heard_link s; rw [h]; rfl

@[simp] theorem heard_idHeld (s : State) (id : Nat) : s.heard.idHeld id = s.idHeld id := by
  obtain ⟨l, h⟩ := heard_link s; rw [h]; rfl

/-! ## The observed hole -/

/-- The plan an accepted MARK_START gives the boom: the target is the recipe's own, no override (R181). -/
def observedPlan (id : Half) (slot : Byte) (pos : Half) (r : Recipe) (clock : Tick) : Plan :=
  { holeId := id.toNat, recipeSlot := slot.toNat, posTag := pos.toNat, recipe := r, target := 10 * r.targetDepth,
    start := clock }

/-- A boom at level 0 shows its level-0 context (R20). -/
theorem Boom.view_of_level_zero {x : Boom} (level : x.level = 0) : x.view = x.auto.view := by
  obtain ⟨retract, manual⟩ := level_zero level
  simp [Boom.view, retract, manual]

/-- The start of an observed hole stays at level 0 (R20, R181). -/
theorem Boom.startObserving_level (x : Boom) (p : Plan) : (x.startObserving p).level = x.level := rfl

/-- A boom IDLE at level 0 shows another state once it observes (R20, R181). -/
theorem Boom.startObserving_view_ne {x : Boom} {p : Plan} (auto : x.auto = .idle) (level : x.level = 0) :
    (x.startObserving p).view ≠ x.view := by
  rw [Boom.view_of_level_zero level, Boom.view_of_level_zero ((x.startObserving_level p).trans level), auto]
  simp [Boom.startObserving, Auto.view]

/-- So the start of an observed hole queues the boom's BOOM_STATUS (R181, R192). -/
theorem changeBoom_startObserving {s : State} {b : Slot} (p : Plan) (auto : (s.boom b).auto = .idle)
    (level : (s.boom b).level = 0) :
    s.changeBoom b ((s.boom b).startObserving p) = (s.setBoom b ((s.boom b).startObserving p)).queueStatus b := by
  unfold State.changeBoom; rw [if_neg (Boom.startObserving_view_ne auto level)]

/-- A change of one boom leaves the requested mode as it was. -/
@[simp] theorem changeBoom_requested (s : State) (b : Slot) (x : Boom) : (s.changeBoom b x).requested = s.requested := by
  obtain ⟨q, h⟩ := changeBoom_link s b x; rw [h]

/-! ## The decision -/

section decision

variable {s : State} {boom slot : Byte} {id pos : Half} {b : Slot} {r : Recipe}

theorem reqMarkStart_of_no_slot (fitted : s.slotOf boom = none) : reqMarkStart boom id slot pos s = s.refuse .badArg := by
  simp [reqMarkStart, fitted]

theorem reqMarkStart_of_mode_ne (fitted : s.slotOf boom = some b) (mode : s.mode ≠ .observe) :
    reqMarkStart boom id slot pos s = s.refuse .refusedMode := by
  simp [reqMarkStart, fitted, mode]

theorem reqMarkStart_of_requested (fitted : s.slotOf boom = some b) (mode : s.mode = .observe)
    (pending : s.requested ≠ none) : reqMarkStart boom id slot pos s = s.refuse .pendingMode := by
  simp [reqMarkStart, fitted, mode, pending]

theorem reqMarkStart_of_not_idle (fitted : s.slotOf boom = some b) (mode : s.mode = .observe) (free : s.requested = none)
    (busy : (s.boom b).idleAtZero = false) : reqMarkStart boom id slot pos s = s.refuse .refusedState := by
  simp [reqMarkStart, fitted, mode, free, busy]

/-- A hole id of 0 and a slot without a recipe refuse alike, so their order does not show (R181). -/
theorem reqMarkStart_of_bad_arg (fitted : s.slotOf boom = some b) (mode : s.mode = .observe) (free : s.requested = none)
    (idle : (s.boom b).idleAtZero = true) (bad : id = 0 ∨ s.recipeOf slot = none) :
    reqMarkStart boom id slot pos s = s.refuse .badArg := by
  rcases bad with zero | empty
  · simp [reqMarkStart, fitted, mode, free, idle, zero]
  · simp [reqMarkStart, fitted, mode, free, idle, empty]

theorem reqMarkStart_of_held (fitted : s.slotOf boom = some b) (mode : s.mode = .observe) (free : s.requested = none)
    (idle : (s.boom b).idleAtZero = true) (nonzero : id ≠ 0) (holds : s.recipeOf slot = some r)
    (held : s.idHeld id.toNat = true) : reqMarkStart boom id slot pos s = s.refuse .duplicate := by
  simp [reqMarkStart, fitted, mode, free, idle, show id ≠ 0#16 from nonzero, holds, held]

theorem reqMarkStart_of_unheld (fitted : s.slotOf boom = some b) (mode : s.mode = .observe) (free : s.requested = none)
    (idle : (s.boom b).idleAtZero = true) (nonzero : id ≠ 0) (holds : s.recipeOf slot = some r)
    (unheld : s.idHeld id.toNat = false) :
    reqMarkStart boom id slot pos s =
      (s.changeBoom b ((s.boom b).startObserving (observedPlan id slot pos r s.clock))).done := by
  simp [reqMarkStart, observedPlan, fitted, mode, free, idle, show id ≠ 0#16 from nonzero, holds, unheld]

end decision

/-! ## The command -/

/-- A two-byte number is put together again from its two bytes (R188). -/
theorem halfOf_bytes (h : Half) : halfOf (h.extractLsb' 0 8) (h.extractLsb' 8 8) = h := by
  unfold halfOf
  rw [BitVec.extractLsb'_append_extractLsb'_eq_extractLsb' (by rfl)]
  exact BitVec.extractLsb'_eq_self

/-- MARK_START's six bytes give back its operands (R199). -/
theorem decode_markStart (boom : Byte) (id : Half) (slot : Byte) (pos : Half) :
    decodeRequest (Request.markStart boom id slot pos).kind (Request.markStart boom id slot pos).payload =
      .request (.markStart boom id slot pos) := by
  show Taken.request (.markStart boom (halfOf (id.extractLsb' 0 8) (id.extractLsb' 8 8)) slot
    (halfOf (pos.extractLsb' 0 8) (pos.extractLsb' 8 8))) = _
  rw [halfOf_bytes, halfOf_bytes]

/-- The reply's kind is the request's with the top bit set (R190, R199). -/
theorem markStart_replyKind (boom : Byte) (id : Half) (slot : Byte) (pos : Half) :
    (Request.markStart boom id slot pos).kind ||| 0x80#8 = 0x9D := by
  show (0x1D : Byte) ||| 0x80#8 = 0x9D
  decide

section command

variable {s : State} {boom slot : Byte} {id pos : Half}

/-- MARK_START answered with its status alone, by its decision on the state its arrival leaves. -/
theorem exec_markStart_plain {t : State} {st : Status} (tag : Byte) (ready : s.ready)
    (decided : reqMarkStart boom id slot pos s.heard = (t, Reply.plain st)) (settled : t.settled) :
    exec (.markStart tag boom id slot pos) s = .next (t.noted.answered 0x9D tag (le1 st.code)) :=
  congrArg Host.Outcome.next
    (requestArrives_plain (r := .markStart boom id slot pos) tag ready
      (by simp [Request.payload, halfBytes]) (markStart_replyKind boom id slot pos)
      (decode_markStart boom id slot pos) decided settled)

/-- MARK_START refused by its decision on the state its arrival leaves. -/
theorem exec_markStart_refused {st : Status} (tag : Byte) (ready : s.ready) (settled : s.settled)
    (decided : reqMarkStart boom id slot pos s.heard = s.heard.refuse st) :
    exec (.markStart tag boom id slot pos) s = .next (s.refused 0x9D tag st) :=
  exec_markStart_plain tag ready decided (heard_settled settled)

/-- MARK_START taken by its decision on the state its arrival leaves: the boom observes, its BOOM_STATUS is queued, and the
reply is OK (R181). -/
theorem exec_markStart_done {b : Slot} {p : Plan} (tag : Byte) (ready : s.ready) (free : s.requested = none)
    (auto : (s.boom b).auto = .idle) (level : (s.boom b).level = 0)
    (decided : reqMarkStart boom id slot pos s.heard =
      (s.heard.changeBoom b ((s.heard.boom b).startObserving p)).done) :
    exec (.markStart tag boom id slot pos) s =
      .next (((s.heard.setBoom b ((s.boom b).startObserving p)).queueStatus b).noted.answered 0x9D tag (le1 0)) := by
  have opened := changeBoom_startObserving (s := s.heard) p (by simpa using auto) (by simpa using level)
  rw [heard_boom] at opened decided
  rw [← opened]
  exact exec_markStart_plain tag ready decided (.inl (by simpa using free))

end command

/-- Settles O53: each check refuses on the state the frame's arrival leaves, which differs from the one before in its link
alone; past all of them the boom's change of state is the whole effect. -/
theorem markStartObserves : Obligations.MarkStartObserves := by
  unfold Obligations.MarkStartObserves
  intro s tag boom id slot pos ready settled
  refine ⟨fun unfitted => ?_, fun b fitted => ?_⟩
  · exact exec_markStart_refused tag ready settled (reqMarkStart_of_no_slot (by simpa using unfitted))
  have fitted' : s.heard.slotOf boom = some b := by simpa using fitted
  refine ⟨fun mode => ?_, fun mode => ?_⟩
  · exact exec_markStart_refused tag ready settled (reqMarkStart_of_mode_ne fitted' (by simpa using mode))
  have mode' : s.heard.mode = .observe := by simpa using mode
  refine ⟨fun pending => ?_, fun free => ?_⟩
  · exact exec_markStart_refused tag ready settled (reqMarkStart_of_requested fitted' mode' (by simpa using pending))
  have free' : s.heard.requested = none := by simpa using free
  refine ⟨fun busy => ?_, fun auto level => ?_⟩
  · have notIdle : (s.heard.boom b).idleAtZero = false := by simpa using (s.boom b).idleAtZero_eq_false_iff.2 busy
    exact exec_markStart_refused tag ready settled (reqMarkStart_of_not_idle fitted' mode' free' notIdle)
  have idle' : (s.heard.boom b).idleAtZero = true := by simpa using (s.boom b).idleAtZero_iff.2 ⟨auto, level⟩
  refine ⟨fun bad => ?_, fun r nonzero holds => ?_⟩
  · exact exec_markStart_refused tag ready settled (reqMarkStart_of_bad_arg fitted' mode' free' idle' (by simpa using bad))
  have holds' : s.heard.recipeOf slot = some r := by simpa using holds
  refine ⟨fun held => ?_, fun unheld => ?_⟩
  · exact exec_markStart_refused tag ready settled
      (reqMarkStart_of_held fitted' mode' free' idle' nonzero holds' (by simpa using held))
  · have taken := reqMarkStart_of_unheld (pos := pos) fitted' mode' free' idle' nonzero holds' (by simpa using unheld)
    rw [heard_clock] at taken
    exact exec_markStart_done tag ready free auto level taken

end Sys2Proof.Machine
end

section
/-! SUPPORT. A CONTINUE of a MIX_SHORT frame whose hole stands in COLLARING: State.Profiled does not tie a frame's cause to its
hole's phase, so HOLDING is entered with the profile still OPEN (R65, R98). -/

namespace Sys2Proof.Machine

/-! ## The refuting state -/

/-- A recipe with every field in its range (R4). -/
def mildRecipe : Recipe :=
  { bitDiameter := 27, boltDiameter := 20, encapsulation := 1200, targetDepth := 1800, collarDepth := 30, expectedSE := 500,
    collarFeed := 300, collarRotation := 310, drillFeed := 500, drillRotation := 510, insertFeed := 200, mixFeed := 250,
    mixRotation := 800, torqueRotation := 600, thrustCeiling := 40000, cartDiameter := 23, cartLength := 600, waste := 15,
    maxCartridges := 4, mixRevs := 30, mixTimeMax := 12000, gelLimit := 15000, gelHold := 8000, targetTorque := 2750,
    torqueTimeout := 6000, nutFactor := 210, tensionMin := 700, tensionMax := 900 }

/-- The hole of that recipe, still in COLLARING (R36). -/
def collaringHole : Hole :=
  Hole.start { holeId := 101, recipeSlot := 3, posTag := 7, recipe := mildRecipe, target := 18000, start := 0 }

/-- An IN_PHASE frame of slot 1 that names MIX_SHORT as its cause. -/
def mixShortFrame : ExFrame :=
  { slot := .s1, holeId := 101, kind := .inPhase, cause := .mixShort, current := 0, posted := 0, raisedIn := .collaring,
    phase := .collaring, depth := 0, thrust := 0, torque := 0, speed := 0, lastSE := 0, refSE := 500, time := 0, operand := 0 }

/-- A boom in EXCEPTION with that frame over the COLLARING hole, its profile just opened. -/
def mixShortBoom : Boom :=
  { Boom.fresh with auto := .exception mixShortFrame collaringHole, profile := Profile.openFor mildRecipe }

/-- The part after power-on, slot 1 holding that boom, with RESOLVE CONTINUE waiting. -/
def mixShortState : State :=
  { State.reset.setBoom .s1 mixShortBoom with pending := [.resolveContinue 0 1 none] }

/-- A profile just opened for the recipe is sound (R65). -/
theorem openFor_mildRecipe_sound : (Profile.openFor mildRecipe).Sound where
  count := by decide
  truncated := by decide
  bands := ⟨0, rfl, le_rfl, by rintro iv ⟨⟩; rfl⟩
  frontier := by decide
  interval := by decide
  samples := by rintro iv ⟨⟩; decide
  energies := by decide
  empty := by decide

/-- A profile after a reset is sound (R87). -/
theorem vacant_sound : Profile.vacant.Sound where
  count := by decide
  truncated := by decide
  bands := ⟨0, rfl, le_rfl, by rintro iv ⟨⟩⟩
  frontier := by decide
  interval := by decide
  samples := by rintro iv ⟨⟩
  energies := by decide
  empty := fun _ => rfl

/-- After a reset no recipe slot holds a recipe (R3). -/
theorem reset_recipeAt (i : Fin 16) : State.reset.recipeAt i = none := Vector.getElem_replicate ..

theorem mixShortState_profiled : mixShortState.Profiled where
  sound b := by
    cases b
    case s1 => exact openFor_mildRecipe_sound
    all_goals exact vacant_sound
  opened b := by cases b <;> decide
  position b := by cases b <;> decide
  recipes i r held := by
    rw [show mixShortState.recipeAt i = none from reset_recipeAt i] at held
    cases held

/-! ## Its step -/

/-- What the CONTINUE leaves on slot 1: the profile still OPEN under a context that takes no sample into it. -/
theorem step_mixShortState :
    ∃ t, step mixShortState = .next t ∧ (t.boom .s1).profile.cond = .opened ∧ (t.boom .s1).auto.profiles = false := by
  refine ⟨_, rfl, ?_, ?_⟩ <;> decide +kernel

/-- Refutes O56 by its third clause: CONTINUE of a MIX_SHORT frame over a COLLARING hole enters HOLDING with the profile OPEN. -/
theorem not_stepKeepsBounds : ¬ Obligations.StepKeepsBounds := by
  unfold Obligations.StepKeepsBounds
  rintro ⟨-, -, profiles⟩
  obtain ⟨t, stepped, opened, unprofiled⟩ := step_mixShortState
  have profiled : t.Profiled := profiles mixShortState t mixShortState_profiled stepped
  have takesSamples := (profiled.opened .s1).1 opened
  rw [unprofiled] at takesSamples
  cases takesSamples

end Sys2Proof.Machine
end

section
/-! SUPPORT. Every request is read back from its bytes (R199, R201): the bytes of numbers, the table of kinds, and the statement
that says it of every request. -/

namespace Sys2Proof.Machine

/-! ## Numbers and their bytes -/

/-- A four-byte number is put together again from its four bytes (R196). -/
theorem wordOf_bytes (w : Word) :
    wordOf (w.extractLsb' 0 8) (w.extractLsb' 8 8) (w.extractLsb' 16 8) (w.extractLsb' 24 8) = w := by
  unfold wordOf
  rw [BitVec.extractLsb'_append_extractLsb'_eq_extractLsb' (by rfl),
    BitVec.extractLsb'_append_extractLsb'_eq_extractLsb' (by rfl),
    BitVec.extractLsb'_append_extractLsb'_eq_extractLsb' (by rfl)]
  exact BitVec.extractLsb'_eq_self

/-- Two-byte numbers are read back from their bytes in their order (R196, R201). -/
theorem halvesOf_halvesBytes (hs : List Half) : halvesOf (halvesBytes hs) = hs := by
  induction hs with
  | nil => rfl
  | cons h hs ih =>
    show halfOf (h.extractLsb' 0 8) (h.extractLsb' 8 8) :: halvesOf (halvesBytes hs) = h :: hs
    rw [halfOf_bytes, ih]

/-! ## The table of kinds -/

/-- A LOAD_RECIPE's bytes are read back when it carries the twenty-eight fields of R4's table (R199). -/
theorem takeRecipe_bytes (slot : Byte) {fields : List Half} (full : fields.length = 28) :
    takeRecipe (slot :: halvesBytes fields) = .request (.loadRecipe slot fields) := by
  have bytes : (halvesBytes fields).length = 56 := by rw [Laws.CarriedRequest.halvesBytes_length, full]
  simp only [takeRecipe]
  rw [if_pos bytes, halvesOf_halvesBytes]

/-- A QUEUE_HOLE's bytes are read back with and without the override (R201). -/
theorem takeQueueHole_bytes (b : Byte) (id : Half) (slot : Byte) (tag : Half) (presence : Byte) (ov : Option Half) :
    takeQueueHole (Request.queueHole b id slot tag presence ov).payload =
      .request (.queueHole b id slot tag presence ov) := by
  cases ov with
  | none =>
    show Taken.request (.queueHole b (halfOf _ _) slot (halfOf _ _) presence Option.none) = _
    rw [halfOf_bytes, halfOf_bytes]
  | some o =>
    show Taken.request (.queueHole b (halfOf _ _) slot (halfOf _ _) presence (some (halfOf _ _))) = _
    rw [halfOf_bytes, halfOf_bytes, halfOf_bytes]

/-- The payload of every well-formed request is read back under its kind as that request (R199). -/
theorem decodeRequest_payload (r : Request) (wf : r.wellFormed = true) :
    decodeRequest r.kind r.payload = .request r := by
  cases r with
  | loadRecipe slot fields => exact takeRecipe_bytes slot (by simpa [Request.wellFormed] using wf)
  | queueHole b id slot tag presence ov => exact takeQueueHole_bytes b id slot tag presence ov
  | setParam id v =>
    show Taken.request (.setParam id (wordOf _ _ _ _)) = _
    rw [wordOf_bytes]
  | setEnables b w =>
    show Taken.request (.setEnables b (wordOf _ _ _ _)) = _
    rw [wordOf_bytes]
  | cancelHole id =>
    show Taken.request (.cancelHole (halfOf _ _)) = _
    rw [halfOf_bytes]
  | reserveFlow n =>
    show Taken.request (.reserveFlow (halfOf _ _)) = _
    rw [halfOf_bytes]
  | manualDrive b f r c =>
    show Taken.request (.manualDrive b (halfOf _ _) (halfOf _ _) c) = _
    rw [halfOf_bytes, halfOf_bytes]
  | markStart b id slot tag => exact decode_markStart b id slot tag
  | resolve b a v => cases v <;> rfl
  | _ => rfl

/-- Settles O25: the table of kinds picks the reading whose bytes the request's own payload has. -/
theorem requestsSurviveEncoding : Obligations.RequestsSurviveEncoding := decodeRequest_payload

/-- No payload is longer than LOAD_RECIPE's 57 bytes (R199). -/
theorem payload_length_le {r : Request} (wf : r.wellFormed = true) : r.payload.length ≤ 57 := by
  cases r with
  | loadRecipe slot fields =>
    have full : fields.length = 28 := by simpa [Request.wellFormed] using wf
    simp [Request.payload, Laws.CarriedRequest.halvesBytes_length, full]
  | queueHole b id slot tag presence ov => cases ov <;> simp [Request.payload, halfBytes, optHalf]
  | resolve b a v => cases v <;> simp [Request.payload]
  | _ => simp [Request.payload, halfBytes, wordBytes]

/-- A kind outside 0x01..0x1E is no request's (R199). -/
theorem decodeRequest_unknown {kind : Byte} (unknown : isRequestKind kind = false) (payload : List Byte) :
    decodeRequest kind payload = .unknownKind := by
  have outside : kind.toNat < 1 ∨ 30 < kind.toNat := by
    simp only [isRequestKind, Bool.and_eq_false_iff, decide_eq_false_iff_not] at unknown
    omega
  unfold decodeRequest
  split
  on_goal -1 => rfl
  all_goals omega

end Sys2Proof.Machine
end

section
/-! SUPPORT. A command that carries a request is the arrival of its frame (R189, R190), and what follows every event in closed
form: the memory of the CHUCK outputs (R164), slot by slot. -/

namespace Sys2Proof.Machine

/-! ## The arrival -/

/-- A row that carries a request is that request's arrival (R190; log entry 7). -/
theorem exec_of_carries {c : Instr} {tag : Byte} {r : Request} (carries : c.carries tag r) (s : State) :
    exec c s = .next (s.requestArrives tag r) := by
  cases c
  case queueHole t b id slot pos ov => obtain ⟨rfl, rfl⟩ := carries; cases ov <;> rfl
  all_goals obtain ⟨rfl, rfl⟩ := carries <;> rfl

/-! ## The memory of the CHUCK outputs (R164) -/

/-- The boom once its CHUCK output has shown a command; showing none is not remembered. -/
def Boom.remember (x : Boom) (c : Chuck) : Boom :=
  match c with
  | .none => x
  | c => { x with chuckShown := c }

/-- The chuck command a slot's output shows, none for an unfitted slot (R56, R164). -/
def State.shownChuck (s : State) (b : Slot) : Chuck := if s.fits b then (s.outputs b).chuck else .none

theorem Boom.remember_remember (x : Boom) (c : Chuck) : (x.remember c).remember c = x.remember c := by
  cases c <;> rfl

@[simp] theorem Boom.remember_auto (x : Boom) (c : Chuck) : (x.remember c).auto = x.auto := by cases c <;> rfl
@[simp] theorem Boom.remember_manual (x : Boom) (c : Chuck) : (x.remember c).manual = x.manual := by cases c <;> rfl
@[simp] theorem Boom.remember_retract (x : Boom) (c : Chuck) : (x.remember c).retract = x.retract := by cases c <;> rfl
@[simp] theorem Boom.remember_feed (x : Boom) (c : Chuck) : (x.remember c).feed = x.feed := by cases c <;> rfl
@[simp] theorem Boom.remember_rotation (x : Boom) (c : Chuck) : (x.remember c).rotation = x.rotation := by cases c <;> rfl
@[simp] theorem Boom.remember_chuck (x : Boom) (c : Chuck) : (x.remember c).chuck = x.chuck := by cases c <;> rfl
@[simp] theorem Boom.remember_loaderOut (x : Boom) (c : Chuck) : (x.remember c).loaderOut = x.loaderOut := by
  cases c <;> rfl
@[simp] theorem Boom.remember_handshake (x : Boom) (c : Chuck) : (x.remember c).handshake = x.handshake := by
  cases c <;> rfl
@[simp] theorem Boom.remember_profile (x : Boom) (c : Chuck) : (x.remember c).profile = x.profile := by cases c <;> rfl
@[simp] theorem Boom.remember_current (x : Boom) (c : Chuck) : (x.remember c).current = x.current := by cases c <;> rfl
@[simp] theorem Boom.remember_posted (x : Boom) (c : Chuck) : (x.remember c).posted = x.posted := by cases c <;> rfl
@[simp] theorem Boom.remember_accrued (x : Boom) (c : Chuck) : (x.remember c).accrued = x.accrued := by cases c <;> rfl
@[simp] theorem Boom.remember_seen (x : Boom) (c : Chuck) : (x.remember c).seen = x.seen := by cases c <;> rfl
@[simp] theorem Boom.remember_raw (x : Boom) (c : Chuck) : (x.remember c).raw = x.raw := by cases c <;> rfl
@[simp] theorem Boom.remember_lastGood (x : Boom) (c : Chuck) : (x.remember c).lastGood = x.lastGood := by cases c <;> rfl
@[simp] theorem Boom.remember_inForce (x : Boom) (c : Chuck) : (x.remember c).inForce = x.inForce := by cases c <;> rfl
@[simp] theorem Boom.remember_posLoss (x : Boom) (c : Chuck) : (x.remember c).posLoss = x.posLoss := by cases c <;> rfl
@[simp] theorem Boom.remember_enabled (x : Boom) (c : Chuck) : (x.remember c).enabled = x.enabled := by cases c <;> rfl
@[simp] theorem Boom.remember_p0 (x : Boom) (c : Chuck) : (x.remember c).p0 = x.p0 := by cases c <;> rfl
@[simp] theorem Boom.remember_awayDepth (x : Boom) (c : Chuck) : (x.remember c).awayDepth = x.awayDepth := by
  cases c <;> rfl
@[simp] theorem Boom.remember_outOfRange (x : Boom) (c : Chuck) : (x.remember c).outOfRange = x.outOfRange := by
  cases c <;> rfl
@[simp] theorem Boom.remember_level (x : Boom) (c : Chuck) : (x.remember c).level = x.level := by cases c <;> rfl
@[simp] theorem Boom.remember_running (x : Boom) (c : Chuck) : (x.remember c).running = x.running := by cases c <;> rfl
@[simp] theorem Boom.remember_depth (x : Boom) (c : Chuck) : (x.remember c).depth = x.depth := by cases c <;> rfl
@[simp] theorem Boom.remember_view (x : Boom) (c : Chuck) : (x.remember c).view = x.view := by cases c <;> rfl

/-- One slot's part of the memory. -/
theorem note_slot (s : State) (bs : Four Boom) (b : Slot) :
    (if ({ s with booms := bs } : State).fits b then ({ s with booms := bs } : State).noteChuck b
      else { s with booms := bs }) =
      { s with booms := bs.set b ((bs.get b).remember (({ s with booms := bs } : State).shownChuck b)) } := by
  have none_case : ({ s with booms := bs } : State) = { s with booms := bs.set b ((bs.get b).remember .none) } := by
    rw [show (bs.get b).remember .none = bs.get b from rfl, four_set_get]
  unfold State.shownChuck
  split
  · unfold State.noteChuck
    generalize (State.outputs { s with booms := bs } b).chuck = c
    cases c
    · exact none_case
    · rfl
    · rfl
  · exact none_case

/-- What the CHUCK output of a slot shows depends on the booms through that slot's command alone. -/
theorem shownChuck_set_of_ne (s : State) (bs : Four Boom) {b c : Slot} (x : Boom) (h : c ≠ b) :
    ({ s with booms := bs.set b x } : State).shownChuck c = ({ s with booms := bs } : State).shownChuck c := by
  have same : ({ s with booms := bs.set b x } : State).boom c = ({ s with booms := bs } : State).boom c :=
    four_get_set_of_ne bs x h
  unfold State.shownChuck State.outputs
  rw [same]
  rfl

/-- The memory of the CHUCK outputs changes each boom by its own shown command and nothing else (R164). -/
theorem noted_eq (s : State) :
    s.noted =
      { s with
        booms :=
          { b1 := (s.boom .s1).remember (s.shownChuck .s1), b2 := (s.boom .s2).remember (s.shownChuck .s2),
            b3 := (s.boom .s3).remember (s.shownChuck .s3), b4 := (s.boom .s4).remember (s.shownChuck .s4) } } := by
  have n1 := note_slot s s.booms .s1
  have n2 := fun bs => note_slot s bs .s2
  have n3 := fun bs => note_slot s bs .s3
  have n4 := fun bs => note_slot s bs .s4
  unfold State.noted forFitted forSlots
  beta_reduce
  rw [show (if s.fits .s1 then s.noteChuck .s1 else s) = _ from n1, n2, n3, n4]
  rw [shownChuck_set_of_ne s s.booms _ (by decide : Slot.s2 ≠ .s1), shownChuck_set_of_ne s _ _ (by decide : Slot.s3 ≠ .s2),
    shownChuck_set_of_ne s _ _ (by decide : Slot.s3 ≠ .s1), shownChuck_set_of_ne s _ _ (by decide : Slot.s4 ≠ .s3),
    shownChuck_set_of_ne s _ _ (by decide : Slot.s4 ≠ .s2), shownChuck_set_of_ne s _ _ (by decide : Slot.s4 ≠ .s1)]
  rfl

theorem noted_boom (s : State) (b : Slot) : s.noted.boom b = (s.boom b).remember (s.shownChuck b) := by
  rw [noted_eq]; cases b <;> rfl

/-- Two states are one when they agree in everything but the booms and in each boom. -/
theorem state_ext_booms {s : State} {bs cs : Four Boom} (h : ∀ b, bs.get b = cs.get b) :
    ({ s with booms := bs } : State) = { s with booms := cs } := by
  have eq : bs = cs := by
    obtain ⟨x1, x2, x3, x4⟩ := bs
    obtain ⟨y1, y2, y3, y4⟩ := cs
    rw [show x1 = y1 from h .s1, show x2 = y2 from h .s2, show x3 = y3 from h .s3, show x4 = y4 from h .s4]
  rw [eq]

/-- What the CHUCK outputs show does not depend on what was remembered of them. -/
theorem noted_shownChuck (s : State) (b : Slot) : s.noted.shownChuck b = s.shownChuck b := by
  unfold State.shownChuck State.outputs
  rw [noted_boom, Boom.remember_chuck, Boom.remember_feed, Boom.remember_rotation, Boom.remember_loaderOut, noted_eq]
  rfl

/-- What has been remembered is remembered already (R164). -/
@[simp] theorem noted_noted (s : State) : s.noted.noted = s.noted := by
  conv_lhs => rw [noted_eq]
  conv_rhs => rw [show s.noted = { s.noted with booms := s.noted.booms } from rfl]
  refine state_ext_booms fun b => ?_
  have slot : ∀ b, (s.noted.boom b).remember (s.noted.shownChuck b) = s.noted.boom b := by
    intro b; rw [noted_shownChuck, noted_boom, Boom.remember_remember]
  cases b <;> exact slot _

/-- The memory of the CHUCK outputs neither reads nor changes the link. -/
theorem noted_withLink (s : State) (l : Link) : ({ s with link := l } : State).noted = { s.noted with link := l } := by
  rw [noted_eq, noted_eq]; rfl

@[simp] theorem noted_pending (s : State) : s.noted.pending = s.pending := by rw [noted_eq]
@[simp] theorem noted_clock (s : State) : s.noted.clock = s.clock := by rw [noted_eq]
@[simp] theorem noted_mode (s : State) : s.noted.mode = s.mode := by rw [noted_eq]
@[simp] theorem noted_requested (s : State) : s.noted.requested = s.requested := by rw [noted_eq]
@[simp] theorem noted_restartCause (s : State) : s.noted.restartCause = s.restartCause := by rw [noted_eq]
@[simp] theorem noted_params (s : State) : s.noted.params = s.params := by rw [noted_eq]
@[simp] theorem noted_recipes (s : State) : s.noted.recipes = s.recipes := by rw [noted_eq]
@[simp] theorem noted_queues (s : State) : s.noted.queues = s.queues := by rw [noted_eq]
@[simp] theorem noted_arbiter (s : State) : s.noted.arbiter = s.arbiter := by rw [noted_eq]
@[simp] theorem noted_log (s : State) : s.noted.log = s.log := by rw [noted_eq]
@[simp] theorem noted_nextSeq (s : State) : s.noted.nextSeq = s.nextSeq := by rw [noted_eq]
@[simp] theorem noted_writers (s : State) : s.noted.writers = s.writers := by rw [noted_eq]
@[simp] theorem noted_drive (s : State) : s.noted.drive = s.drive := by rw [noted_eq]
@[simp] theorem noted_driveLine (s : State) : s.noted.driveLine = s.driveLine := by rw [noted_eq]
@[simp] theorem noted_retractLine (s : State) : s.noted.retractLine = s.retractLine := by rw [noted_eq]
@[simp] theorem noted_fits (s : State) (b : Slot) : s.noted.fits b = s.fits b := by unfold State.fits; rw [noted_params]
@[simp] theorem noted_grant (s : State) (b : Slot) : s.noted.grant b = s.grant b := by unfold State.grant; rw [noted_arbiter]

@[simp] theorem noted_quiescent (s : State) : s.noted.quiescent = s.quiescent := by
  unfold State.quiescent State.quiet
  simp [noted_boom]

/-- Whether a mode change is due does not depend on what was remembered (R179). -/
theorem noted_settled {s : State} (h : s.settled) : s.noted.settled := by simpa [State.settled] using h

/-! ## Any request at a ready link -/

/-- A request at a ready link: its decision on the state the arrival leaves, what follows the event, and the reply (R190). -/
theorem requestArrives_taken {s : State} (ready : s.ready) (tag : Byte) {r : Request} (wf : r.wellFormed = true) :
    s.requestArrives tag r =
      (handleRequest r s.heard).1.settle.answered (r.kind ||| 0x80#8) tag
        (le1 (handleRequest r s.heard).2.status.code ++
          (if (handleRequest r s.heard).2.status.code < 8 then (handleRequest r s.heard).2.figures else [])) := by
  have taken : handleFrame { kind := r.kind, tag := tag, payload := r.payload } s.heard = handleRequest r s.heard := by
    unfold handleFrame; rw [decodeRequest_payload r wf]
  rw [requestArrives_ready ready tag r (by have := payload_length_le wf; omega), taken]
  rfl

/-- A command at a ready link whose request is decided as `t` with a reply of figures, no mode change due after it (R190). -/
theorem exec_answered {s t : State} {c : Instr} {r : Request} {st : Status} {figures : List Byte} {tag : Byte}
    (carries : c.carries tag r) (wf : r.wellFormed = true) (ready : s.ready)
    (decided : handleRequest r s.heard = (t, { status := st, figures := figures })) (accepted : st.code < 8)
    (settled : t.settled) :
    exec c s = .next (t.noted.answered (r.kind ||| 0x80#8) tag (le1 st.code ++ figures)) := by
  rw [exec_of_carries carries, requestArrives_taken ready tag wf, decided, settle_settled settled]
  simp [accepted]

/-- A command at a ready link whose request is decided as `t` under a status alone, no mode change due after it (R190). -/
theorem exec_plain {s t : State} {c : Instr} {r : Request} {st : Status} {tag : Byte}
    (carries : c.carries tag r) (wf : r.wellFormed = true) (ready : s.ready)
    (decided : handleRequest r s.heard = (t, Reply.plain st)) (settled : t.settled) :
    exec c s = .next (t.noted.answered (r.kind ||| 0x80#8) tag (le1 st.code)) := by
  rw [exec_of_carries carries, requestArrives_taken ready tag wf, decided, settle_settled settled, plain_payload]

/-- A command at a ready link whose request is refused changes nothing but the link (R190, R191). -/
theorem exec_refused {s : State} {c : Instr} {r : Request} {st : Status} {tag : Byte}
    (carries : c.carries tag r) (wf : r.wellFormed = true) (ready : s.ready) (settled : s.settled)
    (decided : handleRequest r s.heard = s.heard.refuse st) :
    exec c s = .next (s.refused (r.kind ||| 0x80#8) tag st) :=
  exec_plain carries wf ready decided (heard_settled settled)

end Sys2Proof.Machine
end

section
/-! SUPPORT. The statements on steps and resets, on refused requests, and on the frames that carry requests (R185 to R191). -/

namespace Sys2Proof.Machine

/-! ## Steps and resets -/

/-- Settles O1: both clauses are the two cases of `step`. -/
theorem stepRunsFrontCommand : Obligations.StepRunsFrontCommand :=
  ⟨fun _ _ _ => rfl, fun s empty => by unfold step; rw [empty]⟩

/-- The enable set after a reset holds the four conditions of R129. -/
theorem defaultEnabled_has (c : Cond) :
    CondSet.has CondSet.defaultEnabled c = true ↔
      c = .poorAnchor ∨ c = .shortResin ∨ c = .underTension ∨ c = .overTension := by
  cases c <;> decide

/-- Settles O2: POWER_ON answers the state after a reset, whose fields are read off slot by slot. -/
theorem powerOnValues : Obligations.PowerOnValues := by
  unfold Obligations.PowerOnValues
  intro s
  refine ⟨{ State.reset with pending := s.pending }, rfl, rfl, rfl, rfl, rfl, rfl, rfl, fun i => Vector.getElem_replicate ..,
    fun b => ?_, fun b => ?_, fun b c => ?_, rfl, rfl, rfl, rfl, rfl, rfl, rfl, rfl, rfl, rfl, rfl, rfl, rfl, rfl, rfl⟩
  · cases b <;> exact ⟨rfl, rfl, rfl, rfl, rfl⟩
  · cases b <;> exact ⟨rfl, rfl, rfl, rfl, rfl, rfl, rfl, rfl, rfl, rfl, rfl, rfl, rfl⟩
  · cases b <;> exact defaultEnabled_has c

/-- Settles O3: with RESTART's reply out of its slot and on the wire, both rows make the warm restart. -/
theorem warmRestartValues : Obligations.WarmRestartValues := by
  unfold Obligations.WarmRestartValues
  intro s f restarting reply sending
  have due : s.link.restartDue = true := by simp [Link.restartDue, restarting, reply]
  have warm : exec .warmRestart s = .next s.restarted := by
    show Host.Outcome.next (if s.link.sending.isSome && s.link.restartDue then s.restarted else s.finish) = _
    rw [sending, due]; rfl
  have sent : exec .frameTransmitEnd s = .next s.restarted := by
    show Host.Outcome.next s.transmitEnd = _
    rw [transmitEnd_busy sending, due]; rfl
  exact ⟨warm, sent.trans warm.symm⟩

/-! ## Refused requests -/

/-- An answer under a status of 8 or above has changed nothing (R10, R191). -/
def Answer.Clean (s : State) (a : Answer) : Prop := 8 ≤ a.2.status.code → a.1 = s

theorem refuse_clean (s : State) (st : Status) : Answer.Clean s (s.refuse st) := fun _ => rfl

/-- An answer under a status below 8 is no refusal. -/
theorem clean_of_accepted {s : State} {a : Answer} (accepted : a.2.status.code < 8) : Answer.Clean s a := fun refused =>
  absurd refused (by omega)

/-- Done under OK, whatever it did. -/
theorem done_clean (s t : State) : Answer.Clean s t.done :=
  clean_of_accepted (by show Status.code .ok < 8; decide)

theorem doneWith_clean (s t : State) (l : List Byte) : Answer.Clean s (t.doneWith l) :=
  clean_of_accepted (by show Status.code .ok < 8; decide)

/-- A status that says whether a value was kept or clamped is below 8. -/
theorem kept_code_lt (p : Prop) [Decidable p] : (if p then Status.ok else Status.clamped).code < 8 := by
  split <;> decide

theorem loadRecipe_clean (slot : Byte) (fields : List Half) (s : State) : Answer.Clean s (reqLoadRecipe slot fields s) := by
  unfold reqLoadRecipe
  split
  · exact refuse_clean _ _
  split
  · exact refuse_clean _ _
  dsimp only
  split
  · exact refuse_clean _ _
  split
  · exact clean_of_accepted (kept_code_lt _)
  · exact refuse_clean _ _

theorem clearRecipe_clean (slot : Byte) (s : State) : Answer.Clean s (reqClearRecipe slot s) := by
  unfold reqClearRecipe
  split
  · exact refuse_clean _ _
  split
  · exact refuse_clean _ _
  split
  · exact refuse_clean _ _
  split
  · exact refuse_clean _ _
  · exact done_clean _ _

theorem queueHole_clean (boom : Byte) (id : Half) (slot : Byte) (tag : Half) (p : Byte) (ov : Option Half) (s : State) :
    Answer.Clean s (reqQueueHole boom id slot tag p ov s) := by
  unfold reqQueueHole
  split
  · exact refuse_clean _ _
  split
  · exact refuse_clean _ _
  split
  · exact refuse_clean _ _
  split
  · exact refuse_clean _ _
  split
  · exact refuse_clean _ _
  split
  · exact clean_of_accepted (kept_code_lt _)
  · exact refuse_clean _ _

theorem cancelHole_clean (id : Half) (s : State) : Answer.Clean s (reqCancelHole id s) := by
  unfold reqCancelHole
  split
  · exact refuse_clean _ _
  split
  · exact done_clean _ _
  split <;> exact refuse_clean _ _

theorem flushQueue_clean (boom : Byte) (s : State) : Answer.Clean s (reqFlushQueue boom s) := by
  unfold reqFlushQueue
  split
  · exact refuse_clean _ _
  split
  · exact refuse_clean _ _
  · exact clean_of_accepted (by show Status.code .ok < 8; decide)

theorem setParam_clean (id : Byte) (v : Word) (s : State) : Answer.Clean s (reqSetParam id v s) := by
  unfold reqSetParam
  split
  · exact refuse_clean _ _
  split
  · exact refuse_clean _ _
  split
  · exact refuse_clean _ _
  dsimp only
  split
  · exact clean_of_accepted (kept_code_lt _)
  · exact refuse_clean _ _

theorem go_clean (boom : Byte) (s : State) : Answer.Clean s (reqGo boom s) := by
  unfold reqGo
  split
  · exact refuse_clean _ _
  split
  · exact refuse_clean _ _
  split
  · exact refuse_clean _ _
  split
  · exact refuse_clean _ _
  split
  · exact refuse_clean _ _
  split
  · exact refuse_clean _ _
  split
  · exact refuse_clean _ _
  split
  · exact refuse_clean _ _
  · exact done_clean _ _

theorem abandon_clean (boom : Byte) (s : State) : Answer.Clean s (reqAbandon boom s) := by
  unfold reqAbandon
  split
  · exact refuse_clean _ _
  split
  · exact done_clean _ _
  · exact refuse_clean _ _

theorem setEnables_clean (boom : Byte) (w : Word) (s : State) : Answer.Clean s (reqSetEnables boom w s) := by
  unfold reqSetEnables
  split
  · exact refuse_clean _ _
  split
  · exact clean_of_accepted (by show Status.code .ok < 8; decide)
  · exact refuse_clean _ _

/-- Each action of RESOLVE refuses before it acts (R146 to R149). -/
theorem resolveOn_clean (a : Action) (n : Nat) (b : Slot) (f : ExFrame) (h : Hole) (s : State) :
    Answer.Clean s (resolveOn a n b f h s) := by
  cases a with
  | resume =>
    show Answer.Clean s (resolveContinueOn b f h s)
    unfold resolveContinueOn
    split
    · exact refuse_clean _ _
    · exact done_clean _ _
  | retry =>
    show Answer.Clean s (resolveRetryOn b f h s)
    unfold resolveRetryOn
    split
    · exact refuse_clean _ _
    split
    · exact refuse_clean _ _
    split
    · exact refuse_clean _ _
    · exact done_clean _ _
  | setCartridges =>
    show Answer.Clean s (resolveCartridgesOn n b f h s)
    unfold resolveCartridgesOn
    split
    · exact refuse_clean _ _
    split
    · exact refuse_clean _ _
    split
    · exact refuse_clean _ _
    · exact done_clean _ _
  | abandon => exact done_clean _ _

theorem resolve_clean (boom action : Byte) (v : Option Byte) (s : State) : Answer.Clean s (reqResolve boom action v s) := by
  unfold reqResolve
  split
  · exact refuse_clean _ _
  split
  · exact refuse_clean _ _
  split
  · exact refuse_clean _ _
  · exact resolveOn_clean _ _ _ _ _ _

theorem takeover_clean (boom : Byte) (s : State) : Answer.Clean s (reqTakeover boom s) := by
  unfold reqTakeover
  split
  · exact refuse_clean _ _
  split
  · exact refuse_clean _ _
  split
  · exact refuse_clean _ _
  split
  · exact refuse_clean _ _
  · exact done_clean _ _

theorem manualDrive_clean (boom : Byte) (f r : Half) (c : Byte) (s : State) :
    Answer.Clean s (reqManualDrive boom f r c s) := by
  unfold reqManualDrive
  split
  · exact refuse_clean _ _
  split
  · exact refuse_clean _ _
  split
  · exact refuse_clean _ _
  split
  · exact refuse_clean _ _
  · exact done_clean _ _

theorem handback_clean (boom : Byte) (s : State) : Answer.Clean s (reqHandback boom s) := by
  unfold reqHandback
  split
  · exact refuse_clean _ _
  split
  · exact refuse_clean _ _
  · exact done_clean _ _

theorem safeRetract_clean (boom : Byte) (s : State) : Answer.Clean s (reqSafeRetract boom s) := by
  unfold reqSafeRetract
  split
  · exact refuse_clean _ _
  split
  · exact refuse_clean _ _
  split
  · exact refuse_clean _ _
  · exact done_clean _ _

theorem retractClear_clean (boom : Byte) (s : State) : Answer.Clean s (reqRetractClear boom s) := by
  unfold reqRetractClear
  split
  · exact refuse_clean _ _
  split
  · exact refuse_clean _ _
  split
  · exact refuse_clean _ _
  · exact done_clean _ _

theorem reserveFlow_clean (n : Half) (s : State) : Answer.Clean s (reqReserveFlow n s) := by
  unfold reqReserveFlow
  split
  · exact refuse_clean _ _
  dsimp only
  split
  · refine clean_of_accepted ?_
    show Status.code (if _ then .waiting else .ok) < 8
    split <;> decide
  split
  · exact clean_of_accepted (by show Status.code .already < 8; decide)
  · exact clean_of_accepted (by show Status.code .ok < 8; decide)

theorem releaseFlow_clean (s : State) : Answer.Clean s (reqReleaseFlow s) := by
  unfold reqReleaseFlow
  split
  · exact refuse_clean _ _
  · exact done_clean _ _

theorem dropRecord_clean (s : State) : Answer.Clean s (reqDropRecord s) := by
  unfold reqDropRecord
  split
  · exact refuse_clean _ _
  · exact clean_of_accepted (by show Status.code .ok < 8; decide)

theorem markStart_clean (boom : Byte) (id : Half) (slot : Byte) (tag : Half) (s : State) :
    Answer.Clean s (reqMarkStart boom id slot tag s) := by
  unfold reqMarkStart
  split
  · exact refuse_clean _ _
  split
  · exact refuse_clean _ _
  split
  · exact refuse_clean _ _
  split
  · exact refuse_clean _ _
  split
  · exact refuse_clean _ _
  split
  · exact refuse_clean _ _
  split
  · exact refuse_clean _ _
  · exact done_clean _ _

theorem markEnd_clean (boom : Byte) (s : State) : Answer.Clean s (reqMarkEnd boom s) := by
  unfold reqMarkEnd
  split
  · exact refuse_clean _ _
  split
  · exact refuse_clean _ _
  split
  · exact clean_of_accepted (by show Status.code .ok < 8; decide)
  · exact refuse_clean _ _

theorem setMode_clean (m : Byte) (s : State) : Answer.Clean s (reqSetMode m s) := by
  unfold reqSetMode
  split
  · exact refuse_clean _ _
  split
  · split
    · exact clean_of_accepted (by show Status.code .already < 8; decide)
    · exact clean_of_accepted (by show Status.code .ok < 8; decide)
  · exact clean_of_accepted (by show Status.code .ok < 8; decide)

/-- A read changes nothing, refused or not. -/
theorem clean_of_same {s : State} {a : Answer} (same : a.1 = s) : Answer.Clean s a := fun _ => same

/-- Settles O26: every refusal is `State.refuse`, made before the request acts. -/
theorem refusalsChangeNothing : Obligations.RefusalsChangeNothing := by
  unfold Obligations.RefusalsChangeNothing
  intro r s
  show Answer.Clean s (handleRequest r s)
  cases r with
  | getStatus => exact doneWith_clean _ _ _
  | setMode m => exact setMode_clean m s
  | restart => exact done_clean _ _
  | setParam id v => exact setParam_clean id v s
  | getParam id => exact clean_of_same (getParam_same id s)
  | loadRecipe slot fields => exact loadRecipe_clean slot fields s
  | clearRecipe slot => exact clearRecipe_clean slot s
  | getRecipe slot => exact clean_of_same (getRecipe_same slot s)
  | queueHole b id slot tag p ov => exact queueHole_clean b id slot tag p ov s
  | cancelHole id => exact cancelHole_clean id s
  | flushQueue b => exact flushQueue_clean b s
  | getQueue b => exact clean_of_same (getQueue_same b s)
  | go b => exact go_clean b s
  | abandon b => exact abandon_clean b s
  | setEnables b w => exact setEnables_clean b w s
  | resolve b a v => exact resolve_clean b a v s
  | getFrame b => exact clean_of_same (getFrame_same b s)
  | getProfile b => exact clean_of_same (getProfile_same b s)
  | takeover b => exact takeover_clean b s
  | manualDrive b f rot c => exact manualDrive_clean b f rot c s
  | handback b => exact handback_clean b s
  | safeRetract b => exact safeRetract_clean b s
  | retractClear b => exact retractClear_clean b s
  | reserveFlow n => exact reserveFlow_clean n s
  | releaseFlow => exact releaseFlow_clean s
  | getFlow => exact doneWith_clean _ _ _
  | fetchRecord => exact clean_of_same (fetchRecord_same s)
  | dropRecord => exact dropRecord_clean s
  | markStart b id slot tag => exact markStart_clean b id slot tag s
  | markEnd b => exact markEnd_clean b s

end Sys2Proof.Machine
end

section
/-! SUPPORT. The transmitter's choice in closed form (R193): what it makes of the link, which reads of the rest of the part only
the bytes its reports carry. -/

namespace Sys2Proof.Machine

/-! ## The choice -/

/-- The link once its idle transmitter has chosen, given the bytes of the MODE, FLOW_GRANTED, RECORD_READY and BOOM_STATUS
reports (R193). -/
def Link.chosen (l : Link) (mode reserve records : List Byte) (status : Slot → List Byte) : Link :=
  match l.sending with
  | some _ => l
  | none =>
    match l.reply with
    | some f => { l with reply := none, sending := some f }
    | none =>
      match l.nextException with
      | some (b, f) =>
        { l with exceptionReport := l.exceptionReport.set b none, sending := some (reportFrame 0x71 f.bytes) }
      | none =>
        match l.modeReport with
        | some c => { l with modeReport := none, sending := some (reportFrame 0x72 (le1 c.code ++ mode)) }
        | none =>
          if l.flowGranted then { l with flowGranted := false, sending := some (reportFrame 0x73 reserve) }
          else if l.recordReady then { l with recordReady := false, sending := some (reportFrame 0x74 records) }
          else
            match l.nextStatus with
            | some b => { l with boomStatus := l.boomStatus.set b false, sending := some (reportFrame 0x70 (status b)) }
            | none => l

/-- The transmitter's choice is that of its link (R193). -/
theorem startNext_eq (s : State) :
    s.startNext = s.withLink (s.link.chosen s.modeBytes s.reserveBytes (le1 s.log.length) s.statusBytes) := by
  unfold State.startNext Link.chosen
  split
  · next busy => simp only [busy, State.withLink]
  next idle =>
  split
  · next reply => simp only [idle, reply, State.startReply, State.send, State.withLink]
  next reply =>
  unfold State.startReport
  split
  · next exception => simp only [idle, reply, exception, State.startException, State.send, State.withLink]
  next exception =>
  split
  · next mode => simp only [idle, reply, exception, mode, State.startMode, State.send, State.withLink]
  next mode =>
  split
  · simp only [idle, reply, exception, mode, State.startFlowGranted, State.send, State.withLink]
  unfold State.startLow
  split
  · simp only [idle, reply, exception, mode, State.startRecordReady, State.send, State.withLink]
  split
  · next status =>
    simp only [idle, reply, exception, mode, status, State.startStatus, State.send, State.withLink]
  · next status => simp only [idle, reply, exception, mode, status, State.withLink]

/-- The choice neither reads nor changes the waiting frames (R193). -/
theorem Link.chosen_waiting (l : Link) (m r n : List Byte) (st : Slot → List Byte) (w : List Frame) :
    ({ l with waiting := w } : Link).chosen m r n st = { l.chosen m r n st with waiting := w } := by
  unfold Link.chosen Link.nextException Link.nextStatus
  dsimp only
  split
  · rfl
  split
  · rfl
  split
  · rfl
  split
  · rfl
  split
  · rfl
  split
  · rfl
  split <;> rfl

/-- The transmitter's choice does not depend on what was remembered of the CHUCK outputs (R164, R193). -/
theorem noted_startNext (s : State) : s.noted.startNext = s.startNext.noted := by
  have status : s.noted.statusBytes = s.statusBytes := by
    funext b
    unfold State.statusBytes Boom.shownHole Boom.overdueShown
    simp [noted_boom]
  have mode : s.noted.modeBytes = s.modeBytes := by unfold State.modeBytes; simp
  have reserve : s.noted.reserveBytes = s.reserveBytes := by unfold State.reserveBytes; simp
  rw [startNext_eq, startNext_eq, status, mode, reserve, noted_link, noted_log]
  exact (noted_withLink s _).symm

/-- An arrival reads and changes the link alone, so it can be looked at before or after the memory of the CHUCK outputs. -/
theorem noted_heard (s : State) : s.noted.heard = s.heard.noted := by
  have withLink : ∀ l, (s.withLink l).noted = s.noted.withLink l := noted_withLink s
  show (s.noted.withLink { s.noted.link with assembler := .hunt, silenceTicks := 0, silent := false }).startNext =
    (s.withLink { s.link with assembler := .hunt, silenceTicks := 0, silent := false }).startNext.noted
  rw [← noted_startNext, withLink, noted_link]

theorem noted_ready {s : State} (ready : s.ready) : s.noted.ready := by
  unfold State.ready
  rwa [noted_link]

/-- A refusal after the memory of the CHUCK outputs is the refusal before it. -/
theorem noted_refused (s : State) (kind tag : Byte) (st : Status) : s.noted.refused kind tag st = s.refused kind tag st := by
  unfold State.refused
  rw [noted_heard, noted_noted]

/-! ## Serving a link that takes no frame -/

/-- A full reply slot takes no frame (R190). -/
theorem takeWaiting_full {s : State} {f : Frame} (full : s.link.reply = some f) : s.takeWaiting = s := by
  unfold State.takeWaiting; rw [full]

/-- Once RESTART has been taken, no frame is (R185). -/
theorem takeWaiting_restarting {s : State} (restarting : s.link.restarting = true) : s.takeWaiting = s := by
  unfold State.takeWaiting
  split
  · rw [restarting]; rfl
  · rfl

/-- A link whose transmitter is busy and whose reply slot is full serves nothing (R190, R193). -/
theorem serve_full {s : State} {f g : Frame} (full : s.link.reply = some f) (busy : s.link.sending = some g) :
    s.serve = s := by
  unfold State.serve
  rw [startNext_busy busy, takeWaiting_full full, startNext_busy busy, takeWaiting_full full]

/-- After RESTART the link serves by the transmitter's choice alone (R185). -/
theorem serve_restarting {s : State} (restarting : s.link.restarting = true) : s.serve = s.startNext := by
  have still : s.startNext.link.restarting = true := by
    obtain ⟨l, h, k⟩ := startNext_link s
    rw [h]; exact k.restarting.trans restarting
  unfold State.serve
  rw [takeWaiting_restarting still, startNext_startNext, takeWaiting_restarting still]

/-! ## A valid frame at a ready link -/

/-- A valid frame that finds room is accepted (R188, R189). -/
theorem arrive_accepts {l : Link} {kind tag : Byte} {payload : List Byte} (room : payload.length + 7 ≤ l.room) :
    l.arrive kind tag payload = l.accept { kind := kind, tag := tag, payload := payload } := by
  unfold Link.arrive Link.receiveFrame
  rw [if_neg (by unfold frameSize; omega), if_pos rfl]

/-- With no frame waiting the whole receive buffer is free (R188). -/
theorem room_of_ready {s : State} (ready : s.ready) : s.link.room = 512 := by
  obtain ⟨-, waiting, -⟩ := ready
  simp [Link.room, Link.waitingBytes, waiting, Config.receiveBytes]

/-- What the transmitter leaves of a ready link is ready. -/
theorem startNext_ready {s : State} (ready : s.ready) : s.startNext.ready := by
  obtain ⟨reply, waiting, restarting⟩ := ready
  obtain ⟨l, h, k⟩ := startNext_link s
  refine ⟨startNext_reply s reply, (startNext_waiting s).trans waiting, ?_⟩
  rw [h]; exact k.restarting.trans restarting

/-- One frame waiting at a link that is else ready, the transmitter having chosen, is taken, and its reply is formed (R190). -/
theorem serve_takes {s : State} {f : Frame} (ready : s.ready) :
    (s.withLink { s.link with waiting := [f] }).serve =
      ((handleFrame f s.startNext).1.settle.setReply (replyFrame f (handleFrame f s.startNext).2)).startNext := by
  have started : (s.withLink { s.link with waiting := [f] }).startNext =
      s.startNext.withLink { s.startNext.link with waiting := [f] } := by
    rw [startNext_eq, startNext_eq]
    show s.withLink (({ s.link with waiting := [f] } : Link).chosen _ _ _ _) = _
    rw [Link.chosen_waiting]
    rfl
  obtain ⟨reply, waiting, restarting⟩ := startNext_ready ready
  have emptied : s.startNext.withLink { s.startNext.link with waiting := [] } = s.startNext := by
    unfold State.withLink
    rw [← waiting]
  have taken : (s.startNext.withLink { s.startNext.link with waiting := [f] }).takeWaiting =
      (handleFrame f s.startNext).1.settle.setReply (replyFrame f (handleFrame f s.startNext).2) := by
    refine (takeWaiting_frame (s := s.startNext.withLink { s.startNext.link with waiting := [f] }) (f := f) (rest := [])
      reply rfl restarting).trans ?_
    exact congrArg (fun u => (handleFrame f u).1.settle.setReply (replyFrame f (handleFrame f u).2)) emptied
  unfold State.serve
  rw [started, taken]
  refine takeWaiting_none ?_
  rw [startNext_waiting]
  show (handleFrame f s.startNext).1.settle.link.waiting = []
  rw [(settle_kept _).waiting, (handleFrame_asked _ _).waiting, waiting]

/-- A valid frame that fits arrives at a ready link: it is decided on the state the arrival leaves, what follows the event is
settled, and its reply is formed (R188 to R190, R193). -/
theorem frame_served {s : State} (ready : s.ready) (kind tag : Byte) {payload : List Byte} (fits : payload.length ≤ 505) :
    (s.withLink (s.link.arrive kind tag payload)).serve =
      ((handleFrame { kind := kind, tag := tag, payload := payload } s.heard).1.settle.setReply
        (replyFrame { kind := kind, tag := tag, payload := payload }
          (handleFrame { kind := kind, tag := tag, payload := payload } s.heard).2)).startNext := by
  rw [arrive_accepts (by rw [room_of_ready ready]; omega)]
  have waiting : s.link.waiting = [] := ready.2.1
  unfold Link.accept
  rw [waiting]
  exact serve_takes (s := { s with link := { s.link with assembler := .hunt, silenceTicks := 0, silent := false } }) ready

/-- A valid frame whose checks refuse it is answered with that status, and nothing but the link has changed (R190). -/
theorem frame_refused {s : State} (ready : s.ready) (settled : s.settled) (kind tag : Byte) {payload : List Byte} {st : Status}
    (fits : payload.length ≤ 505)
    (decided : handleFrame { kind := kind, tag := tag, payload := payload } s.heard = s.heard.refuse st) :
    (s.withLink (s.link.arrive kind tag payload)).serve = s.refused (kind ||| 0x80) tag st := by
  rw [frame_served ready kind tag fits, decided]
  show (s.heard.settle.setReply (replyFrame _ (Reply.plain st))).startNext = _
  rw [settle_settled (heard_settled settled)]
  unfold State.refused State.answered replyFrame
  rw [plain_payload]
  rfl

/-- Settles a link change of an event at once: the memory of the CHUCK outputs goes first, then the link serves. -/
theorem withLink_finish {s : State} (settled : s.settled) (l : Link) :
    (s.withLink l).finish = (s.noted.withLink l).serve := by
  unfold State.finish
  rw [settle_settled (s := s.withLink l) settled]
  exact congrArg State.serve (noted_withLink s l)

end Sys2Proof.Machine
end

section
/-! SUPPORT. The statements on frames: the ones that carry requests, the odd ones, those that wait, and RESTART (R185 to R190). -/

namespace Sys2Proof.Machine

/-- Settles O4: RESTART marks the link and is answered; then every arrival joins the buffer and none is taken. -/
theorem restartTakesNoMore : Obligations.RestartTakesNoMore := by
  unfold Obligations.RestartTakesNoMore
  intro s tag ready settled
  refine ⟨?_, fun u c k r carries restarting room => ?_⟩
  · exact exec_plain (c := .restart tag) (r := .restart) (st := .ok) ⟨rfl, rfl⟩ rfl ready rfl (heard_settled settled)
  · obtain ⟨l, chosen, kept⟩ := startNext_link
      (u.withLink (u.link.accept { kind := r.kind, tag := k, payload := r.payload }))
    refine ⟨l, ?_, kept.restarting.trans restarting, kept.waiting⟩
    rw [exec_of_carries carries]
    unfold State.requestArrives
    rw [arrive_accepts room]
    have served := serve_restarting (s := u.withLink (u.link.accept { kind := r.kind, tag := k, payload := r.payload }))
      restarting
    exact congrArg Host.Outcome.next (served.trans chosen)

/-- A frame whose CRC is its own, no longer than the buffer's frames can be (R188, R189). -/
theorem exec_frameReceived_own {kind tag : Byte} {payload : List Byte} {s : State} (settled : s.settled)
    (short : payload.length ≤ 1024) :
    exec (.frameReceived kind tag payload (crc16 (crcSpan kind tag payload))) s =
      .next (s.noted.withLink (s.noted.link.arrive kind tag payload)).serve := by
  show Host.Outcome.next (if Config.maxPayload < payload.length then _ else _) = _
  rw [if_neg (by unfold Config.maxPayload; omega), withLink_finish settled, noted_link]
  rfl

/-- Settles O19: the frame is the request's arrival after what follows every event. -/
theorem frameCarriesItsRequest : Obligations.FrameCarriesItsRequest := by
  unfold Obligations.FrameCarriesItsRequest
  intro c tag r s carries wf settled
  rw [exec_frameReceived_own settled (by have := payload_length_le wf; omega), exec_of_carries carries]
  rfl

/-- Settles O21: the checks of R190 refuse both frames before any block sees them. -/
theorem oddFramesAreAnswered : Obligations.OddFramesAreAnswered := by
  unfold Obligations.OddFramesAreAnswered
  intro kind tag payload s ready settled short
  refine ⟨fun unknown => ?_, fun badLength => ?_⟩
  · have decided : handleFrame { kind := kind, tag := tag, payload := payload } s.noted.heard =
        s.noted.heard.refuse .unknownKind := by
      unfold handleFrame; rw [decodeRequest_unknown unknown]
    show Host.Outcome.next (s.withLink (s.link.arrive kind tag payload)).finish = _
    rw [withLink_finish settled, ← noted_refused]
    have served := frame_refused (noted_ready ready) (noted_settled settled) kind tag short decided
    rw [noted_link] at served
    exact congrArg Host.Outcome.next served
  · have decided : handleFrame { kind := kind, tag := tag, payload := payload } s.noted.heard =
        s.noted.heard.refuse .badArg := by
      unfold handleFrame; rw [badLength]
    rw [exec_frameReceived_own settled (by omega)]
    exact congrArg Host.Outcome.next
      (frame_refused (noted_ready ready) (noted_settled settled) kind tag short decided)

/-- Settles O20: each event changes the assembler alone, and with no frame waiting the link serves by its choice. -/
theorem badFramesLeaveNoTrace : Obligations.BadFramesLeaveNoTrace := by
  unfold Obligations.BadFramesLeaveNoTrace
  intro s settled unhurried
  have finished : ∀ l : Link, l.waiting = s.link.waiting →
      (s.withLink l).finish = ({ s with link := l } : State).noted.startNext := fun l waiting =>
    finish_unhurried (s := s.withLink l) (waiting.trans unhurried) settled
  refine ⟨fun kind tag payload crc short bad => ?_, ?_, fun hunts x other => ?_, fun hunts => ?_⟩
  · have discarded : s.link.receiveFrame kind tag payload crc = s.link.discard := by
      unfold Link.receiveFrame
      rcases bad with differs | long
      · rw [if_neg differs]; exact ite_self _
      · refine if_pos ?_
        simp only [Link.room, Link.waitingBytes, show s.link.waiting = [] from unhurried, Config.receiveBytes, frameSize,
          List.map_nil, List.sum_nil]
        omega
    show Host.Outcome.next (if Config.maxPayload < payload.length then _ else _) = _
    rw [if_neg (by unfold Config.maxPayload; omega), discarded]
    exact congrArg Host.Outcome.next (finished _ rfl)
  · exact congrArg Host.Outcome.next (finished _ rfl)
  · have dropped : s.link.receiveByte x = s.link := by
      unfold Link.receiveByte; rw [hunts]; exact if_neg other
    show Host.Outcome.next (s.withLink (s.link.receiveByte x)).finish = _
    rw [dropped]
    exact congrArg Host.Outcome.next (finished _ rfl)
  · have marked : s.link.receiveByte 0xC3 = { s.link with assembler := .header [] } := by
      unfold Link.receiveByte; rw [hunts]; exact if_pos rfl
    show Host.Outcome.next (s.withLink (s.link.receiveByte 0xC3)).finish = _
    rw [marked]
    exact congrArg Host.Outcome.next (finished _ rfl)

/-- Settles O24: with the reply slot full and the transmitter busy an accepted frame is all that happens. -/
theorem requestsWaitTheirTurn : Obligations.RequestsWaitTheirTurn := by
  unfold Obligations.RequestsWaitTheirTurn
  intro c tag r s f g carries full busy room
  refine ⟨_, rfl, ?_, fun settled => ?_⟩
  · rw [exec_of_carries carries]
    unfold State.requestArrives
    rw [arrive_accepts room]
    exact congrArg Host.Outcome.next (serve_full (f := f) (g := g) full busy)
  · have short : r.payload.length ≤ 1024 := by
      have : s.link.room ≤ 512 := Nat.sub_le ..
      omega
    rw [exec_frameReceived_own settled short, noted_link, arrive_accepts room]
    exact congrArg Host.Outcome.next (serve_full (f := f) (g := g) full busy)

end Sys2Proof.Machine
end

section
/-! SUPPORT. A frame's bytes through the assembler: its header, its body or the count past it, and the statement that they bring
the Link Unit where the whole frame brings it (R187 to R189, R198). -/

namespace Sys2Proof.Machine

/-- The Link Unit with its assembler in a state. -/
def Link.at (l : Link) (a : Assembler) : Link := { l with assembler := a }

theorem Link.at_self {l : Link} {a : Assembler} (h : l.assembler = a) : l.at a = l := by
  unfold Link.at; rw [← h]

/-- The two length bytes give the length back (R196, R198). -/
theorem headerLength_le2 {n : Nat} (fits : n < 65536) : headerLength (BitVec.ofNat 8 n) (BitVec.ofNat 8 (n / 256)) = n := by
  unfold headerLength halfOf
  rw [BitVec.toNat_append, BitVec.toNat_ofNat, BitVec.toNat_ofNat, Nat.shiftLeft_eq, Nat.mul_comm,
    ← Nat.two_pow_add_eq_or_of_lt (Nat.mod_lt _ (by decide))]
  omega

/-! ## The body, and the count past a frame without room -/

/-- What the end of a body makes of the link does not depend on the assembler before it (R189). -/
theorem Link.finishBody_at (l : Link) (a : Assembler) (header body : List Byte) :
    (l.at a).finishBody header body = l.finishBody header body := by
  unfold Link.finishBody
  split
  · dsimp only
    split
    · split <;> rfl
    · rfl
  · rfl

/-- The assembler takes the last bytes of a body, and its end is checked as they stand (R187, R189). -/
theorem foldl_body (l : Link) (header got bytes : List Byte) (last : Byte) :
    (bytes ++ [last]).foldl Link.receiveByte (l.at (.body header got (bytes.length + 1))) =
      l.finishBody header (got ++ (bytes ++ [last])) := by
  induction bytes generalizing got with
  | nil => exact (l.finishBody_at _ header (got ++ [last]))
  | cons b rest ih =>
    have first : (l.at (.body header got (rest.length + 1 + 1))).receiveByte b =
        l.at (.body header (got ++ [b]) (rest.length + 1)) := rfl
    show (rest ++ [last]).foldl Link.receiveByte ((l.at (.body header got (rest.length + 1 + 1))).receiveByte b) = _
    rw [first, ih, List.append_assoc]
    rfl

/-- A frame without room is counted through to its last byte and leaves a hunting assembler (R188). -/
theorem foldl_skip (l : Link) (bytes : List Byte) (last : Byte) :
    (bytes ++ [last]).foldl Link.receiveByte (l.at (.skip (bytes.length + 1))) = l.discard := by
  induction bytes with
  | nil => rfl
  | cons b rest ih =>
    have first : (l.at (.skip (rest.length + 1 + 1))).receiveByte b = l.at (.skip (rest.length + 1)) := rfl
    show (rest ++ [last]).foldl Link.receiveByte ((l.at (.skip (rest.length + 1 + 1))).receiveByte b) = _
    rw [first, ih]

/-! ## The header -/

/-- A frame's bytes after the marker and its two length bytes. -/
def frameRest (kind tag : Byte) (payload : List Byte) (crc : Half) : List Byte :=
  kind :: tag :: (payload ++ halfBytes crc)

/-- A frame's last byte is the high byte of its CRC (R198). -/
theorem frameRest_last (kind tag : Byte) (payload : List Byte) (crc : Half) :
    frameRest kind tag payload crc = (kind :: tag :: (payload ++ [crc.extractLsb' 0 8])) ++ [crc.extractLsb' 8 8] := by
  simp [frameRest, halfBytes]

/-- The marker and the length bytes take a hunting assembler to the check of the length (R187, R188). -/
theorem foldl_wire {l : Link} (hunts : l.assembler = .hunt) (kind tag : Byte) {payload : List Byte} (crc : Half) :
    (wireBytes kind tag payload crc).foldl Link.receiveByte l =
      (frameRest kind tag payload crc).foldl Link.receiveByte
        ((l.at (.header [BitVec.ofNat 8 payload.length])).checkLength (BitVec.ofNat 8 payload.length)
          (BitVec.ofNat 8 (payload.length / 256))) := by
  have marked : l.receiveByte 0xC3 = l.at (.header []) := by
    unfold Link.receiveByte; rw [hunts]; exact if_pos rfl
  unfold wireBytes
  rw [List.foldl_cons, marked]
  simp only [crcSpan, le2, List.cons_append, List.nil_append]
  rfl

/-- A length above 1024 is given up at the length field (R188). -/
theorem checkLength_long {l : Link} {n : Nat} (long : 1024 < n) (fits : n < 65536) :
    l.checkLength (BitVec.ofNat 8 n) (BitVec.ofNat 8 (n / 256)) = l.discard := by
  unfold Link.checkLength
  rw [headerLength_le2 fits]
  exact if_pos long

/-- A frame without room is counted through: its kind, its tag, its payload and its CRC (R188). -/
theorem checkLength_full {l : Link} {n : Nat} (short : n ≤ 1024) (full : l.room < frameSize n) :
    l.checkLength (BitVec.ofNat 8 n) (BitVec.ofNat 8 (n / 256)) = l.at (.skip (n + 4)) := by
  unfold Link.checkLength
  rw [headerLength_le2 (by omega)]
  exact (if_neg (by unfold Config.maxPayload; omega)).trans (if_pos full)

/-- A frame with room goes on with its kind and its tag (R187, R188). -/
theorem checkLength_fits {l : Link} {n : Nat} (short : n ≤ 1024) (fits : ¬ l.room < frameSize n) :
    l.checkLength (BitVec.ofNat 8 n) (BitVec.ofNat 8 (n / 256)) =
      l.at (.header [BitVec.ofNat 8 n, BitVec.ofNat 8 (n / 256)]) := by
  unfold Link.checkLength
  rw [headerLength_le2 (by omega)]
  exact (if_neg (by unfold Config.maxPayload; omega)).trans (if_neg fits)

/-! ## The whole frame -/

/-- The bytes of a frame that found no room (R188). -/
theorem foldl_wire_full {l : Link} (hunts : l.assembler = .hunt) (kind tag : Byte) {payload : List Byte} (crc : Half)
    (short : payload.length ≤ 1024) (full : l.room < frameSize payload.length) :
    (wireBytes kind tag payload crc).foldl Link.receiveByte l = l.discard := by
  have full' : (l.at (.header [BitVec.ofNat 8 payload.length])).room < frameSize payload.length := full
  rw [foldl_wire hunts, checkLength_full short full', frameRest_last]
  have counted := foldl_skip (l.at (.header [BitVec.ofNat 8 payload.length]))
    (kind :: tag :: (payload ++ [crc.extractLsb' 0 8])) (crc.extractLsb' 8 8)
  rw [show (kind :: tag :: (payload ++ [crc.extractLsb' 0 8])).length + 1 = payload.length + 4 by simp] at counted
  exact counted

/-- The bytes of a frame with room: its body ends in the CRC, which is checked (R189). -/
theorem foldl_wire_fits {l : Link} (hunts : l.assembler = .hunt) (kind tag : Byte) {payload : List Byte} (crc : Half)
    (short : payload.length ≤ 1024) (fits : ¬ l.room < frameSize payload.length) :
    (wireBytes kind tag payload crc).foldl Link.receiveByte l =
      if crc16 (crcSpan kind tag payload) = crc then l.accept { kind := kind, tag := tag, payload := payload }
      else l.discard := by
  have fits' : ¬ (l.at (.header [BitVec.ofNat 8 payload.length])).room < frameSize payload.length := fits
  rw [foldl_wire hunts, checkLength_fits short fits']
  have header : frameRest kind tag payload crc =
      kind :: tag :: ((payload ++ [crc.extractLsb' 0 8]) ++ [crc.extractLsb' 8 8]) := frameRest_last kind tag payload crc
  rw [header, List.foldl_cons, List.foldl_cons]
  have body := foldl_body l [BitVec.ofNat 8 payload.length, BitVec.ofNat 8 (payload.length / 256), kind, tag] []
    (payload ++ [crc.extractLsb' 0 8]) (crc.extractLsb' 8 8)
  rw [show (payload ++ [crc.extractLsb' 0 8]).length + 1 = payload.length + 2 by simp] at body
  have entered : (((l.at (.header [BitVec.ofNat 8 payload.length])).at
      (.header [BitVec.ofNat 8 payload.length, BitVec.ofNat 8 (payload.length / 256)])).receiveByte kind).receiveByte tag =
      l.at (.body [BitVec.ofNat 8 payload.length, BitVec.ofNat 8 (payload.length / 256), kind, tag] []
        (payload.length + 2)) := by
    show l.at (.body _ [] (headerLength _ _ + 2)) = _
    rw [headerLength_le2 (by omega)]
  rw [entered, body]
  unfold Link.finishBody
  simp only [headerLength_le2 (show payload.length < 65536 by omega), List.nil_append, List.append_assoc,
    List.cons_append, List.drop_left', List.take_left', halfOf_bytes]
  rfl

/-- The bytes of a frame of an allowed length bring the link where the whole frame does (R187 to R189). -/
theorem foldl_wire_receives {l : Link} (hunts : l.assembler = .hunt) (kind tag : Byte) {payload : List Byte} (crc : Half)
    (short : payload.length ≤ 1024) :
    (wireBytes kind tag payload crc).foldl Link.receiveByte l = l.receiveFrame kind tag payload crc := by
  unfold Link.receiveFrame
  split
  · next full => exact foldl_wire_full hunts kind tag crc short full
  · next fits => exact foldl_wire_fits hunts kind tag crc short fits

/-- Settles O22: byte by byte through marker, length, header and body, or past the frame. -/
theorem bytesMakeTheFrame : Obligations.BytesMakeTheFrame := by
  unfold Obligations.BytesMakeTheFrame
  refine ⟨fun kind tag payload crc l hunts short => foldl_wire_receives hunts kind tag crc short,
    fun kind tag payload crc l hunts long fits => ?_, fun kind tag payload crc s hunts long => ?_,
    fun f l hunts short room => ?_⟩
  · rw [foldl_wire hunts, checkLength_long long fits]
    exact congrArg (fun m => (frameRest kind tag payload crc).foldl Link.receiveByte m) (Link.at_self hunts)
  · show Host.Outcome.next (if Config.maxPayload < payload.length then _ else _) = _
    rw [if_pos (by unfold Config.maxPayload; omega)]
    unfold State.longFrameArrives
    rw [show s.link.discard = s.link from Link.at_self hunts]
    rfl
  · have received := foldl_wire_receives hunts f.kind f.tag (crc16 (crcSpan f.kind f.tag f.payload))
      (show f.payload.length ≤ 1024 by omega)
    exact received.trans (arrive_accepts room)

end Sys2Proof.Machine
end

section
/-! SUPPORT. The Plan Store's requests and SET_ENABLES, each decided case by case on the state its arrival leaves (R5, R6, R11 to
R15, R130). -/

namespace Sys2Proof.Machine

/-! ## A request under its reply's kind (R190, R199) -/

theorem request_answered {s t : State} {c : Instr} {r : Request} {st : Status} {figures : List Byte} {kind tag : Byte}
    (ready : s.ready) (decided : handleRequest r s.heard = (t, { status := st, figures := figures })) (settled : t.settled)
    (accepted : st.code < 8 := by decide) (carries : c.carries tag r := by exact ⟨rfl, rfl⟩)
    (wf : r.wellFormed = true := by rfl) (replyKind : r.kind ||| 0x80#8 = kind := by simp [Request.kind]) :
    exec c s = .next (t.noted.answered kind tag (le1 st.code ++ figures)) := by
  rw [exec_answered carries wf ready decided accepted settled, replyKind]

theorem request_plain {s t : State} {c : Instr} {r : Request} {st : Status} {kind tag : Byte}
    (ready : s.ready) (decided : handleRequest r s.heard = (t, Reply.plain st)) (settled : t.settled)
    (carries : c.carries tag r := by exact ⟨rfl, rfl⟩) (wf : r.wellFormed = true := by rfl)
    (replyKind : r.kind ||| 0x80#8 = kind := by simp [Request.kind]) :
    exec c s = .next (t.noted.answered kind tag (le1 st.code)) := by
  rw [exec_plain carries wf ready decided settled, replyKind]

theorem request_refused {s : State} {c : Instr} {r : Request} {st : Status} {kind tag : Byte}
    (ready : s.ready) (settled : s.settled) (decided : handleRequest r s.heard = s.heard.refuse st)
    (carries : c.carries tag r := by exact ⟨rfl, rfl⟩) (wf : r.wellFormed = true := by rfl)
    (replyKind : r.kind ||| 0x80#8 = kind := by simp [Request.kind]) :
    exec c s = .next (s.refused kind tag st) := by
  rw [exec_refused carries wf ready settled decided, replyKind]

/-! ## LOAD_RECIPE -/

/-- `v` brought into a range whose ends are in order. -/
theorem clampTo_eq {lo hi : Nat} (h : lo ≤ hi) (v : Nat) : clampTo lo hi v = max lo (min hi v) := by
  unfold clampTo
  split
  · omega
  · split <;> omega

/-- The ends of every field's range are in order (R4). -/
theorem ranges_ordered : ∀ lim ∈ Recipe.ranges, lim.1 ≤ lim.2 := by decide

/-- Clamping brings each field to the nearer end of its own range (R5). -/
theorem clampFields_eq (sent : List Nat) :
    Recipe.clampFields sent = List.zipWith (fun lim (v : Nat) => max lim.1 (min lim.2 v)) Recipe.ranges sent := by
  unfold Recipe.clampFields
  have each : ∀ (l : List (Nat × Nat)) (vs : List Nat), (∀ lim ∈ l, lim.1 ≤ lim.2) →
      List.zipWith (fun range v => clampTo range.1 range.2 v) l vs =
        List.zipWith (fun lim (v : Nat) => max lim.1 (min lim.2 v)) l vs := by
    intro l
    induction l with
    | nil => intro vs _; rfl
    | cons lim l ih =>
      intro vs ordered
      cases vs with
      | nil => rfl
      | cons v vs =>
        rw [List.zipWith_cons_cons, List.zipWith_cons_cons, clampTo_eq (ordered lim List.mem_cons_self),
          ih vs fun k mem => ordered k (List.mem_cons_of_mem _ mem)]
  exact each Recipe.ranges sent ranges_ordered

/-- Twenty-eight fields make a recipe, whose fields they are. -/
theorem ofList_of_length {l : List Nat} (h : l.length = 28) : ∃ r, Recipe.ofList l = some r ∧ r.toList = l := by
  match l, h with
  | [f1, f2, f3, f4, f5, f6, f7, f8, f9, f10, f11, f12, f13, f14, f15, f16, f17, f18, f19, f20, f21, f22, f23, f24, f25,
      f26, f27, f28], _ => exact ⟨_, rfl, rfl⟩

theorem related_iff (r : Recipe) :
    r.related = true ↔
      r.boltDiameter + 3 ≤ r.bitDiameter ∧ r.encapsulation ≤ r.targetDepth ∧ r.mixTimeMax ≤ r.gelLimit ∧
        r.tensionMin < r.tensionMax := by
  simp [Recipe.related, and_assoc]

/-- LOAD_RECIPE in CONFIG for a recipe slot, its clamped fields making a recipe (R5, R6). -/
theorem reqLoadRecipe_in_config {s : State} {slot : Byte} {fields : List Half} {i : Fin 16} {r : Recipe}
    (mode : s.mode = .config) (index : recipeIndex slot = some i)
    (made : Recipe.ofList (Recipe.clampFields (fields.map BitVec.toNat)) = some r) :
    reqLoadRecipe slot fields s =
      if r.related then
        (s.setRecipe i (some r),
          { status := if Recipe.clampFields (fields.map BitVec.toNat) = fields.map BitVec.toNat then .ok else .clamped,
            figures := r.bytes })
      else s.refuse .badArg := by
  simp [reqLoadRecipe, mode, index, made]

/-- Settles O29: out of CONFIG and without a recipe slot the request is refused; else the clamped fields make a recipe, which is
stored when it keeps the relations. -/
theorem loadRecipeClampsThenRelates : Obligations.LoadRecipeClampsThenRelates := by
  intro s tag slot fields ready settled length
  have wf : (Request.loadRecipe slot fields).wellFormed = true := by simpa [Request.wellFormed] using length
  have refused : ∀ st, reqLoadRecipe slot fields s.heard = s.heard.refuse st →
      exec (.loadRecipe tag slot fields) s = .next (s.refused 0x86 tag st) := fun st decided =>
    request_refused (r := .loadRecipe slot fields) ready settled decided (wf := wf)
  refine ⟨fun mode => refused _ (by simp [reqLoadRecipe, mode]),
    fun mode index => refused _ (by simp [reqLoadRecipe, mode, index]), fun i mode index => ?_⟩
  obtain ⟨r, made, list⟩ := ofList_of_length (l := Recipe.clampFields (fields.map BitVec.toNat))
    (by simp [Recipe.clampFields, length, Recipe.ranges])
  refine ⟨r, by rw [list, clampFields_eq], ?_⟩
  have decision := reqLoadRecipe_in_config (s := s.heard) (by simpa using mode) index made
  rw [list]
  by_cases related : r.related = true
  · rw [if_pos related] at decision
    rw [if_pos ((related_iff r).1 related)]
    have stored : s.heard.setRecipe i (some r) = { s.heard with recipes := s.recipes.set i (some r) } := by
      obtain ⟨l, h⟩ := heard_link s; rw [h]; rfl
    rw [stored] at decision
    rw [request_answered (r := .loadRecipe slot fields) (kind := 0x86) ready decision (heard_settled settled)
      (by split <;> decide) (wf := wf)]
    split <;> rfl
  · rw [if_neg related] at decision
    rw [if_neg fun h => related ((related_iff r).2 h)]
    exact refused _ decision

/-! ## The hole queues -/

@[simp] theorem heard_idQueued (s : State) (id : Nat) : s.heard.idQueued id = s.idQueued id := by
  obtain ⟨l, h⟩ := heard_link s; rw [h]; rfl

@[simp] theorem heard_idInHole (s : State) (id : Nat) : s.heard.idInHole id = s.idInHole id := by
  obtain ⟨l, h⟩ := heard_link s; rw [h]; rfl

/-- An override brought into [E, 3000] is the one sent exactly when that lies there (R12). -/
theorem clampOverride_eq_self (e d : Nat) : clampOverride e d = d ↔ e ≤ d ∧ d ≤ 3000 := by
  unfold clampOverride clampTo
  split
  · omega
  · split <;> omega

/-- The override that QUEUE_HOLE keeps (R12). -/
theorem clampOverride_eq (e d : Nat) : clampOverride e d = if d < e then e else min d 3000 := by
  unfold clampOverride clampTo
  split
  · rfl
  · split <;> omega

/-- Settles O31: each check in its turn refuses, or the entry joins its queue with the override brought into its range. -/
theorem queueHoleChecksThenJoins : Obligations.QueueHoleChecksThenJoins := by
  intro s tag boom id slot pos override ready settled
  have carries : Instr.carries (.queueHole tag boom id slot pos override) tag
      (.queueHole boom id slot pos (if override.isSome then 1 else 0) override) := by cases override <;> exact ⟨rfl, rfl⟩
  have refused : ∀ st, handleRequest (.queueHole boom id slot pos (if override.isSome then 1 else 0) override) s.heard =
      s.heard.refuse st → exec (.queueHole tag boom id slot pos override) s = .next (s.refused 0x89 tag st) :=
    fun st decided => request_refused ready settled decided (carries := carries)
  have encoded : overrideEncoded (if override.isSome then 1 else 0) override = true := by cases override <;> rfl
  cases named : s.slotOf boom with
  | none => exact refused _ (by simp [handleRequest, reqQueueHole, named])
  | some b =>
    by_cases zero : id = 0
    · simpa only [if_pos zero] using refused _ (by simp [handleRequest, reqQueueHole, named, zero])
    · cases holds : s.recipeOf slot with
      | none =>
        simpa only [if_neg zero] using
          refused _ (by simp only [handleRequest, reqQueueHole, heard_slotOf, heard_recipeOf, named, if_neg zero, holds])
      | some r =>
        have decision : handleRequest (.queueHole boom id slot pos (if override.isSome then 1 else 0) override) s.heard =
            if 8 ≤ (s.queues.get b).length then s.heard.refuse .full
            else if s.idHeld id.toNat then s.heard.refuse .duplicate
            else
              (s.heard.enqueue b
                { holeId := id.toNat, recipeSlot := slot.toNat, posTag := pos.toNat,
                  depth := override.map (fun d => clampOverride r.encapsulation d.toNat) },
                { status :=
                    if override.map (fun d => clampOverride r.encapsulation d.toNat) = override.map BitVec.toNat then .ok
                    else .clamped
                  figures := le1 ((s.queues.get b).length + 1) }) := by
          simp only [handleRequest, reqQueueHole, heard_slotOf, heard_recipeOf, heard_queues, heard_idHeld, named, if_neg zero,
            holds, encoded, State.enqueue, Config.queueSize, four_get_set_self, List.length_append, List.length_singleton,
            if_true]
        simp only [if_neg zero]
        by_cases full : 8 ≤ (s.queues.get b).length
        · rw [if_pos full] at decision ⊢
          exact refused _ decision
        · rw [if_neg full] at decision ⊢
          by_cases held : s.idHeld id.toNat = true
          · rw [if_pos held] at decision ⊢
            exact refused _ decision
          · rw [if_neg held] at decision ⊢
            rw [request_answered (kind := 0x89) ready decision (heard_settled settled) (by split <;> decide)
              (carries := carries)]
            have joined : ∀ q, s.heard.enqueue b q = { s.heard with queues := s.queues.set b (s.queues.get b ++ [q]) } := by
              obtain ⟨l, h⟩ := heard_link s; rw [h]; exact fun _ => rfl
            rw [joined]
            cases override with
            | none => rfl
            | some d =>
              simp only [Option.map_some, Option.some.injEq, clampOverride_eq_self]
              simp only [clampOverride_eq, apply_ite Status.code]
              rfl

/-- Settles O32: each check of CANCEL_HOLE and FLUSH_QUEUE refuses in its turn, or the entries leave their queues. -/
theorem entriesLeaveTheQueues : Obligations.EntriesLeaveTheQueues := by
  intro s tag ready settled
  constructor
  · intro id
    have refused : ∀ st, handleRequest (.cancelHole id) s.heard = s.heard.refuse st →
        exec (.cancelHole tag id) s = .next (s.refused 0x8A tag st) := fun st decided =>
      request_refused ready settled decided
    by_cases zero : id = 0
    · rw [if_pos zero]
      exact refused _ (by simp only [handleRequest, reqCancelHole, if_pos zero])
    · rw [if_neg zero]
      by_cases queued : s.idQueued id.toNat = true
      · have decision : handleRequest (.cancelHole id) s.heard = (s.heard.dropEntry id.toNat).done := by
          simp only [handleRequest, reqCancelHole, if_neg zero, heard_idQueued, if_pos queued]
        have dropped : (s.heard.dropEntry id.toNat).settled := heard_settled settled
        rw [if_pos queued, request_plain (kind := 0x8A) ready decision dropped]
        unfold State.dropEntry
        rw [heard_queues]
        rfl
      · rw [if_neg queued]
        by_cases inHole : s.idInHole id.toNat = true
        · rw [if_pos inHole]
          exact refused _ (by
            simp only [handleRequest, reqCancelHole, if_neg zero, heard_idQueued, if_neg queued, heard_idInHole,
              if_pos inHole])
        · rw [if_neg inHole]
          exact refused _ (by
            simp only [handleRequest, reqCancelHole, if_neg zero, heard_idQueued, if_neg queued, heard_idInHole,
              if_neg inHole])
  · intro boom
    have refused : ∀ st, handleRequest (.flushQueue boom) s.heard = s.heard.refuse st →
        exec (.flushQueue tag boom) s = .next (s.refused 0x8B tag st) := fun st decided =>
      request_refused ready settled decided
    cases named : s.slotOf boom with
    | none => exact refused _ (by simp only [handleRequest, reqFlushQueue, heard_slotOf, named])
    | some b =>
      by_cases empty : s.queues.get b = []
      · simpa only [if_pos empty] using
          refused _ (by simp only [handleRequest, reqFlushQueue, heard_slotOf, named, heard_queues, if_pos empty])
      · simp only [if_neg empty]
        exact request_answered (r := .flushQueue boom) (st := .ok) ready
          (by simp only [handleRequest, reqFlushQueue, heard_slotOf, named, heard_queues, if_neg empty])
          (heard_settled settled)

/-! ## SET_ENABLES -/

/-- The bits of the mask of maskable conditions are 9 to 16, priorities 10 to 17 (R129). -/
theorem maskableBits_getLsbD (i : Nat) : CondSet.maskableBits.getLsbD i = decide (9 ≤ i ∧ i < 17) := by
  by_cases small : i < 32
  · have each : ∀ j : Fin 32, CondSet.maskableBits.getLsbD j = decide (9 ≤ j.val ∧ j.val < 17) := by decide
    exact each ⟨i, small⟩
  · rw [BitVec.getLsbD_of_ge _ _ (by omega)]
    simp; omega

/-- A set names maskable conditions alone when each of its bits is 9 to 16 (R129, R197). -/
theorem maskable_iff (w : Word) :
    w &&& ~~~CondSet.maskableBits = 0 ↔ ∀ i, w.getLsbD i = true → 9 ≤ i ∧ i < 17 := by
  constructor
  · intro none i bit
    have small : i < 32 := BitVec.lt_of_getLsbD bit
    have at_i : (w &&& ~~~CondSet.maskableBits).getLsbD i = false := by rw [none]; exact BitVec.getLsbD_zero
    rw [BitVec.getLsbD_and, BitVec.getLsbD_not, bit, maskableBits_getLsbD] at at_i
    simpa [small] using at_i
  · intro each
    refine BitVec.eq_of_getLsbD_eq fun i small => ?_
    cases bit : w.getLsbD i
    · simp [bit]
    · simp [maskableBits_getLsbD, each i bit]

/-- A state that asks for the same mode and has each boom as fitted and as quiet is as settled (R179). -/
theorem settled_of_same {s t : State} (h : s.settled) (requested : t.requested = s.requested)
    (fits : ∀ b, t.fits b = s.fits b) (quiet : ∀ b, t.quiet b = s.quiet b) : t.settled := by
  simpa only [State.settled, State.quiescent, requested, fits, quiet] using h

/-- A boom replaced by one with the same contexts leaves every boom as quiet as it was (R179). -/
theorem setBoom_settled {s : State} (h : s.settled) {b : Slot} {x : Boom} (auto : x.auto = (s.boom b).auto)
    (level : x.level = (s.boom b).level) : (s.setBoom b x).settled := by
  refine settled_of_same h rfl (fun _ => rfl) fun c => ?_
  unfold State.quiet
  by_cases eq : c = b
  · rw [eq, State.setBoom_boom, auto, level]; rfl
  · rw [State.setBoom_boom_of_ne s _ eq]; rfl

/-- Settles O39: a set outside the mask, or of an unfitted slot, is refused, and any other replaces the enable set. -/
theorem setEnablesReplacesTheSet : Obligations.SetEnablesReplacesTheSet := by
  intro s tag boom w ready settled
  have refused : handleRequest (.setEnables boom w) s.heard = s.heard.refuse .badArg →
      exec (.setEnables tag boom w) s = .next (s.refused 0x8F tag .badArg) := fun decided =>
    request_refused ready settled decided
  refine ⟨fun named => refused (by simp only [handleRequest, reqSetEnables, heard_slotOf, named]),
    fun b named ⟨i, _, bit, outside⟩ => ?_, fun b named inside => ?_⟩
  · have mask : ¬ w &&& ~~~CondSet.maskableBits = 0 := fun h => by
      have := (maskable_iff w).1 h i bit
      omega
    exact refused (by simp only [handleRequest, reqSetEnables, heard_slotOf, named, if_neg mask])
  · have mask := (maskable_iff w).2 inside
    refine request_answered (r := .setEnables boom w) (st := .ok) ready ?_
      (setBoom_settled (heard_settled settled) (by rw [heard_boom]) (by rw [heard_boom]; rfl))
    simp only [handleRequest, reqSetEnables, heard_slotOf, named, if_pos mask, heard_boom]

end Sys2Proof.Machine
end

section
/-! SUPPORT. What ABANDON and RESOLVE refuse, each check decided on the state the request's arrival leaves (R45, R143, R146 to
R148). -/

namespace Sys2Proof.Machine

@[simp] theorem heard_causeStands (s : State) (b : Slot) (f : ExFrame) (h : Hole) :
    s.heard.causeStands b f h = s.causeStands b f h := by
  obtain ⟨l, e⟩ := heard_link s; rw [e]; rfl

/-! ## The contexts these requests act on -/

/-- ABANDON finds a hole to give up in an active CYCLE or EXCEPTION alone (R45). -/
theorem abandonable_none {x : Boom}
    (h : x.level ≠ 0 ∨ ((∀ sub h, x.auto ≠ .cycle sub h) ∧ ∀ f h, x.auto ≠ .exception f h)) : x.abandonable = none := by
  unfold Boom.abandonable
  split
  · next level auto => exact absurd auto ((h.resolve_left (fun k => k level)).1 _ _)
  · next level auto => exact absurd auto ((h.resolve_left (fun k => k level)).2 _ _)
  · rfl

/-- RESOLVE acts on an active EXCEPTION alone (R143). -/
theorem resolvable_none {x : Boom} (h : x.level ≠ 0 ∨ ∀ f h, x.auto ≠ .exception f h) : x.resolvable = none := by
  unfold Boom.resolvable
  split
  · next level auto => exact absurd auto (h.resolve_left (fun k => k level) _ _)
  · rfl

theorem resolvable_exception {x : Boom} {f : ExFrame} {h : Hole} (level : x.level = 0) (auto : x.auto = .exception f h) :
    x.resolvable = some (f, h) := by
  unfold Boom.resolvable; rw [level, auto]; rfl

/-! ## The checks of the actions -/

theorem boltLost_iff (h : Hole) :
    h.boltLost = true ↔ (h.phase = .inserting ∨ h.phase = .mixing) ∧ h.chuckReleased = true := by
  unfold Hole.boltLost; cases h.phase <;> simp [Phase.losesBolt]

/-- CAUSE_PRESENT: one of R146's tests holds. -/
theorem causeStands_iff (s : State) (b : Slot) (f : ExFrame) (h : Hole) :
    s.causeStands b f h = true ↔
      s.lineOn = true ∨ (CondSet.has f.current .driveLost = true ∧ s.driveOn = false) ∨
        (CondSet.has f.current .positionLost = true ∧ (s.boom b).outNow.position = true) ∨
        ((h.phase = .inserting ∨ h.phase = .mixing) ∧ h.chuckReleased = true) := by
  simp [State.causeStands, boltLost_iff, Boom.positionOut, or_assoc]

/-- A frame that allows no RETRY: IN_PHASE on neither a loader jam nor a short mix, PRE_PHASE without UNDER_TENSION (R147). -/
theorem retryKind_none {f : ExFrame} (inPhase : f.kind = .inPhase → f.cause ≠ .loaderJam ∧ f.cause ≠ .mixShort)
    (prePhase : f.kind = .prePhase → CondSet.has f.posted .underTension = false) : f.retryKind = none := by
  unfold ExFrame.retryKind
  split
  · next kind =>
    split
    · next cause => exact absurd cause (inPhase kind).1
    · next cause => exact absurd cause (inPhase kind).2
    · rfl
  · next kind => simp [prePhase kind]

theorem retryKind_loader {f : ExFrame} (kind : f.kind = .inPhase) (cause : f.cause = .loaderJam) :
    f.retryKind = some .loader := by
  unfold ExFrame.retryKind; rw [kind, cause]

theorem retryKind_mix {f : ExFrame} (kind : f.kind = .inPhase) (cause : f.cause = .mixShort) :
    f.retryKind = some .mix := by
  unfold ExFrame.retryKind; rw [kind, cause]

theorem retryKind_retorque {f : ExFrame} (kind : f.kind = .prePhase) (posted : CondSet.has f.posted .underTension = true) :
    f.retryKind = some .retorque := by
  unfold ExFrame.retryKind; rw [kind]; simp [posted]

theorem setsCartridges_iff (f : ExFrame) :
    f.setsCartridges = true ↔
      f.kind = .prePhase ∧ (CondSet.has f.posted .poorAnchor = true ∨ CondSet.has f.posted .shortResin = true) := by
  simp [ExFrame.setsCartridges]

/-! ## RESOLVE up to its action's own checks -/

section resolve

variable {s : State} {boom action : Byte} {v : Option Byte} {b : Slot} {a : Action} {n : Nat}

theorem reqResolve_unfitted (named : s.slotOf boom = none) : reqResolve boom action v s = s.refuse .badArg := by
  unfold reqResolve; rw [named]

theorem reqResolve_unspelled (named : s.slotOf boom = some b) (spelled : actionWith action v = none) :
    reqResolve boom action v s = s.refuse .badArg := by
  unfold reqResolve; rw [named]; dsimp only; rw [spelled]

theorem reqResolve_elsewhere (named : s.slotOf boom = some b) (spelled : actionWith action v = some (a, n))
    (stands : (s.boom b).level ≠ 0 ∨ ∀ f h, (s.boom b).auto ≠ .exception f h) :
    reqResolve boom action v s = s.refuse .refusedState := by
  unfold reqResolve; rw [named]; dsimp only; rw [spelled]; dsimp only; rw [resolvable_none stands]

theorem reqResolve_on {f : ExFrame} {h : Hole} (named : s.slotOf boom = some b) (spelled : actionWith action v = some (a, n))
    (level : (s.boom b).level = 0) (auto : (s.boom b).auto = .exception f h) :
    reqResolve boom action v s = resolveOn a n b f h s := by
  unfold reqResolve; rw [named]; dsimp only; rw [spelled]; dsimp only; rw [resolvable_exception level auto]

end resolve

/-! ## The obligation -/

/-- The four rows of RESOLVE, by the action's code. -/
inductive ResolveRow (tag boom : Byte) (v : Option Byte) : Byte → Instr → Prop where
  | resume : ResolveRow tag boom v 0 (.resolveContinue tag boom v)
  | retry : ResolveRow tag boom v 1 (.resolveRetry tag boom v)
  | setCartridges : ResolveRow tag boom v 2 (.resolveSetCartridges tag boom v)
  | abandon : ResolveRow tag boom v 3 (.resolveAbandon tag boom v)

theorem ResolveRow.carries {tag boom action : Byte} {v : Option Byte} {c : Instr} (row : ResolveRow tag boom v action c) :
    c.carries tag (.resolve boom action v) := by
  cases row <;> exact ⟨rfl, rfl⟩

section rows

variable {s : State} {tag boom action : Byte} {v : Option Byte} {c : Instr} {b : Slot} {a : Action} {n : Nat} {st : Status}

/-- A RESOLVE row refused by its decision on the state its arrival leaves. -/
theorem ResolveRow.refuses (row : ResolveRow tag boom v action c) (ready : s.ready) (settled : s.settled)
    (decided : reqResolve boom action v s.heard = s.heard.refuse st) : exec c s = .next (s.refused 0x90 tag st) :=
  request_refused (r := .resolve boom action v) ready settled decided (carries := row.carries)

theorem ResolveRow.unfitted (row : ResolveRow tag boom v action c) (ready : s.ready) (settled : s.settled)
    (named : s.slotOf boom = none) : exec c s = .next (s.refused 0x90 tag .badArg) :=
  row.refuses ready settled (reqResolve_unfitted (by rw [heard_slotOf, named]))

theorem ResolveRow.unspelled (row : ResolveRow tag boom v action c) (ready : s.ready) (settled : s.settled)
    (named : s.slotOf boom = some b) (spelled : actionWith action v = none) : exec c s = .next (s.refused 0x90 tag .badArg) :=
  row.refuses ready settled (reqResolve_unspelled (by rw [heard_slotOf, named]) spelled)

theorem ResolveRow.elsewhere (row : ResolveRow tag boom v action c) (ready : s.ready) (settled : s.settled)
    (named : s.slotOf boom = some b) (spelled : actionWith action v = some (a, n))
    (stands : (s.boom b).level ≠ 0 ∨ ∀ f h, (s.boom b).auto ≠ .exception f h) :
    exec c s = .next (s.refused 0x90 tag .refusedState) :=
  row.refuses ready settled (reqResolve_elsewhere (by rw [heard_slotOf, named]) spelled (by simpa only [heard_boom] using stands))

/-- The action's own check refuses the frame. -/
theorem ResolveRow.on {f : ExFrame} {h : Hole} (row : ResolveRow tag boom v action c) (ready : s.ready) (settled : s.settled)
    (named : s.slotOf boom = some b) (spelled : actionWith action v = some (a, n)) (level : (s.boom b).level = 0)
    (auto : (s.boom b).auto = .exception f h) (decided : resolveOn a n b f h s.heard = s.heard.refuse st) :
    exec c s = .next (s.refused 0x90 tag st) :=
  row.refuses ready settled
    ((reqResolve_on (by rw [heard_slotOf, named]) spelled (by rw [heard_boom, level]) (by rw [heard_boom, auto])).trans decided)

end rows

theorem lineOn_or_boltLost {s : State} {h : Hole}
    (stands : s.lineOn = true ∨ ((h.phase = .inserting ∨ h.phase = .mixing) ∧ h.chuckReleased = true)) :
    (s.lineOn || h.boltLost) = true := by
  rw [Bool.or_eq_true, boltLost_iff]; exact stands

/-- Settles O40: each refusal is the first check of its request that fails. -/
theorem abandonAndResolveRefusals : Obligations.AbandonAndResolveRefusals := by
  constructor
  · intro s tag boom v ready settled
    have abandonRefused : ∀ st, reqAbandon boom s.heard = s.heard.refuse st →
        exec (.abandon tag boom) s = .next (s.refused 0x8E tag st) := fun st decided =>
      request_refused (r := .abandon boom) ready settled decided
    refine ⟨fun named => ⟨ResolveRow.resume.unfitted ready settled named,
      abandonRefused _ (by simp only [reqAbandon, heard_slotOf, named])⟩, fun b named =>
      ⟨fun stands => abandonRefused _ (by simp only [reqAbandon, heard_slotOf, heard_boom, named, abandonable_none stands]),
        fun given => ?_, ResolveRow.setCartridges.unspelled ready settled named rfl,
        fun stands => ResolveRow.resume.elsewhere ready settled named rfl stands, fun f h level auto stands => ?_⟩⟩
    · obtain ⟨n, rfl⟩ := Option.ne_none_iff_exists'.1 given
      exact ⟨ResolveRow.resume.unspelled ready settled named rfl, ResolveRow.retry.unspelled ready settled named rfl,
        ResolveRow.abandon.unspelled ready settled named rfl⟩
    · refine ResolveRow.resume.on ready settled named rfl level auto ?_
      simp only [resolveOn, resolveContinueOn, heard_causeStands, (causeStands_iff s b f h).2 stands, if_true]
  · intro s tag boom n ready settled
    refine ⟨fun named => ⟨ResolveRow.retry.unfitted ready settled named, ResolveRow.setCartridges.unfitted ready settled named,
      ResolveRow.abandon.unfitted ready settled named⟩, fun b named => ⟨fun stands =>
        ⟨ResolveRow.retry.elsewhere ready settled named rfl stands,
          ResolveRow.setCartridges.elsewhere ready settled named rfl stands,
          ResolveRow.abandon.elsewhere ready settled named rfl stands⟩,
      fun f h level auto => ⟨fun inPhase prePhase => ?_, fun late => ?_, fun legal stands => ?_, fun other => ?_,
        fun kind posted => ⟨fun range => ?_, fun low high stands => ?_⟩⟩⟩⟩
    · refine ResolveRow.retry.on ready settled named rfl level auto ?_
      simp only [resolveOn, resolveRetryOn, retryKind_none inPhase prePhase]
    · refine ResolveRow.retry.on ready settled named rfl level auto ?_
      rcases late with ⟨kind, cause, gel⟩ | ⟨kind, posted, twice⟩
      · simp only [resolveOn, resolveRetryOn, retryKind_mix kind cause, Hole.retryTooLate, heard_clock, gel, if_true]
      · simp only [resolveOn, resolveRetryOn, retryKind_retorque kind posted, Hole.retryTooLate, decide_eq_true twice, if_true]
    · refine ResolveRow.retry.on ready settled named rfl level auto ?_
      have refuses := lineOn_or_boltLost stands
      rcases legal with ⟨kind, cause⟩ | ⟨kind, cause, gel⟩ | ⟨kind, posted, once⟩
      · simp only [resolveOn, resolveRetryOn, retryKind_loader kind cause, Hole.retryTooLate, heard_lineOn, refuses, if_true,
          Bool.false_eq_true, if_false]
      · simp only [resolveOn, resolveRetryOn, retryKind_mix kind cause, Hole.retryTooLate, heard_clock, gel, heard_lineOn,
          refuses, if_true, Bool.false_eq_true, if_false]
      · simp only [resolveOn, resolveRetryOn, retryKind_retorque kind posted, Hole.retryTooLate,
          decide_eq_false (show ¬ 2 ≤ h.retorques by omega), heard_lineOn, refuses, if_true, Bool.false_eq_true, if_false]
    · refine ResolveRow.setCartridges.on ready settled named rfl level auto ?_
      have sets : f.setsCartridges = false := by
        rw [← Bool.not_eq_true, setsCartridges_iff]
        rintro ⟨kind, posted⟩
        rcases other with inPhase | ⟨anchor, resin⟩
        · rw [kind] at inPhase; cases inPhase
        · simp [anchor, resin] at posted
      simp only [resolveOn, resolveCartridgesOn, sets, if_true]
    · refine ResolveRow.setCartridges.on ready settled named rfl level auto ?_
      simp only [resolveOn, resolveCartridgesOn, (setsCartridges_iff f).2 ⟨kind, posted⟩, Bool.true_eq_false, if_false,
        if_pos range]
    · refine ResolveRow.setCartridges.on ready settled named rfl level auto ?_
      simp only [resolveOn, resolveCartridgesOn, (setsCartridges_iff f).2 ⟨kind, posted⟩, Bool.true_eq_false, if_false,
        if_neg (show ¬ (n.toNat < 1 ∨ 6 < n.toNat) by omega), heard_causeStands, (causeStands_iff s b f h).2 stands, if_true]

end Sys2Proof.Machine
end

section
/-! SUPPORT. MANUAL_DRIVE decided by its checks and by the MANUAL context's sub-state (R156, R164). -/

namespace Sys2Proof.Machine

/-- The active context is MANUAL exactly at level 1 (R152). -/
theorem activeManual_none {x : Boom} (h : x.level ≠ 1) : x.activeManual = none := by
  unfold Boom.activeManual Boom.level at *
  cases retract : x.retract with
  | some r => rfl
  | none =>
    cases manual : x.manual with
    | none => rfl
    | some m => simp [retract, manual] at h

theorem level_one {x : Boom} (h : x.level = 1) : x.retract = none ∧ ∃ m, x.manual = some m := by
  unfold Boom.level at h
  cases retract : x.retract with
  | some r => simp [retract] at h
  | none =>
    cases manual : x.manual with
    | none => simp [retract, manual] at h
    | some m => exact ⟨rfl, m, rfl⟩

theorem activeManual_of_level {x : Boom} {m : ManualCtx} (h : x.level = 1) (manual : x.manual = some m) :
    x.activeManual = some m := by
  unfold Boom.activeManual; rw [(level_one h).1, manual]

/-- A fitted boom under an intervention is not quiescent, so no mode change is due (R179). -/
theorem settled_of_level {s : State} {b : Slot} (fits : s.fits b = true) (h : (s.boom b).level ≠ 0) : s.settled := by
  right
  have all : b ∈ Slot.all := by cases b <;> decide
  rw [← Bool.not_eq_true]
  unfold State.quiescent
  intro quiet
  have quiet_b := List.all_eq_true.1 quiet b all
  simp [fits, State.quiet, h] at quiet_b

/-- The slot a boom argument names is fitted (R19). -/
theorem fits_of_slotOf {s : State} {boom : Byte} {b : Slot} (named : s.slotOf boom = some b) : s.fits b = true := by
  unfold State.slotOf at named
  split at named
  · split at named
    · next fits => cases named; exact fits
    · cases named
  · cases named

/-- The chuck argument a code of the table names (R200). -/
theorem chuckArg_isSome {n : Nat} (h : n ≤ 2) : ∃ c, ChuckArg.ofCode n = some c := by
  match n, h with
  | 0, _ => exact ⟨_, rfl⟩
  | 1, _ => exact ⟨_, rfl⟩
  | 2, _ => exact ⟨_, rfl⟩

theorem chuckArg_none {n : Nat} (h : 2 < n) : ChuckArg.ofCode n = none := by
  unfold ChuckArg.ofCode
  split
  · omega
  · omega
  · omega
  · rfl

theorem perMille_iff (v : Int) : perMille v = true ↔ -1000 ≤ v ∧ v ≤ 1000 := by simp [perMille]

/-! ## The decision -/

section decision

variable {s : State} {boom chuck : Byte} {feed rotation : Half} {b : Slot} {c : ChuckArg} {m : ManualCtx}

theorem reqManualDrive_range (named : s.slotOf boom = some b)
    (outside : feed.toInt < -1000 ∨ 1000 < feed.toInt ∨ rotation.toInt < -1000 ∨ 1000 < rotation.toInt ∨ 2 < chuck.toNat) :
    reqManualDrive boom feed rotation chuck s = s.refuse .badArg := by
  unfold reqManualDrive
  rw [named]
  dsimp only
  split
  · rfl
  · next inside =>
    rw [not_or, Bool.not_eq_false, Bool.not_eq_false, perMille_iff, perMille_iff] at inside
    rw [chuckArg_none (by omega)]

theorem reqManualDrive_elsewhere (named : s.slotOf boom = some b) (feedIn : perMille feed.toInt = true)
    (rotationIn : perMille rotation.toInt = true) (spelled : ChuckArg.ofCode chuck.toNat = some c)
    (level : (s.boom b).level ≠ 1) : reqManualDrive boom feed rotation chuck s = s.refuse .refusedState := by
  unfold reqManualDrive
  simp only [named, feedIn, rotationIn, spelled, activeManual_none level, Bool.true_eq_false, or_self, if_false]

theorem reqManualDrive_manual (named : s.slotOf boom = some b) (feedIn : perMille feed.toInt = true)
    (rotationIn : perMille rotation.toInt = true) (spelled : ChuckArg.ofCode chuck.toNat = some c)
    (level : (s.boom b).level = 1) (manual : (s.boom b).manual = some m) :
    reqManualDrive boom feed rotation chuck s = (s.manualDrive b m feed.toInt rotation.toInt c).done := by
  unfold reqManualDrive
  simp only [named, feedIn, rotationIn, spelled, activeManual_of_level level manual, Bool.true_eq_false, or_self, if_false]

end decision

/-- A MANUAL context that waits for its flow, or has no drive-enable, is not driven (R156). -/
theorem manualDrive_discards {s : State} {b : Slot} {m : ManualCtx} {feed rotation : Int} {c : ChuckArg}
    (h : m.sub = .waitFlow ∨ s.driveOn = false) : s.manualDrive b m feed rotation c = s := by
  unfold State.manualDrive
  split
  · next ready =>
    rcases h with waits | off
    · rw [ready] at waits; cases waits
    · simp [off]
  · rfl

theorem manualDrive_drives {s : State} {b : Slot} {m : ManualCtx} {feed rotation : Int} {c : ChuckArg}
    (sub : m.sub = .ready) (on : s.driveOn = true) :
    s.manualDrive b m feed rotation c = s.setBoom b ((s.boom b).driveManual m feed rotation c) := by
  unfold State.manualDrive; rw [sub]; dsimp only; rw [if_pos on]

/-- A phase holds the bolt from BOLT_LOAD to TORQUING (R164). -/
theorem holdsBolt_iff (p : Phase) : p.holdsBolt = true ↔ 5 ≤ p.num ∧ p.num ≤ 9 := by cases p <;> decide

/-- Settles O44: the checks refuse in their order, and the sub-state and drive-enable say whether the values are driven. -/
theorem manualDriveDrivesOrDiscards : Obligations.ManualDriveDrivesOrDiscards := by
  refine ⟨fun s tag boom c feed rotation ready settled named =>
    request_refused (r := .manualDrive boom feed rotation c) ready settled
      (by simp only [handleRequest, reqManualDrive, heard_slotOf, named]), ?_⟩
  intro s tag boom feed rotation b ready settled named
  have named' : s.heard.slotOf boom = some b := by rw [heard_slotOf, named]
  refine ⟨fun c outside => request_refused (r := .manualDrive boom feed rotation c) ready settled
      (reqManualDrive_range named' outside), fun feedLow feedHigh rotationLow rotationHigh => ?_⟩
  have feedIn := (perMille_iff feed.toInt).2 ⟨feedLow, feedHigh⟩
  have rotationIn := (perMille_iff rotation.toInt).2 ⟨rotationLow, rotationHigh⟩
  refine ⟨fun c code level => ?_, fun m level manual => ⟨fun c code off => ?_, fun sub on => ?_⟩⟩
  · obtain ⟨arg, spelled⟩ := chuckArg_isSome code
    exact request_refused (r := .manualDrive boom feed rotation c) ready settled
      (reqManualDrive_elsewhere named' feedIn rotationIn spelled (by rw [heard_boom]; exact level))
  · obtain ⟨arg, spelled⟩ := chuckArg_isSome code
    have decision := reqManualDrive_manual named' feedIn rotationIn spelled (by rw [heard_boom]; exact level)
      (by rw [heard_boom]; exact manual)
    rw [manualDrive_discards (by rw [heard_driveOn]; exact off)] at decision
    exact request_plain (r := .manualDrive boom feed rotation c) ready decision (heard_settled settled)
  · have driven : ∀ (c : Byte) (arg : ChuckArg), ChuckArg.ofCode c.toNat = some arg →
        exec (.manualDrive tag boom feed rotation c) s =
          .next ((s.heard.setBoom b ((s.boom b).driveManual m feed.toInt rotation.toInt arg)).noted.answered 0x94 tag
            (le1 0)) := by
      intro c arg spelled
      have decision := reqManualDrive_manual named' feedIn rotationIn spelled (by rw [heard_boom]; exact level)
        (by rw [heard_boom]; exact manual)
      rw [manualDrive_drives sub (by rw [heard_driveOn]; exact on), heard_boom] at decision
      have fits : (s.heard.setBoom b ((s.boom b).driveManual m feed.toInt rotation.toInt arg)).fits b = true :=
        fits_of_slotOf named'
      refine request_plain (r := .manualDrive boom feed rotation c) ready decision (settled_of_level (b := b) fits ?_)
      have retract : ((s.boom b).driveManual m feed.toInt rotation.toInt arg).retract = none := by
        rw [← (level_one level).1]; cases arg <;> rfl
      rw [State.setBoom_boom]
      unfold Boom.level
      rw [retract]
      exact Nat.one_ne_zero
    refine ⟨driven 0 .keep rfl, driven 2 .closed rfl, fun sub h auto => ?_⟩
    rw [driven 1 .opened rfl]
    have released : (s.boom b).auto.releaseChuck =
        .cycle sub (if 5 ≤ h.phase.num ∧ h.phase.num ≤ 9 then { h with chuckReleased := true } else h) := by
      rw [auto]
      unfold Auto.releaseChuck
      dsimp only
      by_cases holds : h.phase.holdsBolt = true
      · rw [if_pos ((holdsBolt_iff _).1 holds), if_pos holds]
      · rw [if_neg fun k => holds ((holdsBolt_iff _).2 k), if_neg holds]
    unfold Boom.driveManual Boom.driveChuck Boom.openChuck
    dsimp only
    rw [released]

end Sys2Proof.Machine
end

section
/-! SUPPORT. What the state looks like once a request has been taken: its reply, and the parts its act left alone (R190). -/

namespace Sys2Proof.Machine

/-! ## The reply in its slot or on its way -/

/-- A reply formed changes the link's reply slot and transmitter alone (R190, R193). -/
theorem answered_link (u : State) (kind tag : Byte) (payload : List Byte) :
    ∃ reply sending, u.answered kind tag payload = u.withLink { u.link with reply := reply, sending := sending } ∧
      (u.answered kind tag payload).replies kind tag payload := by
  unfold State.answered
  cases idle : u.link.sending with
  | some f =>
    rw [startNext_busy (s := u.setReply ⟨kind, tag, payload⟩) (f := f) idle]
    exact ⟨some ⟨kind, tag, payload⟩, some f, by rw [← idle]; rfl, Or.inl rfl⟩
  | none =>
    rw [startNext_sends (s := u.setReply ⟨kind, tag, payload⟩) (f := ⟨kind, tag, payload⟩) idle rfl]
    exact ⟨none, some ⟨kind, tag, payload⟩, rfl, Or.inr rfl⟩

theorem answered_replies (u : State) (kind tag : Byte) (payload : List Byte) :
    (u.answered kind tag payload).replies kind tag payload := by
  obtain ⟨_, _, _, h⟩ := answered_link u kind tag payload; exact h

section answered

variable (u : State) (kind tag : Byte) (payload : List Byte)

@[simp] theorem answered_boom (b : Slot) : (u.answered kind tag payload).boom b = u.boom b := by
  obtain ⟨_, _, h, _⟩ := answered_link u kind tag payload; rw [h]; rfl
@[simp] theorem answered_grant (b : Slot) : (u.answered kind tag payload).grant b = u.grant b := by
  obtain ⟨_, _, h, _⟩ := answered_link u kind tag payload; rw [h]; rfl
@[simp] theorem answered_fits (b : Slot) : (u.answered kind tag payload).fits b = u.fits b := by
  obtain ⟨_, _, h, _⟩ := answered_link u kind tag payload; rw [h]; rfl
@[simp] theorem answered_pending : (u.answered kind tag payload).pending = u.pending := by
  obtain ⟨_, _, h, _⟩ := answered_link u kind tag payload; rw [h]; rfl
@[simp] theorem answered_clock : (u.answered kind tag payload).clock = u.clock := by
  obtain ⟨_, _, h, _⟩ := answered_link u kind tag payload; rw [h]; rfl
@[simp] theorem answered_mode : (u.answered kind tag payload).mode = u.mode := by
  obtain ⟨_, _, h, _⟩ := answered_link u kind tag payload; rw [h]; rfl
@[simp] theorem answered_requested : (u.answered kind tag payload).requested = u.requested := by
  obtain ⟨_, _, h, _⟩ := answered_link u kind tag payload; rw [h]; rfl
@[simp] theorem answered_restartCause : (u.answered kind tag payload).restartCause = u.restartCause := by
  obtain ⟨_, _, h, _⟩ := answered_link u kind tag payload; rw [h]; rfl
@[simp] theorem answered_params : (u.answered kind tag payload).params = u.params := by
  obtain ⟨_, _, h, _⟩ := answered_link u kind tag payload; rw [h]; rfl
@[simp] theorem answered_recipes : (u.answered kind tag payload).recipes = u.recipes := by
  obtain ⟨_, _, h, _⟩ := answered_link u kind tag payload; rw [h]; rfl
@[simp] theorem answered_queues : (u.answered kind tag payload).queues = u.queues := by
  obtain ⟨_, _, h, _⟩ := answered_link u kind tag payload; rw [h]; rfl
@[simp] theorem answered_arbiter : (u.answered kind tag payload).arbiter = u.arbiter := by
  obtain ⟨_, _, h, _⟩ := answered_link u kind tag payload; rw [h]; rfl
@[simp] theorem answered_log : (u.answered kind tag payload).log = u.log := by
  obtain ⟨_, _, h, _⟩ := answered_link u kind tag payload; rw [h]; rfl
@[simp] theorem answered_nextSeq : (u.answered kind tag payload).nextSeq = u.nextSeq := by
  obtain ⟨_, _, h, _⟩ := answered_link u kind tag payload; rw [h]; rfl
@[simp] theorem answered_writers : (u.answered kind tag payload).writers = u.writers := by
  obtain ⟨_, _, h, _⟩ := answered_link u kind tag payload; rw [h]; rfl
@[simp] theorem answered_drive : (u.answered kind tag payload).drive = u.drive := by
  obtain ⟨_, _, h, _⟩ := answered_link u kind tag payload; rw [h]; rfl
@[simp] theorem answered_driveLine : (u.answered kind tag payload).driveLine = u.driveLine := by
  obtain ⟨_, _, h, _⟩ := answered_link u kind tag payload; rw [h]; rfl
@[simp] theorem answered_retractLine : (u.answered kind tag payload).retractLine = u.retractLine := by
  obtain ⟨_, _, h, _⟩ := answered_link u kind tag payload; rw [h]; rfl
@[simp] theorem answered_recordReady : (u.answered kind tag payload).link.recordReady = u.link.recordReady := by
  obtain ⟨_, _, h, _⟩ := answered_link u kind tag payload; rw [h]; rfl
@[simp] theorem answered_boomStatus : (u.answered kind tag payload).link.boomStatus = u.link.boomStatus := by
  obtain ⟨_, _, h, _⟩ := answered_link u kind tag payload; rw [h]; rfl
@[simp] theorem answered_exceptionReport : (u.answered kind tag payload).link.exceptionReport = u.link.exceptionReport := by
  obtain ⟨_, _, h, _⟩ := answered_link u kind tag payload; rw [h]; rfl

end answered

/-! ## The parts left alone -/

/-- What a CHUCK output shows depends on the mode, the fitting, the drive line and the boom's own command (R56, R164). -/
theorem noted_boom_of_same {s u : State} {c : Slot} (store : State.SameStore s u) (boom : u.boom c = s.boom c) :
    u.noted.boom c = s.noted.boom c := by
  have shown : u.shownChuck c = s.shownChuck c := by
    unfold State.shownChuck State.outputs State.fits State.lineDrive
    rw [store.mode, store.params, store.driveLine, boom]
  rw [noted_boom, noted_boom, shown, boom]

theorem State.SameStore.refl (s : State) : State.SameStore s s := ⟨rfl, rfl, rfl, rfl, rfl, rfl, rfl, rfl, rfl, rfl⟩

theorem State.SameStore.trans {s t u : State} (h : State.SameStore s t) (k : State.SameStore t u) : State.SameStore s u where
  pending := k.pending.trans h.pending
  clock := k.clock.trans h.clock
  mode := k.mode.trans h.mode
  requested := k.requested.trans h.requested
  restartCause := k.restartCause.trans h.restartCause
  params := k.params.trans h.params
  recipes := k.recipes.trans h.recipes
  drive := k.drive.trans h.drive
  driveLine := k.driveLine.trans h.driveLine
  retractLine := k.retractLine.trans h.retractLine

theorem State.SameLists.trans {s t u : State} (h : State.SameLists s t) (k : State.SameLists t u) : State.SameLists s u where
  queues := k.queues.trans h.queues
  log := k.log.trans h.log
  nextSeq := k.nextSeq.trans h.nextSeq
  writers := k.writers.trans h.writers

theorem Boom.SameReadings.refl (x : Boom) : Boom.SameReadings x x := ⟨rfl, rfl, rfl, rfl, rfl⟩

theorem withLink_sameStore (s : State) (l : Link) : State.SameStore s (s.withLink l) := by
  constructor <;> rfl

theorem heard_sameStore (s : State) : State.SameStore s s.heard := by
  obtain ⟨l, h⟩ := heard_link s; rw [h]; exact withLink_sameStore s l

theorem heard_sameLists (s : State) : State.SameLists s s.heard := by
  obtain ⟨l, h⟩ := heard_link s; rw [h]; exact ⟨rfl, rfl, rfl, rfl⟩

@[simp] theorem heard_arbiter (s : State) : s.heard.arbiter = s.arbiter := by
  obtain ⟨l, h⟩ := heard_link s; rw [h]

@[simp] theorem heard_grant (s : State) (b : Slot) : s.heard.grant b = s.grant b := by
  unfold State.grant; rw [heard_arbiter]

@[simp] theorem heard_fits (s : State) (b : Slot) : s.heard.fits b = s.fits b := by
  obtain ⟨l, h⟩ := heard_link s; rw [h]; rfl

@[simp] theorem heard_params (s : State) : s.heard.params = s.params := (heard_sameStore s).params
@[simp] theorem heard_drive (s : State) : s.heard.drive = s.drive := (heard_sameStore s).drive
@[simp] theorem heard_log (s : State) : s.heard.log = s.log := (heard_sameLists s).log
@[simp] theorem heard_nextSeq (s : State) : s.heard.nextSeq = s.nextSeq := (heard_sameLists s).nextSeq
@[simp] theorem heard_writers (s : State) : s.heard.writers = s.writers := (heard_sameLists s).writers
@[simp] theorem heard_free (s : State) : s.heard.free = s.free := by unfold State.free; rw [heard_arbiter, heard_params]
@[simp] theorem heard_depth (s : State) (b : Slot) : s.heard.depth b = s.depth b := by
  unfold State.depth; rw [heard_boom]

/-- The settling and the reply leave the store as the act left it. -/
theorem answered_sameStore {s u : State} (kind tag : Byte) (payload : List Byte) (h : State.SameStore s u) :
    State.SameStore s (u.noted.answered kind tag payload) :=
  h.trans (by constructor <;> simp)

/-- The settling and the reply leave the lists as the act left them. -/
theorem answered_sameLists {s u : State} (kind tag : Byte) (payload : List Byte) (h : State.SameLists s u) :
    State.SameLists s (u.noted.answered kind tag payload) :=
  h.trans (by constructor <;> simp)

/-- The other booms and the reserve after a request that left them alone: the memory of the CHUCK outputs apart, as before. -/
theorem answered_sameOthers {s u : State} {b : Slot} (kind tag : Byte) (payload : List Byte) (store : State.SameStore s u)
    (booms : ∀ c, c ≠ b → u.boom c = s.boom c) (grants : ∀ c, c ≠ b → u.grant c = s.grant c)
    (reserve : u.arbiter.reserve = s.arbiter.reserve) : State.SameOthers s (u.noted.answered kind tag payload) b where
  booms c ne := by rw [answered_boom]; exact noted_boom_of_same store (booms c ne)
  grants c ne := by rw [answered_grant, noted_grant]; exact grants c ne
  reserve := by rw [answered_arbiter, noted_arbiter]; exact reserve

theorem answered_sameReadings {x : Boom} {u : State} {b : Slot} (kind tag : Byte) (payload : List Byte)
    (h : Boom.SameReadings x (u.boom b)) : Boom.SameReadings x ((u.noted.answered kind tag payload).boom b) := by
  obtain ⟨raw, lastGood, inForce, posLoss, enabled⟩ := h
  constructor <;> simpa [noted_boom]

/-- An act seen from the state before the request's arrival. -/
theorem State.OnlyBoom.of_heard {s u : State} {b : Slot} (h : s.heard.OnlyBoom u b) : s.OnlyBoom u b where
  store := (heard_sameStore s).trans h.store
  lists := (heard_sameLists s).trans h.lists
  booms c ne := (h.booms c ne).trans (heard_boom s c)
  grants c ne := (h.grants c ne).trans (heard_grant s c)
  reserve := h.reserve.trans (by rw [heard_arbiter])
  readings := by have := h.readings; rwa [heard_boom] at this

/-- What a request leaves alone whose act changed one boom's own work and its flow. -/
theorem State.OnlyBoom.answered {s u : State} {b : Slot} (h : s.OnlyBoom u b) (kind tag : Byte) (payload : List Byte) :
    Boom.SameReadings (s.boom b) ((u.noted.answered kind tag payload).boom b) ∧
      State.SameStore s (u.noted.answered kind tag payload) ∧ State.SameLists s (u.noted.answered kind tag payload) ∧
      State.SameOthers s (u.noted.answered kind tag payload) b :=
  ⟨answered_sameReadings kind tag payload h.readings, answered_sameStore kind tag payload h.store,
    answered_sameLists kind tag payload h.lists, answered_sameOthers kind tag payload h.store h.booms h.grants h.reserve⟩

end Sys2Proof.Machine
end

section
/-! SUPPORT. DROP_RECORD: the oldest record goes, and the first waiting writer's record is admitted (R174). -/

namespace Sys2Proof.Machine

/-- The boom whose context is emptied is IDLE, and the rest of the part as it was but for its report (R172). -/
theorem emptyContext_eq (s : State) (b : Slot) :
    ∃ q, s.emptyContext b =
      { s with booms := s.booms.set b { s.boom b with auto := .idle }, link := { s.link with boomStatus := q } } :=
  changeBoom_link s b _

/-- The first waiting writer, in LOG_WAIT, is admitted (R174, step 2). -/
theorem admitWriter_eq {s : State} {b : Slot} {ws : List Slot} {w : BoltRecord} (writers : s.writers = b :: ws)
    (auto : (s.boom b).auto = .logWait w) :
    ∃ q, s.admitWriter =
      { s with
        booms := s.booms.set b { s.boom b with auto := .idle }
        log := s.log ++ [{ w with seq := s.nextSeq }]
        nextSeq := seqAfter s.nextSeq
        writers := ws
        link := { s.link with recordReady := true, boomStatus := q } } := by
  have held : (({ s with writers := ws } : State).boom b).auto.heldRecord = some w := by
    show (s.boom b).auto.heldRecord = some w
    rw [auto]; rfl
  obtain ⟨q, h⟩ := emptyContext_eq (({ s with writers := ws } : State).writeRecord w) b
  refine ⟨q, ?_⟩
  unfold State.admitWriter
  rw [writers]
  dsimp only
  rw [held]
  dsimp only
  rw [h]
  rfl

theorem admitWriter_none {s : State} (writers : s.writers = []) : s.admitWriter = s := by
  unfold State.admitWriter; rw [writers]

/-- The part with another record log. -/
def State.withLog (s : State) (log : List BoltRecord) : State := { s with log := log }

/-- DROP_RECORD on a log that is not empty (R174). -/
theorem reqDropRecord_cons {s : State} {r : BoltRecord} {rest : List BoltRecord} (log : s.log = r :: rest) :
    reqDropRecord s =
      ((s.withLog rest).admitWriter,
        { status := .ok
          figures := le2 r.seq ++ le1 (s.withLog rest).admitWriter.log.length ++
            le1 (s.withLog rest).admitWriter.writers.length }) := by
  unfold reqDropRecord; rw [log]; rfl

/-- Settles O52: an empty log is refused; else the oldest record goes, and a waiting writer's context is emptied for the room. -/
theorem dropAdmitsOneWriter : Obligations.DropAdmitsOneWriter := by
  intro s tag ready
  refine ⟨fun settled empty => request_refused (r := .dropRecord) ready settled
      (by simp only [handleRequest, reqDropRecord, heard_log, empty]),
    fun r rest log => ⟨fun settled writers => ?_, fun b ws w requested writers auto => ?_⟩⟩
  · have decision := reqDropRecord_cons (s := s.heard) (by rw [heard_log, log])
    rw [admitWriter_none (s := s.heard.withLog rest) ((heard_writers s).trans writers),
      show (s.heard.withLog rest).writers = [] from (heard_writers s).trans writers] at decision
    exact request_answered (r := .dropRecord) ready decision (heard_settled settled)
  · obtain ⟨l, same⟩ : ∃ l, s.heard = s.withLink l := heard_link s
    obtain ⟨q, admitted⟩ := admitWriter_eq (s := (s.withLink l).withLog rest) (b := b) writers auto
    have decision := reqDropRecord_cons (s := s.withLink l) log
    rw [← same] at decision
    have logged : ((s.withLink l).withLog rest).admitWriter.log = rest ++ [{ w with seq := s.nextSeq }] := by
      rw [admitted]; rfl
    have writing : ((s.withLink l).withLog rest).admitWriter.writers = ws := by rw [admitted]
    have store : State.SameStore s ((s.withLink l).withLog rest).admitWriter := by rw [admitted]; constructor <;> rfl
    have boom : ∀ c, ((s.withLink l).withLog rest).admitWriter.boom c =
        (s.booms.set b { s.boom b with auto := .idle }).get c := by rw [admitted]; exact fun _ => rfl
    rw [same, logged, writing, List.length_append, List.length_singleton, ← same] at decision
    refine ⟨_, request_answered (r := .dropRecord) (kind := 0x9C) ready (decision.trans (by rw [same]))
      (Or.inl (store.requested.trans requested)), ?_, ?_, ?_, ?_, ?_, ?_, answered_replies _ _ _ _,
      answered_sameStore _ _ _ store, ?_, ?_, answered_sameOthers _ _ _ store (fun c ne => ?_) (fun c _ => ?_) ?_⟩
    · rw [answered_log, noted_log, logged]
    · rw [answered_nextSeq, noted_nextSeq, admitted]; rfl
    · rw [answered_writers, noted_writers, writing]
    · rw [answered_boom, noted_boom, Boom.remember_auto, boom, four_get_set_self]
    · rw [answered_boom, noted_boom, Boom.remember_level, boom, four_get_set_self]; rfl
    · rw [answered_recordReady, noted_link, admitted]
    · rw [answered_queues, noted_queues, admitted]; rfl
    · rw [answered_arbiter, noted_arbiter, admitted]; rfl
    · rw [boom, four_get_set_of_ne _ _ ne]; rfl
    · rw [admitted]; rfl
    · rw [admitted]; rfl

end Sys2Proof.Machine
end

section
/-! SUPPORT. What the acts that move a boom or hand out flow leave alone: the store and the lists. They do so whoever waits, so an
evaluation does too (R118 to R121). -/

namespace Sys2Proof.Machine

/-- The store and the lists are as they were. -/
structure State.SameBooks (s t : State) : Prop where
  store : State.SameStore s t
  lists : State.SameLists s t

namespace State.SameBooks

theorem refl (s : State) : s.SameBooks s := ⟨State.SameStore.refl s, ⟨rfl, rfl, rfl, rfl⟩⟩

theorem trans {s t u : State} (h : s.SameBooks t) (k : t.SameBooks u) : s.SameBooks u :=
  ⟨h.store.trans k.store, h.lists.trans k.lists⟩

/-- An act after another one. -/
theorem after {s t u : State} (k : t.SameBooks u) (h : s.SameBooks t) : s.SameBooks u := h.trans k

/-! ## Plain updates -/

theorem booms (s : State) (x : Four Boom) : s.SameBooks { s with booms := x } := by constructor <;> constructor <;> rfl
theorem link (s : State) (l : Link) : s.SameBooks { s with link := l } := by constructor <;> constructor <;> rfl
theorem arbiter (s : State) (a : Arbiter) : s.SameBooks { s with arbiter := a } := by constructor <;> constructor <;> rfl

theorem setBoom (s : State) (b : Slot) (x : Boom) : s.SameBooks (s.setBoom b x) := booms s _

theorem queueStatus (s : State) (b : Slot) : s.SameBooks (s.queueStatus b) := by
  unfold State.queueStatus; split
  · exact link s _
  · exact refl s

theorem queueException (s : State) (b : Slot) (f : ExFrame) : s.SameBooks (s.queueException b f) := by
  unfold State.queueException; split
  · exact link s _
  · exact refl s

theorem changeBoom (s : State) (b : Slot) (x : Boom) : s.SameBooks (s.changeBoom b x) := by
  unfold State.changeBoom; split
  · exact setBoom s b x
  · exact (queueStatus _ _).after (setBoom s b x)

theorem reduceBoom (s : State) (b : Slot) (n : Nat) : s.SameBooks (s.reduceBoom b n) := arbiter s _
theorem topUpBoom (s : State) (b : Slot) (k : FlowClass) (n : Nat) : s.SameBooks (s.topUpBoom b k n) := arbiter s _
theorem raise (s : State) (b : Slot) (cs : List Cond) : s.SameBooks (s.raise b cs) := setBoom s b _

theorem noteChuck (s : State) (b : Slot) : s.SameBooks (s.noteChuck b) := by
  unfold State.noteChuck; split
  · exact refl s
  · exact setBoom s b _

theorem noted (s : State) : s.SameBooks s.noted := by rw [noted_eq]; exact booms s _

/-! ## Motion -/

theorem stopBoom (s : State) (b : Slot) (h : Hole) (k : FrameKind) (c : Cond) (n : Nat) (p q : Phase) :
    s.SameBooks (s.stopBoom b h k c n p q) :=
  (queueStatus _ _).after ((queueException _ _ _).after ((reduceBoom _ _ _).after (changeBoom s b _)))

theorem stopInPhase (s : State) (b : Slot) (h : Hole) (c : Cond) (n : Nat) : s.SameBooks (s.stopInPhase b h c n) :=
  stopBoom s b h _ c n _ _

theorem moveOff (s : State) (b : Slot) (h : Hole) (now : Bool) : s.SameBooks (s.moveOff b h now) := by
  unfold State.moveOff; dsimp only; split <;> exact changeBoom s b _

theorem startCycle (s : State) (b : Slot) (h : Hole) (now : Bool) : s.SameBooks (s.startCycle b h now) := by
  unfold State.startCycle; split
  · exact (stopInPhase _ _ _ _ _).after (raise s b _)
  · exact moveOff s b h now

theorem moveAbandon (s : State) (b : Slot) (h : Hole) : s.SameBooks (s.moveAbandon b h) := by
  unfold State.moveAbandon; dsimp only; split <;> exact changeBoom s b _

theorem moveRetract (s : State) (b : Slot) (r : RetractCtx) : s.SameBooks (s.moveRetract b r) := by
  unfold State.moveRetract; dsimp only; split <;> exact changeBoom s b _

/-! ## The arbiter -/

theorem tell (s : State) (q : Bool) (r : Requester) : s.SameBooks (s.tell q r) := by
  unfold State.tell; split
  · split
    · exact refl s
    · exact link s _
  · split
    · split
      · exact moveRetract s _ _
      · exact refl s
    · exact changeBoom s _ _
    · exact startCycle s _ _ _
    · exact startCycle s _ _ _
    · exact moveAbandon s _ _
    · exact refl s

theorem awardEntry (s : State) (q : Bool) (e : WaitEntry) : s.SameBooks (s.awardEntry q e) :=
  (tell _ _ _).after (arbiter s _)

theorem backOff (s : State) (b : Slot) : s.SameBooks (s.backOff b) := by
  unfold State.backOff; dsimp only; split
  · exact (changeBoom _ _ _).after (arbiter s _)
  · exact refl s

theorem backOffUntil (need : Nat) (rs : List Requester) (s : State) : s.SameBooks (State.backOffUntil need rs s) := by
  induction rs generalizing s with
  | nil => exact refl s
  | cons r rs ih =>
    unfold State.backOffUntil; split
    · exact refl s
    · split
      · split
        · exact (ih _).after (backOff s _)
        · exact ih s
      · exact ih s

theorem evaluateWith (q : Bool) (n : Nat) (s : State) : s.SameBooks (State.evaluateWith q n s) := by
  induction n generalizing s with
  | zero => exact refl s
  | succ n ih =>
    unfold State.evaluateWith; split
    · exact refl s
    · dsimp only; split
      · exact (ih _).after (awardEntry s _ _)
      · split
        · exact (ih _).after (backOffUntil _ _ s)
        · exact refl s

theorem evaluate (s : State) : s.SameBooks s.evaluate := evaluateWith _ _ s

theorem withdrawBoom (s : State) (b : Slot) : s.SameBooks (s.withdrawBoom b) := by
  unfold State.withdrawBoom; split
  · exact refl s
  · exact (evaluate _).after (arbiter s _)

/-! ## The sequencer and the interventions -/

theorem waitForFlow (s : State) (b : Slot) (h : Hole) : s.SameBooks (s.waitForFlow b h) := changeBoom s b _

theorem askFlow (s : State) (b : Slot) (h : Hole) : s.SameBooks (s.askFlow b h) := by
  unfold State.askFlow; split
  · exact (evaluate _).after ((startCycle _ _ _ _).after (reduceBoom s b _))
  · exact (evaluate _).after ((topUpBoom _ _ _ _).after (waitForFlow s b h))

theorem enterPhase (s : State) (b : Slot) (h : Hole) (p : Phase) : s.SameBooks (s.enterPhase b h p) :=
  (askFlow _ _ _).after (setBoom s b _)

theorem resume (s : State) (b : Slot) (h : Hole) : s.SameBooks (s.resume b h) := askFlow s b _

theorem pushBoom (s : State) (b : Slot) : s.SameBooks (s.pushBoom b) := (setBoom _ _ _).after (withdrawBoom s b)

theorem manualRequest (s : State) (b : Slot) (m : ManualCtx) : s.SameBooks (s.manualRequest b m) := by
  unfold State.manualRequest; split
  · exact (evaluate _).after ((changeBoom _ _ _).after (reduceBoom s b _))
  · exact (evaluate _).after ((topUpBoom _ _ _ _).after (changeBoom s b _))

theorem takeoverBoom (s : State) (b : Slot) : s.SameBooks (s.takeoverBoom b) :=
  (manualRequest _ _ _).after ((setBoom _ _ _).after (pushBoom s b))

theorem retractHome (s : State) (b : Slot) (r : RetractCtx) : s.SameBooks (s.retractHome b r) :=
  (evaluate _).after ((changeBoom _ _ _).after (reduceBoom s b 0))

theorem retractGo (s : State) (b : Slot) (r : RetractCtx) : s.SameBooks (s.retractGo b r) := by
  unfold State.retractGo; split
  · exact retractHome s b r
  · split
    · exact (evaluate _).after ((moveRetract _ _ _).after (reduceBoom s b _))
    · exact (evaluate _).after (topUpBoom s b _ _)

theorem startRetract (s : State) (b : Slot) : s.SameBooks (s.startRetract b) :=
  (retractGo _ _ _).after ((changeBoom _ _ _).after (pushBoom s b))

/-! ## Every slot in turn -/

theorem slots {f : Slot → State → State} (h : ∀ b (t : State), t.SameBooks (f b t)) (s : State) :
    s.SameBooks (forSlots f s) :=
  (h _ _).after ((h _ _).after ((h _ _).after (h _ _)))

theorem fitted {f : Slot → State → State} (h : ∀ b (t : State), t.SameBooks (f b t)) (s : State) :
    s.SameBooks (forFitted f s) := by
  refine slots (fun b t => ?_) s
  split
  · exact h b t
  · exact refl t

theorem sweep (s : State) : s.SameBooks s.sweep := by
  refine fitted (fun b t => ?_) s
  split
  · exact refl t
  · exact startRetract t b

end State.SameBooks

end Sys2Proof.Machine
end

section
/-! SUPPORT. A mode change that has become possible is made in the settling, so none is left after a step (R179). -/

namespace Sys2Proof.Machine

/-- The mode change grants the request it was made for (R179). -/
theorem changeMode_requested (s : State) (m : Mode) : (s.changeMode m).requested = none := by
  unfold State.changeMode
  dsimp only
  split
  · exact (State.SameBooks.sweep _).store.requested
  · rfl

/-- Whatever came before it, the settling leaves no mode change due (R179). -/
theorem settleMode_leaves_settled (s : State) : s.settleMode.settled := by
  unfold State.settleMode
  cases requested : s.requested with
  | none => exact Or.inl requested
  | some m =>
    dsimp only
    split
    · exact Or.inl (changeMode_requested s m)
    · next quiet => exact Or.inr (Bool.eq_false_iff.2 quiet)

theorem settle_leaves_settled (s : State) : s.settle.settled := noted_settled (settleMode_leaves_settled s)

/-! ## The link's service keeps it -/

theorem startNext_settled {s : State} (h : s.settled) : s.startNext.settled := by
  obtain ⟨l, eq, -⟩ := startNext_link s; rw [eq]; exact h

theorem takeWaiting_settled {s : State} (h : s.settled) : s.takeWaiting.settled := by
  unfold State.takeWaiting
  split
  · split
    · exact h
    · exact settle_leaves_settled _
  · exact h

theorem serve_settled {s : State} (h : s.settled) : s.serve.settled :=
  takeWaiting_settled (startNext_settled (takeWaiting_settled (startNext_settled h)))

theorem finish_settled (s : State) : s.finish.settled := serve_settled (settle_leaves_settled s)

theorem afterReset_settled (s : State) (cause : ModeCause) (ps : Params) (recipes : Vector (Option Recipe) 16) :
    ({ State.afterReset cause ps recipes with pending := s.pending } : State).settled := Or.inl rfl

theorem transmitEnd_settled {s : State} (h : s.settled) : s.transmitEnd.settled := by
  have sent : s.startNext.sent.settled := startNext_settled h
  unfold State.transmitEnd
  dsimp only
  split
  · exact afterReset_settled _ _ _ _
  · exact serve_settled sent

theorem requestArrives_settled {s : State} (h : s.settled) (tag : Byte) (r : Request) : (s.requestArrives tag r).settled :=
  serve_settled h

theorem longFrameArrives_settled {s : State} (h : s.settled) (kind tag : Byte) (payload : List Byte) (crc : Half) :
    (s.longFrameArrives kind tag payload crc).settled := by
  have fold : ∀ (l : List Byte) (t : State), t.settled → (l.foldl State.byteArrives t).settled := by
    intro l
    induction l with
    | nil => exact fun _ k => k
    | cons byte l ih => exact fun t _ => ih _ (finish_settled _)
  exact fold _ _ h

/-- Every command leaves no mode change due: its event is settled, or it changes the link alone (R179). -/
theorem exec_settled {c : Instr} {s t : State} (h : s.settled) (run : exec c s = .next t) : t.settled := by
  cases c
  case powerOn => cases run; exact afterReset_settled s _ _ _
  case sampleTick => cases run; exact serve_settled (settle_leaves_settled _)
  case warmRestart =>
    cases run
    split
    · exact afterReset_settled s _ _ _
    · exact finish_settled s
  case frameReceived =>
    cases run
    split
    · exact longFrameArrives_settled h _ _ _ _
    · exact finish_settled _
  case frameTransmitEnd => cases run; exact transmitEnd_settled h
  case driveEnableFall | driveEnableReturn | retractLineAssert | retractLineRelease | loaderDone | loaderFault | loadTimeout |
      feedStall | retractTimeout | abandonRetractOverdue | safeRetractOverdue | mixShort | holdTimerElapsed |
      torqueTimeout | gelLimitReached | positionLost | flowStarved | manualHoldExpiry | intervalForcedClose | linkSilent |
      frameGapTimeout | unknownKind | byteReceived => cases run; exact finish_settled _
  all_goals cases run; exact requestArrives_settled h _ _

/-- Settles O58: the command at the front of the queue leaves no mode change due, and an idle step changes nothing. -/
theorem stepLeavesNoChangeWaiting : Obligations.StepLeavesNoChangeWaiting := by
  intro s t h run
  unfold step at run
  split at run
  · cases run; exact h
  · next c rest _ => exact exec_settled (s := { s with pending := rest }) h run

end Sys2Proof.Machine
end

section
/-! SUPPORT. How an evaluation may change a boom, whoever waits and whatever it does: never its level, nor the chuck command and
the level-0 context of a boom under an intervention (R119, R121). -/

namespace Sys2Proof.Machine

/-! ## One boom changed -/

@[simp] theorem changeBoom_boom (s : State) (b : Slot) (x : Boom) : (s.changeBoom b x).boom b = x := by
  obtain ⟨q, h⟩ := changeBoom_link s b x
  rw [h]
  exact four_get_set_self _ _ _

theorem changeBoom_boom_of_ne (s : State) {b c : Slot} (x : Boom) (h : c ≠ b) : (s.changeBoom b x).boom c = s.boom c :=
  (changeBoom_untouched x h).boom

@[simp] theorem queueStatus_boom (s : State) (c b : Slot) : (s.queueStatus c).boom b = s.boom b :=
  (queueStatus_untouched b s c).boom

@[simp] theorem queueException_boom (s : State) (c : Slot) (f : ExFrame) (b : Slot) :
    (s.queueException c f).boom b = s.boom b :=
  (queueException_untouched b s c f).boom

/-- What an evaluation keeps of a boom. -/
structure Boom.Granted (x y : Boom) : Prop where
  level : y.level = x.level
  auto : x.level ≠ 0 ∨ x.auto = .idle → y.auto = x.auto
  chuck : x.level = 2 → y.chuck = x.chuck

theorem Boom.Granted.refl (x : Boom) : Boom.Granted x x := ⟨rfl, fun _ => rfl, fun _ => rfl⟩

theorem Boom.Granted.trans {x y z : Boom} (h : Boom.Granted x y) (k : Boom.Granted y z) : Boom.Granted x z where
  level := k.level.trans h.level
  auto p := (k.auto (by rw [h.level, h.auto p]; exact p)).trans (h.auto p)
  chuck p := (k.chuck (h.level.trans p)).trans (h.chuck p)

theorem Boom.Granted.of_eq {x y : Boom} (h : y = x) : Boom.Granted x y := by rw [h]; exact Boom.Granted.refl x

/-- A boom whose CYCLE or ABANDONING context is active may change in that context alone. -/
theorem Boom.Granted.of_moving {x y : Boom} (level : x.level = 0) (same : y.level = x.level) (busy : x.auto ≠ .idle) :
    Boom.Granted x y :=
  ⟨same, fun p => absurd (p.resolve_left fun k => k level) busy, fun p => by rw [level] at p; cases p⟩

theorem level_of_contexts {x : Boom} (retract : x.retract = none) (manual : x.manual = none) : x.level = 0 := by
  unfold Boom.level; rw [retract, manual]

theorem level_two {x : Boom} {r : RetractCtx} (retract : x.retract = some r) : x.level = 2 := by
  unfold Boom.level; rw [retract]

theorem level_of_manual {x : Boom} {m : ManualCtx} (retract : x.retract = none) (manual : x.manual = some m) :
    x.level = 1 := by
  unfold Boom.level; rw [retract, manual]

theorem level_same {x y : Boom} (retract : y.retract = x.retract) (manual : y.manual = x.manual) : y.level = x.level := by
  unfold Boom.level; rw [retract, manual]

/-! ## Through the acts of an evaluation -/

theorem stopBoom_boom (s : State) (b : Slot) (h : Hole) (k : FrameKind) (c : Cond) (n : Nat) (p q : Phase) :
    (s.stopBoom b h k c n p q).boom b =
      { (s.boom b).still.cancelLoader with
        auto := .exception (s.makeFrame b h k c n p q)
          { h with phase := q, exceptions := countUp16 h.exceptions, torqueRun := [] } } := by
  unfold State.stopBoom
  dsimp only
  rw [queueStatus_boom, queueException_boom, State.reduceBoom_boom, changeBoom_boom]

theorem moveOff_level (s : State) (b : Slot) (h : Hole) (now : Bool) : ((s.moveOff b h now).boom b).level = (s.boom b).level := by
  unfold State.moveOff
  dsimp only
  split <;> rw [changeBoom_boom] <;> exact level_same rfl rfl

theorem startCycle_level (s : State) (b : Slot) (h : Hole) (now : Bool) :
    ((s.startCycle b h now).boom b).level = (s.boom b).level := by
  unfold State.startCycle State.stopInPhase State.raise
  split
  · rw [stopBoom_boom, State.setBoom_boom]; exact level_same rfl rfl
  · exact moveOff_level s b h now

theorem moveAbandon_level (s : State) (b : Slot) (h : Hole) : ((s.moveAbandon b h).boom b).level = (s.boom b).level := by
  unfold State.moveAbandon
  dsimp only
  split <;> rw [changeBoom_boom] <;> exact level_same rfl rfl

theorem moveRetract_granted {s : State} {b : Slot} {r c : RetractCtx} (retract : (s.boom b).retract = some c) :
    Boom.Granted (s.boom b) ((s.moveRetract b r).boom b) := by
  have level := level_two retract
  unfold State.moveRetract
  dsimp only
  split <;> rw [changeBoom_boom] <;> exact ⟨level.symm ▸ rfl, fun _ => rfl, fun _ => rfl⟩

theorem tell_granted (s : State) (q : Bool) (r : Requester) (b : Slot) : Boom.Granted (s.boom b) ((s.tell q r).boom b) := by
  by_cases own : r = .boom b
  · subst own
    unfold State.tell
    dsimp only
    split
    · next c _ retract =>
      split
      · exact moveRetract_granted retract
      · exact Boom.Granted.refl _
    · next m retract manual =>
      rw [changeBoom_boom]
      have level := level_of_manual retract manual
      exact ⟨by rw [level]; exact level_of_manual retract rfl, fun _ => rfl, fun _ => rfl⟩
    · next h retract manual auto =>
      exact Boom.Granted.of_moving (level_of_contexts retract manual) (startCycle_level s b h false) (by rw [auto]; nofun)
    · next h retract manual auto =>
      exact Boom.Granted.of_moving (level_of_contexts retract manual) (startCycle_level s b h false) (by rw [auto]; nofun)
    · next h retract manual auto =>
      exact Boom.Granted.of_moving (level_of_contexts retract manual) (moveAbandon_level s b h) (by rw [auto]; nofun)
    · exact Boom.Granted.refl _
  · exact Boom.Granted.of_eq (tell_untouched q own).boom

theorem backable_running {s : State} {b : Slot} (h : s.backable b = true) :
    ∃ g, (s.boom b).running = some (.active, g) ∧ g.phase.flowClass = .normal := by
  unfold State.backable at h
  split at h
  · next g running => exact ⟨g, running, of_decide_eq_true h⟩
  · cases h

theorem backOff_granted {s : State} {c : Slot} (backable : s.backable c = true) (b : Slot) :
    Boom.Granted (s.boom b) ((s.backOff c).boom b) := by
  by_cases own : b = c
  · subst own
    obtain ⟨g, running, -⟩ := backable_running backable
    obtain ⟨level, auto⟩ := running_context running
    unfold State.backOff
    dsimp only
    rw [auto]
    dsimp only
    rw [changeBoom_boom]
    exact Boom.Granted.of_moving level (level_same rfl rfl) (by rw [auto]; nofun)
  · exact Boom.Granted.of_eq (backOff_untouched own).boom

theorem backOffUntil_granted (need : Nat) (rs : List Requester) (s : State) (b : Slot) :
    Boom.Granted (s.boom b) ((State.backOffUntil need rs s).boom b) := by
  induction rs generalizing s with
  | nil => exact Boom.Granted.refl _
  | cons r rs ih =>
    unfold State.backOffUntil
    split
    · exact Boom.Granted.refl _
    · split
      · split
        · next backable => exact (backOff_granted backable b).trans (ih _)
        · exact ih s
      · exact ih s

theorem evaluateWith_granted (q : Bool) (n : Nat) (s : State) (b : Slot) :
    Boom.Granted (s.boom b) ((State.evaluateWith q n s).boom b) := by
  induction n generalizing s with
  | zero => exact Boom.Granted.refl _
  | succ n ih =>
    unfold State.evaluateWith
    split
    · exact Boom.Granted.refl _
    · dsimp only
      split
      · next e es _ _ => exact (tell_granted { s with arbiter := s.arbiter.award e } q e.requester b).trans (ih _)
      · split
        · exact (backOffUntil_granted _ _ s b).trans (ih _)
        · exact Boom.Granted.refl _

theorem evaluate_granted (s : State) (b : Slot) : Boom.Granted (s.boom b) (s.evaluate.boom b) := evaluateWith_granted _ _ s b

theorem withdrawBoom_granted (s : State) (c b : Slot) : Boom.Granted (s.boom b) ((s.withdrawBoom c).boom b) := by
  unfold State.withdrawBoom
  split
  · exact Boom.Granted.refl _
  · exact evaluate_granted { s with arbiter := s.arbiter.withdraw (.boom c) } b

end Sys2Proof.Machine
end

section
/-! SUPPORT. Acts made for every fitted slot in turn, seen from one of them. -/

namespace Sys2Proof.Machine

/-- What an act made for every fitted slot in turn brings a slot to: the acts on the slots before it keep `R`, its own leads from
`R` to `Q`, and the acts on the slots after it keep `Q`. -/
theorem forFitted_reaches {f : Slot → State → State} {R Q : State → Prop} {b : Slot}
    (fits : ∀ c t, (f c t).fits b = t.fits b) (before : ∀ c t, c ≠ b → R t → R (f c t)) (own : ∀ t, R t → Q (f b t))
    (after : ∀ c t, c ≠ b → Q t → Q (f c t)) {s : State} (fit : s.fits b = true) (start : R s) : Q (forFitted f s) := by
  have fits' : ∀ c (t : State), t.fits b = true → (if t.fits c then f c t else t).fits b = true := by
    intro c t h; split
    · rw [fits, h]
    · exact h
  have before' : ∀ c (t : State), c ≠ b → R t → R (if t.fits c then f c t else t) := by
    intro c t ne h; split
    · exact before c t ne h
    · exact h
  have own' : ∀ t : State, t.fits b = true → R t → Q (if t.fits b then f b t else t) := by
    intro t h k; rw [if_pos h]; exact own t k
  have after' : ∀ c (t : State), c ≠ b → Q t → Q (if t.fits c then f c t else t) := by
    intro c t ne h; split
    · exact after c t ne h
    · exact h
  unfold forFitted forSlots
  beta_reduce
  cases b
  · exact after' _ _ nofun (after' _ _ nofun (after' _ _ nofun (own' _ fit start)))
  · exact after' _ _ nofun (after' _ _ nofun (own' _ (fits' _ _ fit) (before' _ _ nofun start)))
  · exact after' _ _ nofun (own' _ (fits' _ _ (fits' _ _ fit)) (before' _ _ nofun (before' _ _ nofun start)))
  · exact own' _ (fits' _ _ (fits' _ _ (fits' _ _ fit))) (before' _ _ nofun (before' _ _ nofun (before' _ _ nofun start)))

end Sys2Proof.Machine
end

section
/-! SUPPORT. A safety retract as it starts, and the retract line's sweep of every fitted boom (R160, R161). -/

namespace Sys2Proof.Machine

theorem BoomKept.readings {x y : Boom} (h : BoomKept x y) : Boom.SameReadings x y :=
  ⟨h.raw, h.lastGood, h.inForce, h.posLoss, h.enabled⟩

/-- A boom set aside keeps its contexts' levels (R153). -/
theorem pushed_retract (x : Boom) : x.pushed.retract = x.retract := by
  unfold Boom.pushed; split <;> rfl

theorem pushBoom_granted {s : State} {b c : Slot} (h : b ≠ c) : Boom.Granted (s.boom b) ((s.pushBoom c).boom b) := by
  unfold State.pushBoom
  dsimp only
  rw [State.setBoom_boom_of_ne _ _ h]
  exact withdrawBoom_granted s c b

/-- Where a boom stands that a safety retract has been pushed on: level 2, the chuck commanded OPEN. -/
def Boom.pulled (x : Boom) : Prop := x.level = 2 ∧ x.chuck = .opened

theorem Boom.Granted.pulled {x y : Boom} (h : Boom.Granted x y) (p : x.pulled) : y.pulled :=
  ⟨h.level.trans p.1, (h.chuck p.1).trans p.2⟩

/-- A new safety retract's first request leaves its boom at level 2 with the chuck commanded OPEN, and a level-0 context as it
was (R161). -/
theorem retractGo_own {s : State} {b : Slot} {r : RetractCtx} (pulled : (s.boom b).pulled) :
    ((s.retractGo b r).boom b).pulled ∧ ((s.retractGo b r).boom b).auto = (s.boom b).auto := by
  have two : (s.boom b).level ≠ 0 := by rw [pulled.1]; decide
  have told : ∀ t : State, (t.boom b).pulled → (t.boom b).auto = (s.boom b).auto →
      (t.evaluate.boom b).pulled ∧ (t.evaluate.boom b).auto = (s.boom b).auto := fun t p a =>
    ⟨(evaluate_granted t b).pulled p, ((evaluate_granted t b).auto (Or.inl (by rw [p.1]; decide))).trans a⟩
  unfold State.retractGo
  split
  · unfold State.retractHome
    dsimp only
    refine told _ ?_ ?_
    · rw [changeBoom_boom]; exact ⟨level_two rfl, pulled.2⟩
    · rw [changeBoom_boom]; rfl
  · split
    · unfold State.moveRetract
      dsimp only
      split
      · refine told _ ?_ ?_
        · rw [changeBoom_boom]; exact ⟨level_two rfl, pulled.2⟩
        · rw [changeBoom_boom]; rfl
      · refine told _ ?_ ?_
        · rw [changeBoom_boom]; exact ⟨level_two rfl, pulled.2⟩
        · rw [changeBoom_boom]; rfl
    · exact told _ pulled rfl

theorem startRetract_pulled (s : State) (b : Slot) : ((s.startRetract b).boom b).pulled := by
  refine (retractGo_own ?_).1
  rw [changeBoom_boom]
  exact ⟨level_two rfl, rfl⟩

/-- An idle boom stays idle under the retract pushed on it (R153, R161). -/
theorem startRetract_idle {s : State} {b : Slot} (idle : (s.boom b).auto = .idle) : ((s.startRetract b).boom b).auto = .idle := by
  have pushed : ((s.pushBoom b).boom b).auto = .idle := by
    have withdrawn := ((withdrawBoom_granted s b b).auto (Or.inr idle)).trans idle
    unfold State.pushBoom
    dsimp only
    rw [State.setBoom_boom]
    unfold Boom.pushed
    split
    · exact withdrawn
    · show (State.boom _ b).auto.setAside = .idle
      rw [withdrawn]; rfl
  have opened : ((s.pushBoom b).boom b).openChuck.auto.countRetract = .idle := by
    show (State.boom _ b).auto.releaseChuck.countRetract = .idle
    rw [pushed]; rfl
  refine (retractGo_own ?_).2.trans ?_
  · rw [changeBoom_boom]; exact ⟨level_two rfl, rfl⟩
  · rw [changeBoom_boom]; exact opened

theorem startRetract_granted {s : State} {b c : Slot} (h : b ≠ c) : Boom.Granted (s.boom b) ((s.startRetract c).boom b) := by
  have gone : ∀ (t : State) (r : RetractCtx), Boom.Granted (t.boom b) ((t.retractGo c r).boom b) := by
    intro t r
    unfold State.retractGo
    split
    · refine Boom.Granted.trans (Boom.Granted.of_eq ?_) (evaluate_granted _ b)
      rw [changeBoom_boom_of_ne _ _ h]; rfl
    · split
      · refine Boom.Granted.trans (Boom.Granted.of_eq ?_) (evaluate_granted _ b)
        unfold State.moveRetract
        dsimp only
        split <;> rw [changeBoom_boom_of_ne _ _ h] <;> rfl
      · exact evaluate_granted (t.topUpBoom c .urgent t.retractFlow) b
  refine Boom.Granted.trans (pushBoom_granted h) (Boom.Granted.trans (Boom.Granted.of_eq ?_) (gone _ _))
  exact changeBoom_boom_of_ne _ _ h

/-- One slot's part of the sweep (R160). -/
def State.sweepSlot (b : Slot) (t : State) : State := if (t.boom b).level = 2 then t else t.startRetract b

theorem sweepSlot_granted {s : State} {b c : Slot} (h : b ≠ c) : Boom.Granted (s.boom b) ((State.sweepSlot c s).boom b) := by
  unfold State.sweepSlot
  split
  · exact Boom.Granted.refl _
  · exact startRetract_granted h

theorem sweepSlot_books (s : State) (c : Slot) : s.SameBooks (State.sweepSlot c s) := by
  unfold State.sweepSlot
  split
  · exact State.SameBooks.refl s
  · exact State.SameBooks.startRetract s c

/-- The sweep puts every fitted boom at level 2, its chuck commanded OPEN unless it was there already; an idle boom stays idle
(R160). -/
theorem sweep_pulls {s : State} {b : Slot} (fit : s.fits b = true) :
    (s.sweep.boom b).level = 2 ∧ ((s.boom b).level ≠ 2 → (s.sweep.boom b).chuck = .opened) ∧
      ((s.boom b).auto = .idle → (s.sweep.boom b).auto = .idle) := by
  refine forFitted_reaches (R := fun t => Boom.Granted (s.boom b) (t.boom b)) (f := State.sweepSlot)
    (Q := fun t => (t.boom b).level = 2 ∧ ((s.boom b).level ≠ 2 → (t.boom b).chuck = .opened) ∧
      ((s.boom b).auto = .idle → (t.boom b).auto = .idle)) ?_ ?_ ?_ ?_ fit (Boom.Granted.refl _)
  · intro c t
    unfold State.fits
    rw [(sweepSlot_books t c).store.params]
  · intro c t ne granted
    exact granted.trans (sweepSlot_granted (Ne.symm ne))
  · intro t granted
    unfold State.sweepSlot
    split
    · next two =>
      exact ⟨two, fun k => absurd (granted.level.symm.trans two) k, fun k => (granted.auto (Or.inr k)).trans k⟩
    · exact ⟨(startRetract_pulled t b).1, fun _ => (startRetract_pulled t b).2,
        fun k => startRetract_idle ((granted.auto (Or.inr k)).trans k)⟩
  · intro c t ne ⟨two, opened, idle⟩
    have granted := sweepSlot_granted (s := t) (Ne.symm ne)
    exact ⟨granted.level.trans two, fun k => (granted.chuck two).trans (opened k),
      fun k => (granted.auto (Or.inr (idle k))).trans (idle k)⟩

end Sys2Proof.Machine
end

section
/-! SUPPORT. The retract line's own commands (R160). -/

namespace Sys2Proof.Machine

theorem State.SameBooks.startNext (s : State) : s.SameBooks s.startNext := by
  obtain ⟨l, h, -⟩ := startNext_link s; rw [h]; exact State.SameBooks.link s l

@[simp] theorem startNext_boom (s : State) (b : Slot) : s.startNext.boom b = s.boom b := by
  obtain ⟨l, h, -⟩ := startNext_link s; rw [h]; rfl

@[simp] theorem startNext_grant (s : State) (b : Slot) : s.startNext.grant b = s.grant b := by
  obtain ⟨l, h, -⟩ := startNext_link s; rw [h]; rfl

@[simp] theorem startNext_arbiter (s : State) : s.startNext.arbiter = s.arbiter := by
  obtain ⟨l, h, -⟩ := startNext_link s; rw [h]

/-- What follows an event touches the memory of the CHUCK outputs and the link alone. -/
theorem State.SameBooks.finished {s t : State} (h : s.SameBooks t) : s.SameBooks t.noted.startNext :=
  (State.SameBooks.startNext _).after ((State.SameBooks.noted t).after h)

/-- The part with the retract line read at a level. -/
def State.withLine (s : State) (level : Bool) : State := { s with retractLine := some level }

theorem readLine_sweeps {s : State} (line : s.retractLine = some false) (mode : s.mode = .run) :
    s.readLine true = (s.withLine true).sweep := by
  unfold State.readLine
  dsimp only
  rw [if_pos ⟨line, rfl, mode⟩]
  rfl

theorem readLine_quiet {s : State} {level : Bool} (h : level = false ∨ s.mode ≠ .run) :
    s.readLine level = s.withLine level := by
  unfold State.readLine
  dsimp only
  rw [if_neg fun k => h.elim (fun low => by rw [low] at k; exact absurd k.2.1 (by decide)) fun m => m k.2.2]
  rfl

/-- Settles O9: an assertion read in RUN is the sweep; any other reading of the line is stored and nothing else. -/
theorem retractLineSweeps : Obligations.RetractLineSweeps := by
  intro s unhurried
  refine ⟨fun line mode requested => ?_, fun settled => ⟨fun line mode => ?_, fun line => ?_⟩⟩
  · have swept : s.lineAssert = (s.withLine true).sweep := by
      unfold State.lineAssert; rw [if_pos line, readLine_sweeps line mode]
    have books := State.SameBooks.sweep (s.withLine true)
    have kept := sweep_kept (s.withLine true)
    have event : exec .retractLineAssert s = .next (s.withLine true).sweep.noted.startNext := by
      show Host.Outcome.next s.lineAssert.finish = _
      rw [swept, finish_unhurried (kept.waiting.trans unhurried) (Or.inl (books.store.requested.trans requested))]
    refine ⟨_, event, books.finished.store, books.finished.lists.queues, fun b fit => ?_⟩
    obtain ⟨level, chuck, -⟩ := sweep_pulls (s := s.withLine true) fit
    rw [startNext_boom, noted_boom]
    refine ⟨(Boom.remember_level _ _).trans level, fun k => (Boom.remember_chuck _ _).trans (chuck k), ?_⟩
    obtain ⟨raw, lastGood, inForce, posLoss, enabled⟩ := (kept.booms b).readings
    constructor <;> simpa
  · show Host.Outcome.next s.lineAssert.finish = _
    have quiet : s.lineAssert = s.withLine true := by
      unfold State.lineAssert; rw [if_pos line, readLine_quiet (Or.inr mode)]
    rw [quiet, finish_unhurried (s := s.withLine true) unhurried settled]
    rfl
  · show Host.Outcome.next s.lineRelease.finish = _
    have quiet : s.lineRelease = s.withLine false := by
      unfold State.lineRelease; rw [if_pos line, readLine_quiet (Or.inl rfl)]
    rw [quiet, finish_unhurried (s := s.withLine false) unhurried settled]
    rfl

end Sys2Proof.Machine
end

section
/-! SUPPORT. SET_MODE by R178's table, and the change into RUN under an asserted line (R160, R178, R179). -/

namespace Sys2Proof.Machine

@[simp] theorem heard_quiescent (s : State) : s.heard.quiescent = s.quiescent := by
  obtain ⟨l, h⟩ := heard_link s; rw [h]; rfl

/-- The part with a mode change asked for, or none. -/
def State.asking (s : State) (m : Option Mode) : State := { s with requested := m }

/-- SET_MODE of another mode, by what the settling makes of it (R178). -/
theorem reqSetMode_other {s : State} {code : Byte} {m : Mode} (spelled : Mode.ofCode code.toNat = some m) (other : m ≠ s.mode) :
    reqSetMode code s =
      ((s.asking (some m)).settleMode, { status := .ok, figures := (s.asking (some m)).settleMode.modeBytes }) := by
  unfold reqSetMode
  simp only [spelled, if_neg other]
  rfl

theorem settleMode_waits {s : State} (quiescent : s.quiescent = false) : s.settleMode = s :=
  settleMode_settled (Or.inr quiescent)

theorem settleMode_changes {s : State} {m : Mode} (requested : s.requested = some m) (quiescent : s.quiescent = true) :
    s.settleMode = s.changeMode m := by
  unfold State.settleMode; rw [requested]; dsimp only; rw [if_pos quiescent]

/-- A fitted boom of a quiescent part is IDLE, at level 0, with grant 0 (R179). -/
theorem quiescent_boom {s : State} {b : Slot} (quiescent : s.quiescent = true) (fit : s.fits b = true) :
    (s.boom b).auto = .idle ∧ (s.boom b).level = 0 ∧ s.grant b = 0 := by
  have all : b ∈ Slot.all := by cases b <;> decide
  simpa [fit, State.quiet, and_assoc] using List.all_eq_true.1 quiescent b all

/-- The mode changed without the sweep of an asserted line (R179). -/
def State.inMode (s : State) (m : Mode) : State := { s with mode := m, requested := none }.queueModeChange

theorem changeMode_plain {s : State} {m : Mode} (h : m ≠ .run ∨ s.lineOn = false) : s.changeMode m = s.inMode m := by
  have plain : ¬ (m = .run ∧ (s.inMode m).lineOn = true) := by
    rintro ⟨run, on⟩
    have off := h.resolve_left fun k => k run
    rw [show (s.inMode m).lineOn = s.lineOn from rfl, off] at on
    cases on
  exact if_neg plain

theorem changeMode_sweeps {s : State} (h : s.lineOn = true) : s.changeMode .run = (s.inMode .run).sweep :=
  if_pos ⟨rfl, h⟩

theorem lineOn_iff (s : State) : s.lineOn = true ↔ s.retractLine = some true := by
  unfold State.lineOn; split <;> simp_all

/-- Settles O55: each row of R178's table is one branch of the decision, and the change into RUN under an asserted line ends in
the sweep. -/
theorem setModeByItsTable : Obligations.SetModeByItsTable := by
  constructor
  · intro s tag code ready
    refine ⟨fun settled unspelled => request_refused (r := .setMode code) ready settled
        (by simp only [handleRequest, reqSetMode, unspelled]), fun m spelled => ⟨fun same none => ?_, fun same asked => ?_,
      fun other busy => ?_, fun other quiet line => ?_⟩⟩
    · refine request_answered (r := .setMode code) (st := .already) ready ?_ (Or.inl ((heard_requested s).trans none))
      simp only [handleRequest, reqSetMode, spelled, heard_mode, heard_requested, none, State.modeAnswer,
        State.modeBytes, same]
      rfl
    · obtain ⟨m', asked⟩ := Option.ne_none_iff_exists'.1 asked
      refine request_answered (r := .setMode code) (st := .ok) ready ?_ (Or.inl rfl)
      simp only [handleRequest, reqSetMode, spelled, heard_mode, heard_requested, asked, State.modeAnswer,
        State.modeBytes, same]
      rfl
    · have decision := reqSetMode_other (s := s.heard) spelled (by rwa [heard_mode])
      have stays : (s.heard.asking (some m)).quiescent = false := (heard_quiescent s).trans busy
      rw [settleMode_waits stays] at decision
      rw [request_answered (r := .setMode code) (kind := 0x82) ready decision (Or.inr stays)]
      unfold State.modeBytes
      rw [show (s.heard.asking (some m)).mode = s.mode from heard_mode s]
      rfl
    · have decision := reqSetMode_other (s := s.heard) spelled (by rwa [heard_mode])
      have lineOff : m ≠ .run ∨ (s.heard.asking (some m)).lineOn = false :=
        line.imp_right fun k => by
          rw [show (s.heard.asking (some m)).lineOn = s.lineOn from heard_lineOn s, ← Bool.not_eq_true, lineOn_iff]
          exact k
      rw [settleMode_changes (s := s.heard.asking (some m)) rfl ((heard_quiescent s).trans quiet), changeMode_plain lineOff] at decision
      exact request_answered (r := .setMode code) ready decision (Or.inl rfl)
  · intro s tag ready quiet mode quiescent line
    have lineOn : (s.heard.asking (some .run)).lineOn = true :=
      (heard_lineOn s).trans ((lineOn_iff s).2 line)
    have decision := reqSetMode_other (s := s.heard) (code := 1) (m := .run) rfl (by rw [heard_mode]; exact Ne.symm mode)
    rw [settleMode_changes (s := s.heard.asking (some .run)) rfl ((heard_quiescent s).trans quiescent), changeMode_sweeps lineOn] at decision
    have books := State.SameBooks.sweep ((s.heard.asking (some .run)).inMode .run)
    have kept := sweep_kept ((s.heard.asking (some .run)).inMode .run)
    have requested := books.store.requested
    have inRun := books.store.mode
    have shown : ((s.heard.asking (some .run)).inMode .run).sweep.modeBytes = le1 1 ++ le1 0xFF := by
      unfold State.modeBytes; rw [requested, inRun]; rfl
    rw [shown] at decision
    refine ⟨_, request_answered (r := .setMode 1) (kind := 0x82) ready decision (Or.inl requested),
      answered_replies _ _ _ _, ?_, ?_, answered_sameLists _ _ _ ((heard_sameLists s).trans ?_), ?_, fun b fit => ?_⟩
    · rw [answered_mode, noted_mode, inRun]; rfl
    · rw [answered_requested, noted_requested, requested]; rfl
    · exact ⟨books.lists.queues, books.lists.log, books.lists.nextSeq, books.lists.writers⟩
    · rw [answered_params, noted_params, books.store.params]; exact heard_params s
    · have idle := quiescent_boom quiescent fit
      have boom : ((s.heard.asking (some .run)).inMode .run).boom b = s.boom b := heard_boom s b
      obtain ⟨level, chuck, auto⟩ := sweep_pulls (s := (s.heard.asking (some .run)).inMode .run) (b := b)
        ((heard_fits s b).trans fit)
      rw [boom] at chuck auto
      refine ⟨?_, ?_, ?_, answered_sameReadings _ _ _ ?_⟩
      · rw [answered_boom, noted_boom, Boom.remember_level, level]
      · rw [answered_boom, noted_boom, Boom.remember_chuck, chuck (by rw [idle.2.1]; decide)]
      · rw [answered_boom, noted_boom, Boom.remember_auto, auto idle.1]
      · rw [← boom]; exact (kept.booms b).readings

end Sys2Proof.Machine
end

section
/-! SUPPORT. The cartridge count (R89), the state after a reset, and the worked figures. -/

namespace Sys2Proof.Machine

/-- Rounded up, a quotient is the smallest count that covers. -/
theorem ceilDiv_le_iff {need each : Nat} (volume : 0 < each) (n : Nat) : ceilDiv need each ≤ n ↔ need ≤ n * each := by
  unfold ceilDiv
  rw [← Nat.lt_succ_iff, Nat.div_lt_iff_lt_mul volume, Nat.succ_mul]
  omega

/-- Settles O60: a count fills the annulus exactly when it is at least the quotient rounded up, the cartridge having some
volume. -/
theorem baseCountIsTheSmallest : Obligations.BaseCountIsTheSmallest := by
  intro r diameter length
  have volume : 0 < r.cartDiameter ^ 2 * r.cartLength * 100 := by positivity
  exact ⟨(ceilDiv_le_iff volume _).1 (Nat.le_refl _), fun n => (ceilDiv_le_iff volume n).2⟩

/-! ## The state after a reset -/

theorem reset_boom (b : Slot) : State.reset.boom b = Boom.fresh := by cases b <;> rfl

theorem reset_served : State.reset.Served where
  capacity := by unfold State.flowSafe; decide
  entries _ h := absurd h List.not_mem_nil
  once := List.nodup_nil
  order := List.Pairwise.nil
  restful b _ _ := by cases b <;> rfl
  unfitted b _ := by rw [reset_boom]; exact ⟨rfl, rfl⟩
  config _ b := by rw [reset_boom]; exact ⟨rfl, rfl⟩
  writersOnce := List.nodup_nil
  writersWait b := ⟨fun h => absurd h List.not_mem_nil, fun ⟨_, h⟩ => by rw [reset_boom] at h; cases h⟩
  logFull := fun h => absurd rfl h

theorem reset_planned : State.reset.Planned where
  ids := List.nodup_nil
  recipes b e h := by
    have empty : State.reset.queues.get b = [] := by cases b <;> rfl
    rw [empty] at h
    cases h
  push b h := by rw [reset_boom] at h; cases h
  index b h := by rw [reset_boom] at h; cases h
  loaded b g h := by rw [reset_boom] at h; cases h
  early b g h := by rw [reset_boom] at h; cases h
  posted b h := by
    rw [reset_boom] at h
    exact absurd h (by unfold CondSet.askForResin; decide)
  frames b f g h := by rw [reset_boom] at h; cases h

theorem reset_profiled : State.reset.Profiled where
  sound b := by rw [reset_boom]; exact vacant_sound
  opened b := by rw [reset_boom]; decide
  position b := by rw [reset_boom]; decide
  recipes i r h := by rw [reset_recipeAt] at h; cases h

theorem fresh_enabled (c : Cond) (h : Cond.maskable c = false) : CondSet.has CondSet.defaultEnabled c = false := by
  cases c <;> revert h <;> decide

/-- Settles O57: after a reset every list is empty, every boom is fresh and every profile vacant. -/
theorem resetIsBounded : Obligations.ResetIsBounded := by
  refine ⟨⟨by decide, by decide, by decide, fun b => by cases b <;> decide, fun b => ?_, fun b c nonmaskable => ?_⟩,
    Or.inl rfl, reset_served, reset_planned, reset_profiled⟩
  · rw [reset_boom]; decide
  · rw [reset_boom]; exact fresh_enabled c nonmaskable

end Sys2Proof.Machine
end

section
/-! SUPPORT. The worked figures of the spec, each evaluated by the model's own arithmetic (4.4, 4.6 to 4.8, R89, R103, R189). -/

namespace Sys2Proof.Machine

/-! ## Counts, tensions and energies -/

theorem workedCounts {r : Recipe} (bit : r.bitDiameter = 27) (bolt : r.boltDiameter = 20) (length : r.encapsulation = 1200)
    (waste : r.waste = 15) (cart : r.cartDiameter = 23) (cartLength : r.cartLength = 600) :
    baseCount r = 2 ∧ computedCount r .fair false = 3 := by
  have base : baseCount r = 2 := by
    unfold baseCount
    rw [bit, bolt, length, waste, cart, cartLength]
    decide
  exact ⟨base, by unfold computedCount; rw [base]⟩

theorem workedFullCount {r : Recipe} (bit : r.bitDiameter = 45) (bolt : r.boltDiameter = 12) (length : r.encapsulation = 2400)
    (waste : r.waste = 50) (cart : r.cartDiameter = 18) (cartLength : r.cartLength = 300) : baseCount r = 70 := by
  unfold baseCount
  rw [bit, bolt, length, waste, cart, cartLength]
  decide

theorem workedTension {r : Recipe} (nut : r.nutFactor = 100) (bolt : r.boltDiameter = 12) : tensionOf r 5000 = 4167 := by
  unfold tensionOf
  rw [nut, bolt]
  decide

/-! ## The six closes of 4.6 -/

/-- A profile under the figures of 4.6: OPEN, its interval just opened at the frontier. -/
def Profile.under46 (frontier refSE lastSE : Nat) (bands : List Band) : Profile :=
  { cond := .opened, frontier := frontier, interval := some (Interval.opensAt frontier), refSE := refSE, lastSE := lastSE,
    bands := bands, truncated := false, collarLimit := 300, anchor := none }

/-- The two closes in the collar make one band. -/
def Band.collar46 : Band := Band.figures .collar 0 406 2 180 420 600

/-- The two COMPETENT closes make one band. -/
def Band.competent46 : Band := Band.figures .competent 406 808 2 470 566 1036

/-- The VOID close is a band of its own. -/
def Band.void46 : Band := Band.figures .void 808 1010 1 60 60 60

theorem workedClose_first : (Profile.under46 0 500 0 []).worked 20076660 204 =
    (Profile.under46 204 500 180 [Band.figures .collar 0 204 1 180 180 180], false) := by decide

theorem workedClose_second :
    (Profile.under46 204 500 180 [Band.figures .collar 0 204 1 180 180 180]).worked 46386270 406 =
      (Profile.under46 406 500 420 [Band.collar46], false) := by decide

theorem workedClose_third : (Profile.under46 406 500 420 [Band.collar46]).worked 61892100 606 =
    (Profile.under46 606 508 566 [Band.collar46, Band.figures .competent 406 606 1 566 566 566], false) := by decide

theorem workedClose_fourth :
    (Profile.under46 606 508 566 [Band.collar46, Band.figures .competent 406 606 1 566 566 566]).worked 51908445 808 =
      (Profile.under46 808 504 470 [Band.collar46, Band.competent46], false) := by decide

theorem workedClose_fifth : (Profile.under46 808 504 470 [Band.collar46, Band.competent46]).worked 6626610 1010 =
    (Profile.under46 1010 504 60 [Band.collar46, Band.competent46, Band.void46], true) := by decide

theorem workedClose_sixth :
    (Profile.under46 1010 504 60 [Band.collar46, Band.competent46, Band.void46]).worked 28715310 1212 =
      (Profile.under46 1212 504 260
        [Band.collar46, Band.competent46, Band.void46, Band.figures .soft 1010 1212 1 260 260 260], false) := by decide

/-! ## The merge beside 32 bands -/

/-- The figures the profiles of 4.6 are worked with. -/
def figures46 : StrataFigures := { bit := 27, interval := 20, voidPct := 15, softPct := 60, hardPct := 180 }

/-- The last band with an addition of another class merged into it (R79). -/
def Band.mergedWith (last : Band) (a : Addition) : Band :=
  { last.extend a with cls := last.cls.worse a.cls, isMerged := true }

/-- Beside 32 bands an addition of another class goes into the last band under the more severe class (R79). -/
theorem addBand_merges {p : Profile} {a : Addition} {l : List Band} {last : Band} (bands : p.bands = l ++ [last])
    (length : l.length = 31) (other : last.cls ≠ a.cls) :
    p.addBand a =
      { p with
        bands := l ++ [last.mergedWith a]
        truncated := true } := by
  have full : ¬ (l ++ [last]).length < Config.maxBands := by
    rw [List.length_append, length]; exact (by decide : ¬ 32 < Config.maxBands)
  unfold Profile.addBand
  rw [bands, List.getLast?_concat]
  dsimp only
  rw [if_neg other, if_neg full, List.dropLast_concat]
  rfl

/-- The interval of the merge with `n` whole samples taken. -/
def Interval.merge46 (n : Nat) : Interval :=
  { start := 14420, samples := n, sumForce := 0, forceCount := n, sumWork := 60853275, workCount := n, drops := 0 }

theorem workedMerge {p : Profile} {l : List Band} (cond : p.cond = .opened) (frontier : p.frontier = 14420)
    (interval : p.interval = some (Interval.opensAt 14420)) (refSE : p.refSE = 500) (collar : p.collarLimit = 300)
    (length : l.length = 31) (bands : p.bands = l ++ [Band.figures .soft 14200 14420 1 240 240 240]) :
    p.worked 60853275 14630 =
      ({ p with
         frontier := 14630, interval := some (Interval.opensAt 14630), refSE := 503, lastSE := 530, truncated := true,
         bands := l ++ [{ Band.figures .soft 14200 14630 2 240 530 770 with isMerged := true }] }, false) := by
  obtain ⟨c, f, i, r, e, bs, tr, cl, an⟩ := p
  dsimp only at *
  subst cond frontier interval refSE collar bands
  have energy : (Interval.merge46 100).energy 27 (14630 - (Interval.merge46 100).start) = some 530 := by decide
  have competent : classify figures46 300 500 (Interval.merge46 100) (some 530) = .competent := by decide
  have sampled : (Profile.mk .opened 14420 (some (Interval.opensAt 14420)) 500 e
        (l ++ [Band.figures .soft 14200 14420 1 240 240 240]) tr 300 an).worked 60853275 14630 =
      Profile.closeTests figures46 (Interval.merge46 100)
        (Profile.mk .opened 14630 (some (Interval.merge46 99)) 500 e
          (l ++ [Band.figures .soft 14200 14420 1 240 240 240]) tr 300 an) := by
    unfold Profile.worked Profile.sample
    dsimp only [Option.map_some]
    rw [if_pos (show 14420 ≤ 14630 + 10 by decide)]
    rfl
  have closes : (Profile.mk .opened 14420 (some (Interval.opensAt 14420)) 500 e
        (l ++ [Band.figures .soft 14200 14420 1 240 240 240]) tr 300 an).worked 60853275 14630 =
      ({ (Profile.mk .opened 14630 (some (Interval.merge46 99)) 503 530
            (l ++ [Band.figures .soft 14200 14420 1 240 240 240]) tr 300 an).addBand
          { cls := .competent, top := 14420, bottom := 14630, counts := true, se := some 530, isPartial := false,
            isForced := false, isSuspect := false } with
        interval := some (Interval.opensAt 14630) }, false) := by
    rw [sampled]
    unfold Profile.closeTests
    refine (if_pos (by decide : (Interval.merge46 100).start + 10 * figures46.interval ≤ 14630)).trans ?_
    unfold Profile.closeInterval
    dsimp only
    rw [show figures46.bit = 27 from rfl, energy, competent]
    rfl
  have merged : (Band.figures .soft 14200 14420 1 240 240 240).mergedWith
        { cls := .competent, top := 14420, bottom := 14630, counts := true, se := some 530, isPartial := false,
          isForced := false, isSuspect := false } =
      { Band.figures .soft 14200 14630 2 240 530 770 with isMerged := true } := by decide +kernel
  rw [closes, addBand_merges rfl length (by decide), merged]

/-! ## The anchor zone of 4.8 -/

/-- The profile of 4.8, its VOID band ending at a depth. -/
def Profile.zone48 (e : Nat) : Profile :=
  { cond := .closed, frontier := 18000, interval := none, refSE := 500, lastSE := 500,
    bands := [Band.figures .collar 0 300 1 180 180 180, Band.figures .competent 300 7400 1 500 500 500,
              Band.figures .soft 7400 9800 1 250 250 250, Band.figures .competent 9800 16200 1 500 500 500,
              Band.figures .void 16200 e 1 60 60 60, Band.figures .hard e 18000 1 950 950 950],
    truncated := false, collarLimit := 300, anchor := none }

theorem zone48_thin : (Profile.zone48 16500).assess Params.default 1200 = { percent := 77, grade := .fair } := by
  decide +kernel

theorem zone48_thick : (Profile.zone48 16650).assess Params.default 1200 = { percent := 76, grade := .poor } := by
  decide +kernel

/-- The gap of 4.7 after the six closes of 4.6. -/
theorem workedGap :
    ({ Profile.under46 1212 504 260
        [Band.collar46, Band.competent46, Band.void46, Band.figures .soft 1010 1212 1 260 260 260] with
      frontier := 1290,
      interval := some { Interval.opensAt 1212 with samples := 46, forceCount := 46 } } : Profile).gapTest 1650 =
      Profile.under46 1650 504 260
        [Band.collar46, Band.competent46, Band.void46, Band.figures .soft 1010 1212 1 260 260 260,
          { Band.figures .unlogged 1212 1650 0 0 0 0 with seCount := 0, seMin := none, seMax := none }] := by decide +kernel

/-- Settles O59: each figure is what the model's own function gives on the numbers of its section. -/
theorem workedFigures : Obligations.WorkedFigures := by
  refine ⟨by decide +kernel, fun r => workedCounts, fun r => workedFullCount, fun r => workedTension, by decide, ?_, by decide, ?_,
    fun p l cond frontier interval refSE collar length bands => workedMerge cond frontier interval refSE collar length bands, ?_⟩
  · rintro g iv rfl
    refine ⟨?_, ?_⟩
    · rintro (rfl | rfl) <;> decide
    · rintro rfl
      decide
  · rintro p0 p1 p2 p3 p4 p5 p6 (rfl : _ = Profile.under46 0 500 0 []) rfl rfl rfl rfl rfl rfl
    rw [workedClose_first, workedClose_second, workedClose_third, workedClose_fourth, workedClose_fifth, workedClose_sixth]
    refine ⟨⟨rfl, rfl, rfl⟩, ⟨rfl, rfl, rfl⟩, ⟨rfl, rfl, rfl⟩, ⟨rfl, rfl, rfl⟩, rfl, ⟨rfl, rfl⟩, rfl, ?_⟩
    rintro q rfl
    exact workedGap
  · rintro p e (rfl : _ = Profile.zone48 e)
    exact ⟨fun h => by rw [h]; exact zone48_thin, fun h => by rw [h]; exact zone48_thick⟩

end Sys2Proof.Machine
end

section
/-! SUPPORT. The timer events of a boom as commands of their own: they act at the tick falling due, and what follows them is the
memory of the CHUCK outputs and the link's service (log entry 2). -/

namespace Sys2Proof.Machine

/-- The part at another reading of the run clock. -/
def State.atClock (s : State) (now : Tick) : State := { s with clock := now }

@[simp] theorem atClock_boom (s : State) (now : Tick) (b : Slot) : (s.atClock now).boom b = s.boom b := rfl
@[simp] theorem atClock_clock (s : State) (now : Tick) : (s.atClock now).clock = now := rfl
@[simp] theorem atClock_params (s : State) (now : Tick) : (s.atClock now).params = s.params := rfl
@[simp] theorem atClock_atClock (s : State) (now then_ : Tick) : (s.atClock now).atClock then_ = s.atClock then_ := rfl
@[simp] theorem atClock_self (s : State) : s.atClock s.clock = s := rfl

/-- A fitted boom whose context is not IDLE keeps any mode change waiting (R179). -/
theorem settled_of_busy {s : State} {b : Slot} (fits : s.fits b = true) (busy : (s.boom b).auto ≠ .idle) : s.settled := by
  right
  have all : b ∈ Slot.all := by cases b <;> decide
  rw [← Bool.not_eq_true]
  unfold State.quiescent
  intro quiet
  have quiet_b := List.all_eq_true.1 quiet b all
  simp [fits, State.quiet, busy] at quiet_b

/-- A timer event of a fitted boom that places no entry, by what it does at the tick falling due (log entry 2). -/
theorem timedEvent_eq {s u : State} {b : Slot} {f : State → State} (fits : s.fits b = true)
    (acts : f (s.atClock (s.clock + 1)) = u) (placed : ∀ e ∈ u.arbiter.waitList, e ∈ s.arbiter.waitList)
    (unhurried : u.link.waiting = []) (settled : u.settled) :
    s.timedEvent b f = (u.atClock s.clock).noted.startNext := by
  have due : atDueTick f s = u.atClock s.clock := by
    rw [← acts] at placed ⊢
    exact atDueTick_placing_none placed
  unfold State.timedEvent State.boomEvent
  rw [if_pos fits, due]
  exact finish_unhurried unhurried settled

/-- A timer event that writes one boom and queues no report. -/
theorem timedEvent_setBoom {s : State} {b : Slot} {f : State → State} {x : Boom} (fits : s.fits b = true)
    (acts : f (s.atClock (s.clock + 1)) = (s.atClock (s.clock + 1)).setBoom b x) (unhurried : s.unhurried)
    (settled : (s.setBoom b x).settled) : s.timedEvent b f = (s.setBoom b x).noted.startNext := by
  have settled' : ((s.atClock (s.clock + 1)).setBoom b x).settled := settled
  rw [timedEvent_eq fits acts (fun _ h => h) unhurried settled']
  rfl

theorem ticksReach_of_le {n d : Nat} (reached : d ≤ 10 * n) : ticksReach n d = true := decide_eq_true reached

/-! ## The gel limit -/

/-- Settles O15: at the tick falling due the resin age has reached the gel limit, so the mark is set. -/
theorem gelLimitIsMarked : Obligations.GelLimitIsMarked := by
  intro b s h m fits unhurried start reached
  have marked : h.gelTick (s.clock + 1) = { h with gelReached := true } := by
    have passed : ticksReach (ticksSince (s.clock + 1) m) h.plan.recipe.gelLimit = true := ticksReach_of_le reached
    unfold Hole.gelTick Hole.gelPassed timerReaches
    rw [start]
    simp only [passed, Bool.or_true]
  refine ⟨fun sub auto => ?_, fun f auto => ?_⟩
  · refine congrArg Host.Outcome.next (timedEvent_setBoom fits ?_ unhurried ?_)
    · unfold State.gelTimer
      rw [atClock_boom, auto, ← marked]
      rfl
    · exact settled_of_busy (b := b) fits (by rw [State.setBoom_boom]; nofun)
  · refine congrArg Host.Outcome.next (timedEvent_setBoom fits ?_ unhurried ?_)
    · unfold State.gelTimer
      rw [atClock_boom, auto, ← marked]
      rfl
    · exact settled_of_busy (b := b) fits (by rw [State.setBoom_boom]; nofun)

/-! ## Overdue retracts and the manual hold -/

theorem setBoom_overdue_queued {s : State} {b : Slot} {x : Boom} (shown : x.overdueShown = true) :
    (s.setBoom b x).noteOverdue b false = (s.setBoom b x).queueStatus b := by
  unfold State.noteOverdue
  rw [State.setBoom_boom, if_pos ⟨shown, rfl⟩]

theorem queueStatus_waiting (s : State) (b : Slot) : (s.queueStatus b).link.waiting = s.link.waiting :=
  (queueStatus_kept s b).waiting

theorem queueStatus_atClock (s : State) (b : Slot) (now : Tick) :
    (s.queueStatus b).atClock now = (s.atClock now).queueStatus b := by
  unfold State.queueStatus
  rw [show (s.atClock now).fits b = s.fits b from rfl]
  split <;> rfl

/-- A timer event that writes one boom and queues its report (R192). -/
theorem timedEvent_queueStatus {s : State} {b : Slot} {f : State → State} {x : Boom} (fits : s.fits b = true)
    (acts : f (s.atClock (s.clock + 1)) = ((s.atClock (s.clock + 1)).setBoom b x).queueStatus b) (unhurried : s.unhurried)
    (busy : x.auto ≠ .idle ∨ x.level ≠ 0) : s.timedEvent b f = ((s.setBoom b x).queueStatus b).noted.startNext := by
  have fits' : (((s.atClock (s.clock + 1)).setBoom b x).queueStatus b).fits b = true := by
    unfold State.fits
    rw [(State.SameBooks.queueStatus _ _).store.params]
    exact fits
  have settled : (((s.atClock (s.clock + 1)).setBoom b x).queueStatus b).settled := by
    rcases busy with auto | level
    · exact settled_of_busy fits' (by rwa [queueStatus_boom, State.setBoom_boom])
    · exact settled_of_level fits' (by rwa [queueStatus_boom, State.setBoom_boom])
  rw [timedEvent_eq fits acts ?_ ?_ settled, queueStatus_atClock]
  · rfl
  · unfold State.queueStatus
    split <;> exact fun _ h => h
  · rw [queueStatus_waiting]
    exact unhurried

/-- Settles O16: each timer reaches its limit at the tick falling due, and its boom alone is written. -/
theorem interventionTimersRunOut : Obligations.InterventionTimersRunOut := by
  intro b s fits unhurried
  refine ⟨fun h level auto fresh reached => ?_, fun r retract sub fresh reached => ?_,
    fun m n retract manual hold reached => ?_⟩
  · refine congrArg Host.Outcome.next (timedEvent_queueStatus fits ?_ unhurried (Or.inl nofun))
    obtain ⟨retract, manual⟩ := level_zero level
    have due := ticksReach_of_le reached
    unfold State.abandonOverdue
    rw [atClock_boom, level, auto]
    refine Eq.trans (if_pos due) ?_
    rw [fresh]
    exact setBoom_overdue_queued (by unfold Boom.overdueShown; simp [retract, manual])
  · refine congrArg Host.Outcome.next (timedEvent_queueStatus fits ?_ unhurried (Or.inr (by rw [level_two rfl]; decide)))
    unfold State.safeOverdue
    have due := ticksReach_of_le reached
    rw [atClock_boom, retract]
    dsimp only
    rw [sub]
    refine Eq.trans (if_pos due) ?_
    rw [fresh]
    exact setBoom_overdue_queued rfl
  · refine congrArg Host.Outcome.next (timedEvent_setBoom fits ?_ unhurried ?_)
    · unfold State.manualDue Boom.activeManual
      rw [atClock_boom, retract]
      dsimp only
      rw [manual]
      dsimp only
      rw [hold]
      dsimp only
      exact if_pos (ticksReach_of_le reached)
    · refine settled_of_level (b := b) fits ?_
      rw [State.setBoom_boom]
      simp [Boom.level, retract]

end Sys2Proof.Machine
end

section
/-! SUPPORT. The one form of an exception's entry (R134): the boom stopped, its grant reduced, its two reports queued; and, when
no other requester waits, the whole part after it. -/

namespace Sys2Proof.Machine

/-! ## The entry to an exception -/

/-- A boom as an exception leaves it, by its frame and its hole (R134). -/
def Boom.halted (x : Boom) (f : ExFrame) (h : Hole) : Boom := { x.still.cancelLoader with auto := .exception f h }

theorem changeBoom_then_status (s : State) (b : Slot) (x : Boom) :
    ∃ q, s.changeBoom b x = { s with booms := s.booms.set b x, link := { s.link with boomStatus := q } } ∧
      q.set b true = s.link.boomStatus.set b true := by
  unfold State.changeBoom
  split
  · exact ⟨s.link.boomStatus, rfl, rfl⟩
  · unfold State.queueStatus
    split
    · exact ⟨s.link.boomStatus.set b true, rfl, four_set_set _ _ _ _⟩
    · exact ⟨s.link.boomStatus, rfl, rfl⟩

/-- The entry to an exception of a fitted boom, in full (R134, R139). -/
theorem stopBoom_eq {s : State} {b : Slot} (fits : s.fits b = true) (h : Hole) (k : FrameKind) (c : Cond) (n : Nat)
    (p q : Phase) :
    s.stopBoom b h k c n p q =
      { s with
        booms := s.booms.set b
          ((s.boom b).halted (s.makeFrame b h k c n p q)
            { h with phase := q, exceptions := countUp16 h.exceptions, torqueRun := [] })
        arbiter := s.arbiter.reduce (.boom b) (s.stopTarget p)
        link := { s.link with
          exceptionReport := s.link.exceptionReport.set b (some (s.makeFrame b h k c n p q))
          boomStatus := s.link.boomStatus.set b true } } := by
  unfold State.stopBoom
  dsimp only
  obtain ⟨q', changed, status⟩ := changeBoom_then_status s b
    ((s.boom b).halted (s.makeFrame b h k c n p q) { h with phase := q, exceptions := countUp16 h.exceptions, torqueRun := [] })
  unfold Boom.halted at changed
  rw [changed, queueException_queueStatus (by exact fits)]
  rw [← status]
  rfl

/-- What an immediate exception leads to, said of the boom `y` as its conditions have left it (R134, R137, R139). -/
structure State.StoppedAs (s t : State) (b : Slot) (y : Boom) (h : Hole) (c : Cond) (operand : Nat) : Prop where
  only : s.OnlyBoom t b
  link : t.link = { s.link with
    exceptionReport := t.link.exceptionReport, boomStatus := t.link.boomStatus }
  context : ∃ f, (t.boom b) = y.halted f h.stopped ∧ f.kind = .inPhase ∧ f.cause = c ∧ f.operand = operand ∧
    f.phase = h.phase ∧ f.raisedIn = h.phase ∧ f.current = y.current ∧ f.posted = y.posted ∧ t.link.exceptionReport.get b = some f
  status : t.link.boomStatus.get b = true
  grant : t.grant b = s.grantStopped b h.phase
  quiet : t.arbiter.waitList = []

theorem stopTarget_min (s : State) (b : Slot) (p : Phase) : min (s.stopTarget p) (s.grant b) = s.grantStopped b p := by
  unfold State.stopTarget State.grantStopped
  cases p <;> simp [Phase.keepsFlow, Params.effective]

/-- An immediate exception of a boom just written, when no other requester waits. -/
theorem stopInPhase_alone {s : State} {b : Slot} {y : Boom} (fits : s.fits b = true) (alone : s.waitsAlone b)
    (readings : Boom.SameReadings (s.boom b) y) (h : Hole) (c : Cond) (n : Nat) :
    s.StoppedAs (((s.setBoom b y).stopInPhase b h c n).evaluate) b y h c n := by
  have quiet : ((s.setBoom b y).stopInPhase b h c n).arbiter.waitList = [] := by
    unfold State.stopInPhase
    rw [stopBoom_eq (by exact fits)]
    exact reduceBoom_alone alone _
  rw [evaluate_nil quiet]
  unfold State.stopInPhase at quiet ⊢
  rw [stopBoom_eq (by exact fits)] at quiet ⊢
  have own : ((s.booms.set b y).set b ((s.setBoom b y).boom b |>.halted
      ((s.setBoom b y).makeFrame b h .inPhase c n h.phase h.phase) h.stopped)).get b =
        y.halted ((s.setBoom b y).makeFrame b h .inPhase c n h.phase h.phase) h.stopped := by
    rw [four_set_set, State.setBoom_boom]
    exact four_get_set_self _ _ _
  refine ⟨⟨⟨rfl, rfl, rfl, rfl, rfl, rfl, rfl, rfl, rfl, rfl⟩, ⟨rfl, rfl, rfl, rfl⟩, ?_, ?_, ?_, ?_⟩, rfl,
    ⟨(s.setBoom b y).makeFrame b h .inPhase c n h.phase h.phase, own, rfl, rfl, rfl, rfl, rfl, ?_, ?_, four_get_set_self _ _ _⟩,
    four_get_set_self _ _ _, ?_, quiet⟩
  · intro k other
    show ((s.booms.set b y).set b _).get k = _
    rw [four_set_set]
    exact four_get_set_of_ne _ _ other
  · exact fun k other => reduceBoom_grant_of_ne s _ other
  · show (s.reduceBoom b _).arbiter.reserve = _
    rw [reduceBoom_arbiter alone]
  · have kept : Boom.SameReadings (s.boom b)
        (y.halted ((s.setBoom b y).makeFrame b h .inPhase c n h.phase h.phase) h.stopped) :=
      ⟨readings.raw, readings.lastGood, readings.inForce, readings.posLoss, readings.enabled⟩
    rw [← own] at kept
    exact kept
  · show ((s.setBoom b y).boom b).current = _
    rw [State.setBoom_boom]
  · show ((s.setBoom b y).boom b).posted = _
    rw [State.setBoom_boom]
  · exact (reduceBoom_grant s b _).trans (stopTarget_min s b h.phase)

/-- The same, in full: one condition, raised and taken (R134). -/
theorem stop_alone_eq {s : State} {b : Slot} {y : Boom} (fits : s.fits b = true) (alone : s.waitsAlone b) (h : Hole) {c : Cond}
    (immediate : c.isPosted = false) (n : Nat) (loader : y = { s.boom b with handshake := y.handshake }) :
    ((((s.setBoom b y).raise b [c]).stopInPhase b h c n).evaluate) = s.stopped b h c n s.clock := by
  have quiet : (((s.setBoom b y).raise b [c]).stopInPhase b h c n).arbiter.waitList = [] := by
    unfold State.stopInPhase
    rw [stopBoom_eq (by exact fits)]
    exact reduceBoom_alone alone _
  have unposted : Cond.posts y.enabled c = false := by simp [Cond.posts, immediate]
  have raised : ((s.setBoom b y).raise b [c]).boom b =
      { s.boom b with
        handshake := y.handshake, current := CondSet.put (s.boom b).current c, accrued := CondSet.put (s.boom b).accrued c } := by
    unfold State.raise Boom.raise
    rw [State.setBoom_boom, State.setBoom_boom, List.filter_cons_of_neg (by simp [unposted])]
    rw [loader]
    rfl
  have frame : ((s.setBoom b y).raise b [c]).makeFrame b h .inPhase c n h.phase h.phase = s.frameAt b h c n s.clock := by
    unfold State.makeFrame
    rw [raised]
    rfl
  rw [evaluate_nil quiet]
  unfold State.stopInPhase
  rw [stopBoom_eq (by exact fits), frame, raised]
  have arbiter := reduceBoom_arbiter alone (s.stopTarget h.phase)
  rw [stopTarget_min] at arbiter
  unfold State.stopped
  have booms : ((s.setBoom b y).raise b [c]).booms.set b
      (({ s.boom b with
          handshake := y.handshake, current := CondSet.put (s.boom b).current c,
          accrued := CondSet.put (s.boom b).accrued c } : Boom).halted (s.frameAt b h c n s.clock) h.stopped) =
      s.booms.set b (s.boomStopped b h c n s.clock) := by
    show ((s.booms.set b y).set b _).set b _ = _
    rw [four_set_set, four_set_set]
    rfl
  rw [← arbiter, ← booms]
  rfl

theorem stopRunning_alone {s : State} {b : Slot} (fits : s.fits b = true) (alone : s.waitsAlone b) (h : Hole) {c : Cond}
    (immediate : c.isPosted = false) : s.stopRunning b h c = s.stopped b h c 0 s.clock := by
  have same : s.setBoom b (s.boom b) = s := by
    unfold State.setBoom State.boom
    rw [four_set_get]
  have := stop_alone_eq (y := s.boom b) fits alone h immediate 0 rfl
  rwa [same] at this

end Sys2Proof.Machine
end

section
/-! SUPPORT. The timers and counts that stop a boom, at the tick falling due and at a sample. -/

namespace Sys2Proof.Machine

/-! ## The cause of an immediate exception (R133) -/

theorem condAll_priority : ∀ j : Fin Cond.all.length, (Cond.all[j]).priority = j + 1 := by decide

theorem condAll_get (c : Cond) : ∃ h : c.priority - 1 < Cond.all.length, Cond.all[c.priority - 1] = c := by
  cases c <;> exact ⟨by decide, rfl⟩

/-- The condition of the highest priority among those raised is the cause when it stops the boom (R133). -/
theorem stoppingCause_eq {e : CondSet} {cs : List Cond} {c : Cond} (mem : c ∈ cs) (stops : c.stops e = true)
    (first : ∀ d ∈ cs, c.priority ≤ d.priority) : stoppingCause e cs = some c := by
  obtain ⟨place, at_place⟩ := condAll_get c
  unfold stoppingCause
  rw [List.find?_eq_some_iff_getElem]
  refine ⟨by simp [mem, stops], c.priority - 1, place, at_place, fun j before => ?_⟩
  have lower : ¬ Cond.all[j] ∈ cs := by
    intro listed
    have := first _ listed
    rw [show Cond.all[j] = Cond.all[(⟨j, before.trans place⟩ : Fin _)] from rfl, condAll_priority ⟨j, before.trans place⟩] at this
    dsimp only at this
    omega
  simp [lower]

theorem mem_rangeConds {x : Boom} {c : Cond} (h : c ∈ x.rangeConds) : c = .sensorRange := by
  unfold Boom.rangeConds at h
  split at h <;> simp_all

theorem mem_thrustConds {x : Boom} {k : Hole} {c : Cond} (h : c ∈ x.thrustConds k) : c = .overThrust := by
  unfold Boom.thrustConds at h
  split at h
  · simp at h
  · split at h <;> simp_all

theorem mem_stallConds {k : Hole} {ps : Params} {c : Cond} (h : c ∈ k.stallConds ps) : c = .feedStall := by
  unfold Hole.stallConds at h
  split at h <;> simp_all

theorem mem_retractConds {k : Hole} {ps : Params} {c : Cond} (h : c ∈ k.retractConds ps) : c = .retractTimeout := by
  unfold Hole.retractConds at h
  split at h <;> simp_all

theorem driveOn_iff (s : State) : s.driveOn = true ↔ s.drive = some true := by
  unfold State.driveOn
  split <;> simp_all

theorem moveConds_driven {s : State} {b : Slot} (drive : s.drive = some true) :
    s.moveConds b = if (s.boom b).posLoss = 20 then [.positionLost] else [] := by
  unfold State.moveConds
  rw [(driveOn_iff s).2 drive]
  rfl

/-- What can be raised at an ACTIVE sample beside DRIVE_LOST and POSITION_LOST. -/
theorem mem_activeConds {s : State} {b : Slot} {h : Hole} {c : Cond} (mem : c ∈ s.activeConds b h) :
    c ∈ s.moveConds b ∨ c = .sensorRange ∨ c = .overThrust ∨ c = .feedStall ∨ c = .retractTimeout := by
  unfold State.activeConds at mem
  simp only [List.mem_append] at mem
  rcases mem with (((range | move) | thrust) | stall) | retract
  · exact Or.inr (Or.inl (mem_rangeConds range))
  · exact Or.inl move
  · exact Or.inr (Or.inr (Or.inl (mem_thrustConds thrust)))
  · exact Or.inr (Or.inr (Or.inr (Or.inl (mem_stallConds stall))))
  · exact Or.inr (Or.inr (Or.inr (Or.inr (mem_retractConds retract))))

/-! ## A sample that stops its boom -/

/-- What a sample's conditions make of a boom before it stops. -/
def Boom.struck (x : Boom) (cs : List Cond) : Boom := x.markSeen.raise cs

theorem struck_readings (x : Boom) (cs : List Cond) : Boom.SameReadings x (x.struck cs) := ⟨rfl, rfl, rfl, rfl, rfl⟩

theorem takeConds_stops {s : State} {b : Slot} {h : Hole} {cs : List Cond} {c : Cond} {go : State → State}
    (fits : s.fits b = true) (quiet : s.flowQuiet) (cause : s.stopCause b cs = some c) :
    s.StoppedAs (s.takeConds b h cs go) b ((s.boom b).struck cs) h c 0 := by
  unfold State.takeConds
  rw [cause]
  have alone : s.waitsAlone b := by
    intro e mem
    rw [quiet] at mem
    cases mem
  exact stopInPhase_alone fits alone (struck_readings _ _) h c 0

theorem contextSample_stops {s : State} {b : Slot} {h : Hole} {c : Cond} (running : (s.boom b).running = some (.active, h))
    (fits : s.fits b = true) (quiet : s.flowQuiet)
    (cause : s.stopCause b (s.activeConds b (h.sampleTimers (s.depth b) s.clock)) = some c) :
    s.StoppedAs (s.contextSample b) b
      ((s.boom b).struck (s.activeConds b (h.sampleTimers (s.depth b) s.clock))) (h.sampleTimers (s.depth b) s.clock) c 0 := by
  rw [contextSample_running running]
  unfold State.cycleSample
  exact takeConds_stops fits quiet cause

theorem contextSample_engage_stops {s : State} {b : Slot} {h : Hole} {c : Cond}
    (running : (s.boom b).running = some (.reEngage, h)) (fits : s.fits b = true) (quiet : s.flowQuiet)
    (cause : s.stopCause b (s.engageConds b) = some c) :
    s.StoppedAs (s.contextSample b) b ((s.boom b).struck (s.engageConds b)) h c 0 := by
  rw [contextSample_running running]
  unfold State.cycleSample
  exact takeConds_stops fits quiet cause

/-! ## Timer events that stop their boom -/

/-- A timer event of a fitted boom, by what it does at the tick falling due, with the entries it places marked (log entry 2). -/
theorem timedEvent_marks {s u : State} {b : Slot} {f : State → State} (fits : s.fits b = true)
    (acts : f (s.atClock (s.clock + 1)) = u) (unhurried : u.link.waiting = [])
    (settled : ({ u with clock := s.clock, arbiter := u.arbiter.markAhead s.arbiter.waitList } : State).settled) :
    s.timedEvent b f =
      ({ u with clock := s.clock, arbiter := u.arbiter.markAhead s.arbiter.waitList } : State).noted.startNext := by
  have due : atDueTick f s = { u with clock := s.clock, arbiter := u.arbiter.markAhead s.arbiter.waitList } := by
    rw [← acts]
    rfl
  unfold State.timedEvent State.boomEvent
  rw [if_pos fits, due]
  exact finish_unhurried unhurried settled

theorem stopped_busy (s : State) (b : Slot) (h : Hole) (c : Cond) (n : Nat) (now : Tick) :
    ((s.stopped b h c n now).boom b).auto ≠ .idle := by
  have own : (s.stopped b h c n now).boom b = s.boomStopped b h c n now := four_get_set_self _ _ _
  rw [own]
  exact Auto.noConfusion

/-- A timer event that stops its boom, when no other requester waits. -/
theorem timedEvent_stops {s : State} {b : Slot} {f : State → State} {h : Hole} {c : Cond} {n : Nat} (fits : s.fits b = true)
    (unhurried : s.unhurried)
    (acts : f (s.atClock (s.clock + 1)) = (s.atClock (s.clock + 1)).stopped b h c n (s.clock + 1)) :
    s.timedEvent b f = (s.stopped b h c n (s.clock + 1)).noted.startNext := by
  have fits' : ((s.atClock (s.clock + 1)).stopped b h c n (s.clock + 1)).fits b = true := fits
  rw [timedEvent_eq fits acts (by nofun) unhurried (settled_of_busy fits' (stopped_busy _ _ _ _ _ _))]
  rfl

theorem flowQuiet_alone {s : State} (quiet : s.flowQuiet) (b : Slot) : s.waitsAlone b := by
  intro e mem
  rw [quiet] at mem
  cases mem

theorem setBoom_self (s : State) (b : Slot) : s.setBoom b (s.boom b) = s := by
  unfold State.setBoom State.boom
  rw [four_set_get]

theorem takeJam_alone {s : State} {b : Slot} {sub : CycleSub} {h : Hole} (fits : s.fits b = true) (alone : s.waitsAlone b)
    (running : (s.boom b).running = some (sub, h)) : s.takeJam b = s.stopped b h .loaderJam 0 s.clock := by
  have running' : ((s.setBoom b (s.boom b).cancelLoader).boom b).running = some (sub, h) := by
    rw [State.setBoom_boom]
    exact running
  unfold State.takeJam
  dsimp only
  rw [running']
  exact stop_alone_eq fits alone h (by decide) 0 rfl

theorem takeMixShort_alone {s : State} {b : Slot} (fits : s.fits b = true) (alone : s.waitsAlone b) (h : Hole) :
    s.takeMixShort b h = s.stopped b h .mixShort (10 * h.resinAge s.clock) s.clock := by
  have stops := stop_alone_eq (y := s.boom b) fits alone h (c := .mixShort) (by decide) (10 * h.resinAge s.clock) rfl
  rwa [setBoom_self] at stops

/-- The timers of a phase that drives nothing timed leave its hole as it is. -/
theorem sampleTimers_plain {h : Hole} (stalls : h.phase.stalls = false) (retracting : h.retracting = false)
    (mixing : h.phase ≠ .mixing) (torquing : h.phase ≠ .torquing) (depth : Nat) (now : Tick) : h.sampleTimers depth now = h := by
  unfold Hole.sampleTimers Hole.stallSample
  rw [if_neg (by simp [stalls])]
  unfold Hole.retractSample
  rw [if_neg (by simp [retracting])]
  unfold Hole.startTimers
  split <;> simp_all

/-! ## The obligations -/

theorem raised_sensor (x : Boom) : x.ranged.seen = x.markSeen.seen ∧
    (x.newlyOut = true →
      x.ranged.current = CondSet.put x.current .sensorRange ∧ x.ranged.accrued = CondSet.put x.accrued .sensorRange ∧
      x.ranged.posted =
        (if CondSet.has x.enabled .sensorRange then CondSet.put x.posted .sensorRange else x.posted)) ∧
    (x.newlyOut = false → x.ranged.current = x.current ∧ x.ranged.accrued = x.accrued ∧ x.ranged.posted = x.posted) := by
  refine ⟨rfl, fun out => ?_, fun calm => ?_⟩
  · have conds : x.rangeConds = [.sensorRange] := by simp [Boom.rangeConds, out]
    unfold Boom.ranged
    rw [conds]
    refine ⟨rfl, rfl, ?_⟩
    show CondSet.putAll x.posted ([Cond.sensorRange].filter (Cond.posts x.enabled)) = _
    by_cases enabled : CondSet.has x.enabled .sensorRange = true
    · rw [if_pos enabled, List.filter_cons_of_pos (by simp [Cond.posts, enabled]; decide)]
      rfl
    · rw [if_neg enabled, List.filter_cons_of_neg (by simp [Cond.posts, enabled])]
      rfl
  · have conds : x.rangeConds = [] := by simp [Boom.rangeConds, calm]
    unfold Boom.ranged
    rw [conds]
    exact ⟨rfl, rfl, rfl⟩

theorem rangeConds_stop_none (s : State) (b : Slot) : s.stopCause b (s.boom b).rangeConds = none := by
  unfold State.stopCause stoppingCause
  rw [List.find?_eq_none]
  intro c _ stops
  simp only [Bool.and_eq_true, List.contains_iff_mem] at stops
  rw [mem_rangeConds stops.1] at stops
  simp [Cond.stops, Cond.isPosted, Cond.priority] at stops

/-- A sample of a waiting boom takes in SENSOR_RANGE alone (R25). -/
theorem contextSample_waiting {s : State} {b : Slot} {sub : CycleSub} {h : Hole} (running : (s.boom b).running = some (sub, h))
    (waits : sub = .waitFlow ∨ sub = .backedOff) : s.contextSample b = s.setBoom b (s.boom b).ranged := by
  rw [contextSample_running running]
  unfold State.cycleSample
  rcases waits with rfl | rfl <;>
  · show s.takeConds b h (s.boom b).rangeConds id = _
    unfold State.takeConds
    rw [rangeConds_stop_none]
    rfl

/-- An ACTIVE sample of a retract drill away from home that no condition stops. -/
theorem contextSample_retracting {s : State} {b : Slot} {h : Hole} (running : (s.boom b).running = some (.active, h))
    (phase : h.phase = .retractDrill) (away : 10 * s.params.homeTolerance < s.depth b)
    (calm : s.stopCause b (s.activeConds b (h.sampleTimers (s.depth b) s.clock)) = none) :
    s.contextSample b =
      s.setBoom b { (s.boom b).ranged with
        auto := .cycle .active (h.sampleTimers (s.depth b) s.clock), feed := -(s.params.retractFeed : Int), rotation := 0 } := by
  have work := sampleTimers_sameWork h (s.depth b) s.clock
  have phase' := work.phase.trans phase
  rw [contextSample_active running calm]
  unfold State.phaseSample
  rw [phase']
  show State.retractDrillSample _ _ _ = _
  unfold State.retractDrillSample
  dsimp only
  rw [drivePhase_setBoom, phase']
  have out : ∀ y : Boom, y.depth = s.depth b → ¬ (s.setBoom b y).atHome b = true := by
    intro y depth home
    have near := of_decide_eq_true home
    rw [depth_setBoom, depth] at near
    exact absurd near (by simpa using away)
  refine Eq.trans (if_neg ?_) rfl
  exact out _ rfl

theorem loadTimeout_stops {b : Slot} {s : State} {sub : CycleSub} {h : Hole} {c : LoaderCmd} {n : Nat} {t : Tick}
    (fits : s.fits b = true) (unhurried : s.unhurried) (alone : s.waitsAlone b) (running : (s.boom b).running = some (sub, h))
    (handshake : (s.boom b).handshake = .outstanding c n t)
    (late : loadLimit s.params c ≤ 10 * ticksSince (s.clock + 1) t) :
    exec (.loadTimeout b) s = .next (s.stopped b h .loaderJam 0 (s.clock + 1)).noted.startNext := by
  have alone' : (s.atClock (s.clock + 1)).waitsAlone b := alone
  refine congrArg Host.Outcome.next (timedEvent_stops fits unhurried ?_)
  have reached : timerReaches (s.clock + 1) (some t) (loadLimit s.params c) = true := ticksReach_of_le late
  unfold State.loadTimer
  rw [atClock_boom, handshake]
  exact (if_pos reached).trans (takeJam_alone (s := s.atClock (s.clock + 1)) fits alone' running)

theorem feedStall_stops {b : Slot} {s : State} {h : Hole}
    (fits : s.fits b = true) (unhurried : s.unhurried) (alone : s.waitsAlone b)
    (running : (s.boom b).running = some (.active, h)) (stalls : h.phase.stalls = true)
    (late : s.params.stallWindow ≤ 10 * (h.stallTicks + 1)) :
    exec (.feedStall b) s = .next (s.stopped b h.stallNext .feedStall 0 (s.clock + 1)).noted.startNext := by
  have alone' : (s.atClock (s.clock + 1)).waitsAlone b := alone
  refine congrArg Host.Outcome.next (timedEvent_stops fits unhurried ?_)
  have conds : h.stallNext.stallConds s.params = [.feedStall] := if_pos ⟨stalls, ticksReach_of_le late⟩
  unfold State.stallDue
  rw [atClock_boom, running]
  dsimp only
  rw [atClock_params, conds]
  exact stopRunning_alone (s := s.atClock (s.clock + 1)) fits alone' h.stallNext rfl

theorem retractTimeout_stops {b : Slot} {s : State} {h : Hole}
    (fits : s.fits b = true) (unhurried : s.unhurried) (alone : s.waitsAlone b)
    (running : (s.boom b).running = some (.active, h)) (moves : h.retractNext.retracting = true)
    (late : s.params.retractTimeout ≤ 10 * (h.retractTicks + 1)) :
    exec (.retractTimeout b) s = .next (s.stopped b h.retractNext .retractTimeout 0 (s.clock + 1)).noted.startNext := by
  have alone' : (s.atClock (s.clock + 1)).waitsAlone b := alone
  refine congrArg Host.Outcome.next (timedEvent_stops fits unhurried ?_)
  have conds : h.retractNext.retractConds s.params = [.retractTimeout] := if_pos ⟨moves, ticksReach_of_le late⟩
  unfold State.retractDue
  rw [atClock_boom, running]
  dsimp only
  rw [atClock_params, conds]
  exact stopRunning_alone (s := s.atClock (s.clock + 1)) fits alone' h.retractNext rfl

theorem mixShort_stops {b : Slot} {s : State} {h : Hole} {t : Tick}
    (fits : s.fits b = true) (unhurried : s.unhurried) (alone : s.waitsAlone b)
    (running : (s.boom b).running = some (.active, h)) (phase : h.phase = .mixing)
    (undone : h.mixDone s.params (s.depth b) = false) (start : h.mixStart = some t)
    (late : h.plan.recipe.mixTimeMax ≤ 10 * ticksSince (s.clock + 1) t) :
    exec (.mixShort b) s =
      .next (s.stopped b h .mixShort (10 * h.resinAge (s.clock + 1)) (s.clock + 1)).noted.startNext := by
  have alone' : (s.atClock (s.clock + 1)).waitsAlone b := alone
  refine congrArg Host.Outcome.next (timedEvent_stops fits unhurried ?_)
  have reached : timerReaches (s.clock + 1) h.mixStart h.plan.recipe.mixTimeMax = true := by
    rw [start]
    exact ticksReach_of_le late
  unfold State.mixDue
  rw [atClock_boom, running]
  exact (if_pos ⟨phase, undone, reached⟩).trans (takeMixShort_alone (s := s.atClock (s.clock + 1)) fits alone' h)

theorem positionLost_stops {b : Slot} {s : State} {sub : CycleSub} {h : Hole}
    (fits : s.fits b = true) (unhurried : s.unhurried) (alone : s.waitsAlone b)
    (running : (s.boom b).running = some (sub, h)) (moving : sub = .active ∨ sub = .reEngage) (lost : (s.boom b).posLoss = 20) :
    exec (.positionLost b) s = .next (s.stopped b h .positionLost 0 (s.clock + 1)).noted.startNext := by
  have alone' : (s.atClock (s.clock + 1)).waitsAlone b := alone
  refine congrArg Host.Outcome.next (timedEvent_stops fits unhurried ?_)
  unfold State.positionDue
  rw [atClock_boom, running]
  rcases moving with rfl | rfl <;> exact (if_pos lost).trans (stopRunning_alone (s := s.atClock (s.clock + 1)) fits alone' h rfl)

/-- A thrust at its ceiling is the cause of a sample's exception when drive-enable and the position are there (R55, R133). -/
theorem overThrust_cause {s : State} {b : Slot} {h : Hole} {v : Nat} (drive : s.drive = some true)
    (kept : (s.boom b).posLoss ≠ 20) (tests : h.phase.testsThrust = true)
    (thrust : (s.boom b).inForce.thrust = some v) (ceiling : h.plan.recipe.thrustCeiling ≤ v) :
    Cond.overThrust ∈ s.activeConds b h ∧ s.stopCause b (s.activeConds b h) = some .overThrust := by
  have mem : Cond.overThrust ∈ s.activeConds b h := by
    have conds : (s.boom b).thrustConds h = [.overThrust] := by
      unfold Boom.thrustConds
      rw [thrust]
      exact if_pos ⟨tests, ceiling⟩
    unfold State.activeConds
    rw [conds]
    simp
  refine ⟨mem, stoppingCause_eq mem rfl (fun d listed => ?_)⟩
  rcases mem_activeConds listed with move | rfl | rfl | rfl | rfl
  · rw [moveConds_driven drive, if_neg kept] at move
    cases move
  all_goals decide

/-- A position-loss run count at 20 is the cause of a moving boom's exception when drive-enable is there (R52, R133). -/
theorem positionLost_sample {s : State} {b : Slot} {sub : CycleSub} {h : Hole} (running : (s.boom b).running = some (sub, h))
    (moving : sub = .active ∨ sub = .reEngage) (fits : s.fits b = true) (quiet : s.flowQuiet) (drive : s.drive = some true)
    (lost : (s.boom b).posLoss = 20) :
    ∃ (g : Hole) (cs : List Cond), Cond.positionLost ∈ cs ∧ Hole.SameWork h g ∧
      s.StoppedAs (s.contextSample b) b ((s.boom b).struck cs) g .positionLost 0 := by
  have move : s.moveConds b = [.positionLost] := (moveConds_driven drive).trans (if_pos lost)
  rcases moving with rfl | rfl
  · have mem : Cond.positionLost ∈ s.activeConds b (h.sampleTimers (s.depth b) s.clock) := by
      unfold State.activeConds
      simp [move]
    refine ⟨_, _, mem, sampleTimers_sameWork h (s.depth b) s.clock, contextSample_stops running fits quiet ?_⟩
    refine stoppingCause_eq mem rfl (fun d listed => ?_)
    rcases mem_activeConds listed with m | rfl | rfl | rfl | rfl
    · rw [move, List.mem_singleton] at m
      rw [m]
    all_goals decide
  · have mem : Cond.positionLost ∈ s.engageConds b := by
      unfold State.engageConds
      simp [move]
    refine ⟨_, _, mem, ⟨rfl, rfl, rfl, rfl, rfl, rfl⟩, contextSample_engage_stops running fits quiet ?_⟩
    refine stoppingCause_eq mem rfl (fun d listed => ?_)
    unfold State.engageConds at listed
    rcases List.mem_append.1 listed with m | m
    · rw [mem_rangeConds m]
      decide
    · rw [move, List.mem_singleton] at m
      rw [m]

theorem retractNext_moves {h : Hole} (moves : h.phase = .retractDrill ∨ (h.phase = .releasing ∧ h.releaseFeeding = true)) :
    h.retractNext.retracting = true := by
  unfold Hole.retracting Hole.retractNext
  rcases moves with p | ⟨p, feeding⟩ <;> dsimp only <;> rw [p]
  exact feeding

theorem stalls_of {p : Phase} (h : p = .collaring ∨ p = .drilling ∨ p = .inserting) : p.stalls = true := by
  rcases h with rfl | rfl | rfl <;> rfl

/-- Settles O11: a timer at its limit raises its condition at the tick falling due, and the condition of the highest priority
among a sample's stops the boom. -/
theorem timersStopTheBoom : Obligations.TimersStopTheBoom := by
  refine ⟨fun b s sub h fits unhurried alone running => ⟨fun c n t handshake late => ?_, fun active phase late => ?_,
    fun active phase late => ?_, fun t active phase undone start late => ?_, fun moving lost => ?_⟩,
    fun s b h v running fits quiet drive kept phase thrust ceiling => ?_,
    fun s b sub h running moving fits quiet drive lost => ?_, fun s b sub h running place => ?_⟩
  · exact loadTimeout_stops fits unhurried alone running handshake (by cases c <;> exact late)
  · exact feedStall_stops fits unhurried alone (active ▸ running) (stalls_of phase) late
  · exact retractTimeout_stops fits unhurried alone (active ▸ running) (retractNext_moves phase) late
  · exact mixShort_stops fits unhurried alone (active ▸ running) phase undone start late
  · exact positionLost_stops fits unhurried alone running moving lost
  · have work := sampleTimers_sameWork h (s.depth b) s.clock
    obtain ⟨mem, cause⟩ := overThrust_cause (h := h.sampleTimers (s.depth b) s.clock) drive kept
      (by rw [work.phase]; rcases phase with p | p | p | p <;> rw [p] <;> rfl) thrust (by rw [work.plan]; exact ceiling)
    have stopped := contextSample_stops running fits quiet cause
    obtain ⟨f, own, kind, causeIs, operand, frame, _, current, _, report⟩ := stopped.context
    refine ⟨_, f, (h.sampleTimers (s.depth b) s.clock).stopped, rfl, stopped.only, by rw [own]; rfl, kind, causeIs, operand,
      frame.trans work.phase, ?_, work.phase, ?_, by rw [own]; rfl, by rw [own]; rfl, by rw [own]; rfl, by rw [own]; rfl, ?_,
      report, stopped.status⟩
    · rw [current]
      simp [Boom.struck, Boom.raise, mem]
    · rw [← work.exceptions]
      rfl
    · rw [stopped.grant, work.phase]
  · obtain ⟨g, cs, mem, work, stopped⟩ := positionLost_sample running moving fits quiet drive lost
    obtain ⟨f, own, kind, causeIs, operand, frame, _, current, _, report⟩ := stopped.context
    refine ⟨_, f, g.stopped, rfl, stopped.only, by rw [own]; rfl, kind, causeIs, operand,
      frame.trans work.phase, ?_, work.phase, ?_, by rw [own]; rfl, by rw [own]; rfl, by rw [own]; rfl, by rw [own]; rfl,
      by rw [own]; rfl, ?_, report, stopped.status⟩
    · rw [current]
      simp [Boom.struck, Boom.raise, mem]
    · rw [← work.exceptions]
      rfl
    · rw [stopped.grant, work.phase]
  · obtain ⟨seen, out, calm⟩ := raised_sensor (s.boom b)
    rcases place with rfl | rfl | ⟨rfl, phase, away, none⟩
    · exact ⟨_, contextSample_waiting running (Or.inl rfl), seen, out, calm⟩
    · exact ⟨_, contextSample_waiting running (Or.inr rfl), seen, out, calm⟩
    · exact ⟨_, contextSample_retracting running phase away none, seen, out, calm⟩

end Sys2Proof.Machine
end

section
/-! SUPPORT. Starvation of a boom that waits alone, and the loader handshake. -/

namespace Sys2Proof.Machine

/-! ## Starvation (R122) -/

/-- The boom with a starved wait counted (R122). -/
def Boom.starved (x : Boom) (sub : CycleSub) (h : Hole) : Boom :=
  { x with
    current := CondSet.put x.current .flowStarved, accrued := CondSet.put x.accrued .flowStarved,
    auto := .cycle sub { h with starves := countUp16 h.starves } }

theorem raise_starved (x : Boom) :
    x.raise [.flowStarved] =
      { x with current := CondSet.put x.current .flowStarved, accrued := CondSet.put x.accrued .flowStarved } := by
  unfold Boom.raise
  rw [List.filter_cons_of_neg (by simp [Cond.posts, Cond.isPosted, Cond.priority])]
  rfl

theorem stopCause_starved (s : State) (b : Slot) :
    s.stopCause b [.flowStarved] = if CondSet.has (s.boom b).enabled .flowStarved then some .flowStarved else none := by
  by_cases enabled : CondSet.has (s.boom b).enabled .flowStarved = true
  · rw [if_pos enabled]
    exact stoppingCause_eq (List.mem_singleton.2 rfl) (by unfold Cond.stops; rw [enabled]; rfl)
      (fun d listed => by rw [List.mem_singleton.1 listed])
  · rw [if_neg enabled]
    unfold State.stopCause stoppingCause
    rw [List.find?_eq_none]
    intro c _ stops
    simp only [Bool.and_eq_true, List.contains_iff_mem, List.mem_singleton] at stops
    obtain ⟨rfl, stops⟩ := stops
    unfold Cond.stops at stops
    simp [enabled, Cond.maskable, Cond.priority] at stops

theorem starveTimer_due {s : State} {b : Slot} {sub : CycleSub} {h : Hole} {e : WaitEntry} (due : Bool)
    (running : (s.boom b).running = some (sub, h)) (alone : s.arbiter.waitList = [e]) (own : e.requester = .boom b)
    (timed : e.cls ≠ .urgent) (late : s.params.waitLimit ≤ 10 * ticksSince s.clock e.waitStart) :
    s.starveTimer b due = s.takeStarved b h (ticksSince s.clock e.waitStart) due := by
  have entry : s.timedEntry b = some e := by
    have found : s.arbiter.entryOf (.boom b) = some e := by
      unfold Arbiter.entryOf
      rw [alone]
      exact List.find?_cons_of_pos (by simp [own])
    unfold State.timedEntry
    rw [found]
    exact if_neg timed
  unfold State.starveTimer
  rw [running, entry]
  exact if_pos (ticksReach_of_le late)

/-- A masked FLOW_STARVED times the wait afresh and counts it (R122). -/
theorem takeStarved_masked {s : State} {b : Slot} {sub : CycleSub} {h : Hole} {e : WaitEntry}
    (running : (s.boom b).running = some (sub, h)) (alone : s.arbiter.waitList = [e]) (own : e.requester = .boom b)
    (masked : CondSet.has (s.boom b).enabled .flowStarved = false) (n : Nat) (due : Bool) :
    s.takeStarved b h n due =
      { s with
        booms := s.booms.set b ((s.boom b).starved sub h)
        arbiter := { s.arbiter with waitList := [{ e with waitStart := s.clock, waitAhead := due }] } } := by
  have retimed : ((s.raise b [.flowStarved]).retime b due).arbiter =
      { s.arbiter with waitList := [{ e with waitStart := s.clock, waitAhead := due }] } := by
    show ({ s.arbiter with waitList := s.arbiter.waitList.map _ } : Arbiter) = _
    rw [alone, List.map_singleton, if_pos own]
    rfl
  have runs : (((s.raise b [.flowStarved]).retime b due).boom b) = (s.boom b).raise [.flowStarved] := four_get_set_self _ _ _
  have counted : ((s.boom b).raise [.flowStarved]).onHole (fun g => { g with starves := countUp16 g.starves }) =
      (s.boom b).starved sub h := by
    unfold Boom.onHole
    rw [raise_starved, show ({ s.boom b with
      current := CondSet.put (s.boom b).current .flowStarved, accrued := CondSet.put (s.boom b).accrued .flowStarved } : Boom).running =
        (s.boom b).running from rfl, running]
    rfl
  unfold State.takeStarved
  rw [stopCause_starved, masked]
  dsimp only
  rw [runs, counted, ← retimed]
  show ({ s with booms := (s.booms.set b _).set b _, arbiter := _ } : State) = _
  rw [four_set_set]

/-- Settles O12: the entry alone in the list is found and timed, and the enable set decides between stopping and waiting on. -/
theorem starvationMaskedOrEnabled : Obligations.StarvationMaskedOrEnabled := by
  intro b s sub h e fits unhurried _ running alone own timed late
  have alone' : (s.atClock (s.clock + 1)).waitsAlone b := by
    intro w mem
    rw [show (s.atClock (s.clock + 1)).arbiter.waitList = [e] from alone, List.mem_singleton] at mem
    rw [mem, own]
  have due := starveTimer_due (s := s.atClock (s.clock + 1)) true running alone own timed late
  refine ⟨fun enabled => ?_, fun masked => ?_⟩
  · refine congrArg Host.Outcome.next (timedEvent_stops fits unhurried (due.trans ?_))
    unfold State.takeStarved
    rw [stopCause_starved, atClock_boom, enabled]
    have stops := stop_alone_eq (s := s.atClock (s.clock + 1)) (y := s.boom b) fits alone' h (c := .flowStarved) rfl
      (10 * ticksSince (s.clock + 1) e.waitStart) rfl
    rwa [← atClock_boom s (s.clock + 1), setBoom_self] at stops
  · have stood : ({ e with waitStart := s.clock + 1, waitAhead := true } : WaitEntry).stoodIn s.arbiter.waitList = true := by
      unfold WaitEntry.stoodIn
      rw [alone]
      simp
    refine congrArg Host.Outcome.next ((timedEvent_marks (s := s) (f := fun t => t.starveTimer b true) fits
      (due.trans (takeStarved_masked (s := s.atClock (s.clock + 1)) running alone own masked _ true)) unhurried ?_).trans ?_)
    · refine settled_of_busy (b := b) fits ?_
      have own : (s.booms.set b ((s.boom b).starved sub h)).get b = (s.boom b).starved sub h := four_get_set_self _ _ _
      exact fun idle => Auto.noConfusion (show Auto.cycle sub _ = .idle from (congrArg Boom.auto own).symm.trans idle)
    · congr 2
      have marked : ({ e with waitStart := s.clock + 1, waitAhead := true } : WaitEntry).markAhead s.arbiter.waitList =
          { e with waitStart := s.clock + 1, waitAhead := true } := if_pos stood
      unfold Arbiter.markAhead
      rw [atClock_clock, List.map_singleton, marked]
      rfl

/-! ## The loader (R58 to R60) -/

theorem boomEvent_eq {s u : State} {b : Slot} {f : State → State} (fits : s.fits b = true) (acts : f s = u)
    (unhurried : u.link.waiting = []) (settled : u.settled) : s.boomEvent b f = u.noted.startNext := by
  unfold State.boomEvent
  rw [if_pos fits, acts]
  exact finish_unhurried unhurried settled

theorem takeDone_outstanding {s : State} {b : Slot} {c : LoaderCmd} {n : Nat} {t : Tick}
    (handshake : (s.boom b).handshake = .outstanding c n t) : s.takeDone b = s.setBoom b ((s.boom b).itemDone c) := by
  unfold State.takeDone
  rw [handshake]

theorem itemDone_push {x : Boom} {sub : CycleSub} {h : Hole} (running : x.running = some (sub, h)) :
    x.itemDone .push = { x with handshake := .none, auto := .cycle sub { h with loaded := h.loaded + 1 } } := by
  show x.cancelLoader.onHole _ = _
  unfold Boom.onHole
  rw [show x.cancelLoader.running = x.running from rfl, running]
  rfl

theorem itemDone_index {x : Boom} {sub : CycleSub} {h : Hole} (running : x.running = some (sub, h)) :
    x.itemDone .index =
      { x with
        handshake := .none, chuck := .closed, auto := .cycle sub { h with indexDone := true, chuckReleased := false } } := by
  show ({ x.cancelLoader.onHole _ with chuck := .closed } : Boom) = _
  unfold Boom.onHole
  rw [show x.cancelLoader.running = x.running from rfl, running]
  rfl

theorem takeFault_first {s : State} {b : Slot} {c : LoaderCmd} {t : Tick} (handshake : (s.boom b).handshake = .outstanding c 1 t) :
    s.takeFault b = s.setBoom b { s.boom b with handshake := .reissueDue c } := by
  unfold State.takeFault
  rw [handshake]
  rfl

theorem takeFault_second {s : State} {b : Slot} {c : LoaderCmd} {t : Tick} (handshake : (s.boom b).handshake = .outstanding c 2 t) :
    s.takeFault b = s.takeJam b := by
  unfold State.takeFault
  rw [handshake]
  rfl

theorem answer_ignored {s : State} {b : Slot} (silent : ∀ c n t, (s.boom b).handshake ≠ .outstanding c n t) :
    s.takeDone b = s ∧ s.takeFault b = s := by
  unfold State.takeDone State.takeFault
  cases handshake : (s.boom b).handshake with
  | none => exact ⟨rfl, rfl⟩
  | outstanding c n t => exact absurd handshake (silent c n t)
  | reissueDue c => exact ⟨rfl, rfl⟩

/-- What a loader phase's sample asks of the loader for a boom just written (R58, R60). -/
theorem loaderSample_setBoom (s : State) (b : Slot) (y : Boom) (cmd : LoaderCmd) :
    ∃ k o, (s.setBoom b y).loaderSample b cmd = s.setBoom b { y with handshake := k, loaderOut := o } ∧
      (y.handshake = .none → k = .outstanding cmd 1 s.clock ∧ o = some cmd) ∧
      (∀ c, y.handshake = .reissueDue c → k = .outstanding c 2 s.clock ∧ o = some c) ∧
      (∀ c n t, y.handshake = .outstanding c n t → k = .outstanding c n t ∧ o = y.loaderOut) := by
  unfold State.loaderSample State.issue
  rw [State.setBoom_boom]
  cases handshake : y.handshake with
  | none => exact ⟨_, _, setBoom_setBoom _ _ _ _, fun _ => ⟨rfl, rfl⟩, nofun, nofun⟩
  | outstanding c n t =>
    refine ⟨.outstanding c n t, y.loaderOut, ?_, nofun, nofun, fun _ _ _ same => ⟨same, rfl⟩⟩
    show s.setBoom b y = s.setBoom b { y with handshake := .outstanding c n t, loaderOut := y.loaderOut }
    rw [← handshake]
  | reissueDue c =>
    refine ⟨_, _, setBoom_setBoom _ _ _ _, nofun, fun d same => ?_, nofun⟩
    cases same
    exact ⟨rfl, rfl⟩

/-- The boom a loader phase's sample drives: feed and rotation 0 (R23). -/
def Boom.atLoader (x : Boom) (h : Hole) : Boom := { x.ranged with auto := .cycle .active h, feed := 0, rotation := 0 }

theorem atLoader_readings (x : Boom) (h : Hole) : Boom.SameReadings x (x.atLoader h) := ⟨rfl, rfl, rfl, rfl, rfl⟩

theorem resinLoad_sample {s : State} {b : Slot} {h : Hole} (running : (s.boom b).running = some (.active, h))
    (calm : s.stopCause b (s.activeConds b (h.sampleTimers (s.depth b) s.clock)) = none) (phase : h.phase = .resinLoad) :
    s.contextSample b =
      if h.loaded = h.planned.getD 0 then (s.setBoom b ((s.boom b).atLoader h)).cross b h
      else (s.setBoom b ((s.boom b).atLoader h)).loaderSample b .push := by
  have plain := sampleTimers_plain (h := h) (by rw [phase]; rfl) (by unfold Hole.retracting; rw [phase])
    (by rw [phase]; decide) (by rw [phase]; decide) (s.depth b) s.clock
  rw [contextSample_active running calm, plain]
  unfold State.phaseSample
  rw [phase]
  show State.resinLoadSample _ _ _ = _
  unfold State.resinLoadSample
  dsimp only
  rw [drivePhase_setBoom, phase]
  rfl

theorem boltLoad_sample {s : State} {b : Slot} {h : Hole} (running : (s.boom b).running = some (.active, h))
    (calm : s.stopCause b (s.activeConds b (h.sampleTimers (s.depth b) s.clock)) = none) (phase : h.phase = .boltLoad) :
    s.contextSample b =
      if h.indexDone then (s.setBoom b ((s.boom b).atLoader h)).cross b h
      else (s.setBoom b { (s.boom b).atLoader h with chuck := .opened }).loaderSample b .index := by
  have plain := sampleTimers_plain (h := h) (by rw [phase]; rfl) (by unfold Hole.retracting; rw [phase])
    (by rw [phase]; decide) (by rw [phase]; decide) (s.depth b) s.clock
  rw [contextSample_active running calm, plain]
  unfold State.phaseSample
  rw [phase]
  show State.boltLoadSample _ _ _ = _
  unfold State.boltLoadSample
  dsimp only
  rw [drivePhase_setBoom, phase, State.setBoom_boom, setBoom_setBoom]
  rfl

theorem setBoom_busy {s : State} {b : Slot} {x : Boom} {sub : CycleSub} {h : Hole} (fits : s.fits b = true)
    (auto : x.auto = .cycle sub h) : (s.setBoom b x).settled :=
  settled_of_busy (b := b) fits (by rw [State.setBoom_boom, auto]; exact Auto.noConfusion)

/-- A loader phase done, with nothing posted, enters the next phase. -/
theorem atLoader_crosses {s : State} {b : Slot} {h : Hole} {p : Phase} (running : (s.boom b).running = some (.active, h))
    (quiet : s.flowQuiet) (drive : s.drive = some true) (heard : s.link.silent = false) (posted : (s.boom b).posted = 0)
    (masked : CondSet.has (s.boom b).enabled .sensorRange = false) (next : h.phase.next = some p)
    (direct : p.reEngages = false) (phase : ∀ k : Hole, (k.enter p s.clock).phase = p) :
    ∃ g, s.PhaseEntered ((s.setBoom b ((s.boom b).atLoader h)).cross b h) b h g p ∧
      s.OnlyBoom ((s.setBoom b ((s.boom b).atLoader h)).cross b h) b ∧
      (g = (h.enter p s.clock).startMotion (s.depth b) ∨ g = { h.enter p s.clock with torqueRun := [] }) := by
  obtain ⟨level, _⟩ := running_context running
  have via : (h.enter p s.clock).viaReEngage = false := by
    unfold Hole.viaReEngage
    rw [phase, direct]
    rfl
  have unposted : ((s.boom b).atLoader h).posted = 0 := (ranged_posted masked).trans posted
  obtain ⟨g, entered, only, _, _, _, hole⟩ :=
    cross_setBoom_enters next (atLoader_readings (s.boom b) h) level unposted quiet drive heard via
  exact ⟨g, entered, only, hole⟩

/-- Settles O10: the answer meets the handshake, and a loader phase's sample asks for its item or crosses its boundary. -/
theorem loaderAnswers : Obligations.LoaderAnswers := by
  refine ⟨fun b s fits unhurried => ⟨fun sub h n t running handshake => ?_, fun sub h n t running handshake => ?_,
    fun c t settled handshake => ?_, fun c t sub h alone running handshake => ?_, fun settled silent => ?_⟩,
    fun s b h cmd running calm asks => ?_,
    fun s b h running calm quiet drive heard posted masked => ⟨fun phase full => ?_, fun phase done => ?_⟩⟩
  · exact congrArg Host.Outcome.next (boomEvent_eq fits ((takeDone_outstanding handshake).trans
      (congrArg _ (itemDone_push running))) unhurried (setBoom_busy fits rfl))
  · exact congrArg Host.Outcome.next (boomEvent_eq fits ((takeDone_outstanding handshake).trans
      (congrArg _ (itemDone_index running))) unhurried (setBoom_busy fits rfl))
  · exact congrArg Host.Outcome.next (boomEvent_eq fits (takeFault_first handshake) unhurried (setBoom_settled settled rfl rfl))
  · exact congrArg Host.Outcome.next (boomEvent_eq fits ((takeFault_second handshake).trans (takeJam_alone fits alone running))
      unhurried (settled_of_busy (s := s.stopped b h .loaderJam 0 s.clock) fits (stopped_busy _ _ _ _ _ _)))
  · obtain ⟨done, fault⟩ := answer_ignored silent
    exact ⟨congrArg Host.Outcome.next (boomEvent_eq fits done unhurried settled),
      congrArg Host.Outcome.next (boomEvent_eq fits fault unhurried settled)⟩
  · rcases asks with ⟨rfl, phase, short⟩ | ⟨rfl, phase, missing⟩
    · obtain ⟨k, o, sampled, fresh, again, stands⟩ := loaderSample_setBoom s b ((s.boom b).atLoader h) .push
      exact ⟨_, (resinLoad_sample running calm phase).trans ((if_neg short).trans sampled), rfl, rfl, rfl, fun _ => rfl, nofun,
        fresh, again _, stands, ⟨rfl, rfl, rfl, rfl, rfl⟩⟩
    · obtain ⟨k, o, sampled, fresh, again, stands⟩ :=
        loaderSample_setBoom s b { (s.boom b).atLoader h with chuck := .opened } .index
      exact ⟨_, (boltLoad_sample running calm phase).trans ((if_neg (by simp [missing])).trans sampled), rfl, rfl, rfl, nofun,
        fun _ => rfl, fresh, again _, stands, ⟨rfl, rfl, rfl, rfl, rfl⟩⟩
  · obtain ⟨g, entered, only, hole⟩ := atLoader_crosses (p := .boltLoad) running quiet drive heard posted masked
      (by rw [phase]; rfl) rfl (fun _ => rfl)
    rw [← (resinLoad_sample running calm phase).trans (if_pos full)] at entered only
    exact ⟨_, g, rfl, only, entered, by rcases hole with e | e <;> rw [e] <;> rfl, by rcases hole with e | e <;> rw [e] <;> rfl⟩
  · obtain ⟨g, entered, only, hole⟩ := atLoader_crosses (p := .inserting) running quiet drive heard posted masked
      (by rw [phase]; rfl) rfl (fun _ => rfl)
    rw [← (boltLoad_sample running calm phase).trans (if_pos done)] at entered only
    exact ⟨_, g, rfl, only, entered, by rcases hole with e | e <;> rw [e] <;> rfl⟩

end Sys2Proof.Machine
end

section
/-! SUPPORT. A change of drive-enable, as it is read, seen from each boom (R57). -/

namespace Sys2Proof.Machine

/-- The part with drive-enable read at a level. -/
def State.withDrive (s : State) (level : Bool) : State := { s with drive := some level }

@[simp] theorem withDrive_boom (s : State) (level : Bool) (b : Slot) : (s.withDrive level).boom b = s.boom b := rfl
@[simp] theorem withDrive_grant (s : State) (level : Bool) (b : Slot) : (s.withDrive level).grant b = s.grant b := rfl

theorem withDrive_lists (s : State) (level : Bool) : State.SameLists s (s.withDrive level) := ⟨rfl, rfl, rfl, rfl⟩

/-! ## What a CHUCK output at rest leaves of a boom's memory -/

theorem shownChuck_rest {s : State} (dead : s.lineDrive = false) (b : Slot) : s.shownChuck b = .none := by
  have rest : s.outputs b = Outputs.rest := if_pos (Or.inr (Or.inr dead))
  unfold State.shownChuck
  rw [rest]
  split <;> rfl

theorem noted_boom_rest {s : State} (dead : s.lineDrive = false) (b : Slot) : s.noted.boom b = s.boom b := by
  rw [noted_boom, shownChuck_rest dead]
  rfl

theorem lineDrive_absent {s : State} (line : s.driveLine = some false) : s.lineDrive = false := by
  unfold State.lineDrive
  rw [line]

theorem outputs_rest {s : State} (line : s.driveLine = some false) (b : Slot) : s.outputs b = Outputs.rest :=
  if_pos (Or.inr (Or.inr (lineDrive_absent line)))

/-! ## Acts that reach a boom through the arbiter alone -/

/-- A predicate of a state that an evaluation keeps: it looks at boom `b`, which is not an eligible holder, and at what is the
same in every evaluation. -/
structure Steady (b : Slot) (K : State → Prop) : Prop where
  others : ∀ {t u : State}, K t → t.SameBooks u → Untouched b t u → K u
  award : ∀ {t : State} {q : Bool} {e : WaitEntry}, K t → e.requester = .boom b → e ∈ t.arbiter.waitList → K (t.awardEntry q e)
  holder : ∀ {t : State}, K t → t.backable b = false

theorem Steady.backOffUntil {b : Slot} {K : State → Prop} (steady : Steady b K) (need : Nat) (rs : List Requester) {t : State}
    (h : K t) : K (State.backOffUntil need rs t) :=
  steady.others h (State.SameBooks.backOffUntil need rs t) (backOffUntil_untouched need rs t (steady.holder h))

theorem Steady.evaluateWith {b : Slot} {K : State → Prop} (steady : Steady b K) (q : Bool) (n : Nat) {t : State} (h : K t) :
    K (State.evaluateWith q n t) := by
  induction n generalizing t with
  | zero => exact h
  | succ n ih =>
    cases list : t.arbiter.waitList with
    | nil => rwa [evaluateWith_nil list]
    | cons e es =>
      unfold State.evaluateWith
      rw [list]
      dsimp only
      split
      · refine ih ?_
        by_cases own : e.requester = .boom b
        · exact steady.award h own (by rw [list]; exact List.mem_cons_self)
        · exact steady.others h (State.SameBooks.awardEntry t q e) (awardEntry_untouched q own)
      · split
        · exact ih (steady.backOffUntil _ _ h)
        · exact h

theorem Steady.evaluate {b : Slot} {K : State → Prop} (steady : Steady b K) {t : State} (h : K t) : K t.evaluate :=
  steady.evaluateWith _ _ h

/-! ## A fall that is read -/

theorem driveOn_false {s : State} (drive : s.drive ≠ some true) : s.driveOn = false := by
  rw [← Bool.not_eq_true, driveOn_iff]
  exact drive

theorem moveAbandon_held {s : State} (drive : s.drive ≠ some true) (b : Slot) (h : Hole) :
    s.moveAbandon b h = s.changeBoom b { s.boom b with auto := .abandoning .driveHeld h, feed := 0, rotation := 0 } := by
  unfold State.moveAbandon
  rw [driveOn_false drive]
  rfl

theorem moveRetract_held {s : State} (drive : s.drive ≠ some true) (b : Slot) (r : RetractCtx) :
    s.moveRetract b r =
      s.changeBoom b { s.boom b with retract := some { r with sub := .driveHeld }, feed := 0, rotation := 0 } := by
  unfold State.moveRetract
  rw [driveOn_false drive]
  rfl

theorem changeBoom_arbiter (s : State) (b : Slot) (x : Boom) : (s.changeBoom b x).arbiter = s.arbiter := by
  unfold State.changeBoom State.queueStatus
  repeat' split
  all_goals rfl

theorem moveAbandon_arbiter (s : State) (b : Slot) (h : Hole) : (s.moveAbandon b h).arbiter = s.arbiter := by
  unfold State.moveAbandon
  dsimp only
  split <;> exact changeBoom_arbiter _ _ _

theorem moveRetract_arbiter (s : State) (b : Slot) (r : RetractCtx) : (s.moveRetract b r).arbiter = s.arbiter := by
  unfold State.moveRetract
  dsimp only
  split <;> exact changeBoom_arbiter _ _ _

theorem moveAbandon_untouched {s : State} {b c : Slot} (other : b ≠ c) (h : Hole) : Untouched b s (s.moveAbandon c h) := by
  unfold State.moveAbandon
  dsimp only
  split <;> exact changeBoom_untouched _ other

theorem moveRetract_untouched {s : State} {b c : Slot} (other : b ≠ c) (r : RetractCtx) : Untouched b s (s.moveRetract c r) := by
  unfold State.moveRetract
  dsimp only
  split <;> exact changeBoom_untouched _ other

theorem stopBoom_quiet {s : State} (quiet : s.flowQuiet) (b : Slot) (h : Hole) (k : FrameKind) (c : Cond) (n : Nat)
    (p q : Phase) : (s.stopBoom b h k c n p q).flowQuiet := by
  have reduced : ∀ u : State, u.flowQuiet → ∀ m, (u.reduceBoom b m).flowQuiet := by
    intro u none m
    unfold State.flowQuiet
    rw [reduceBoom_waitList, none]
    rfl
  have queued : ∀ (u : State) f, u.flowQuiet → (u.queueException b f).flowQuiet := by
    intro u f none
    unfold State.queueException
    split <;> exact none
  have shown : ∀ u : State, u.flowQuiet → (u.queueStatus b).flowQuiet := by
    intro u none
    unfold State.queueStatus
    split <;> exact none
  unfold State.stopBoom
  refine shown _ (queued _ _ (reduced _ ?_ _))
  unfold State.flowQuiet
  rw [changeBoom_arbiter]
  exact quiet

/-- What an act on one boom is, seen from the others: it writes that boom, and then, where flow is given back, the arbiter
evaluates. -/
structure ActsOn (c : Slot) (t u v : State) : Prop where
  books : t.SameBooks u
  others : ∀ b, b ≠ c → Untouched b t u
  quiet : t.flowQuiet → u.flowQuiet
  then_ : v = u ∨ v = u.evaluate

theorem ActsOn.self (c : Slot) (t : State) : ActsOn c t t t :=
  ⟨State.SameBooks.refl t, fun b _ => Untouched.refl b t, id, Or.inl rfl⟩

theorem setBoom_acts (t : State) (c : Slot) (x : Boom) : ActsOn c t (t.setBoom c x) (t.setBoom c x) :=
  ⟨State.SameBooks.setBoom t c x, fun _ other => setBoom_untouched x other, id, Or.inl rfl⟩

theorem stopRunning_acts (t : State) (c : Slot) (h : Hole) (d : Cond) :
    ActsOn c t ((t.raise c [d]).stopInPhase c h d 0) (t.stopRunning c h d) :=
  ⟨(State.SameBooks.stopInPhase _ _ _ _ _).after (State.SameBooks.raise t c _),
    fun _ other => (stopBoom_untouched other _ _ _ _ _ _).after (setBoom_untouched _ other),
    fun none => stopBoom_quiet (s := t.raise c [d]) none _ _ _ _ _ _ _, Or.inr rfl⟩

theorem moveAbandon_acts (t : State) (c : Slot) (h : Hole) : ActsOn c t (t.moveAbandon c h) (t.moveAbandon c h) :=
  ⟨State.SameBooks.moveAbandon t c h, fun _ other => moveAbandon_untouched other h,
    fun none => (congrArg Arbiter.waitList (moveAbandon_arbiter t c h)).trans none, Or.inl rfl⟩

theorem moveRetract_acts (t : State) (c : Slot) (r : RetractCtx) : ActsOn c t (t.moveRetract c r) (t.moveRetract c r) :=
  ⟨State.SameBooks.moveRetract t c r, fun _ other => moveRetract_untouched other r,
    fun none => (congrArg Arbiter.waitList (moveRetract_arbiter t c r)).trans none, Or.inl rfl⟩

theorem driveFell_acts (t : State) (c : Slot) : ∃ u, ActsOn c t u (t.driveFell c) := by
  unfold State.driveFell
  split
  · split
    · exact ⟨_, moveRetract_acts t c _⟩
    · exact ⟨_, ActsOn.self c t⟩
  · exact ⟨_, setBoom_acts t c _⟩
  · exact ⟨_, stopRunning_acts t c _ _⟩
  · exact ⟨_, stopRunning_acts t c _ _⟩
  · exact ⟨_, moveAbandon_acts t c _⟩
  · exact ⟨_, ActsOn.self c t⟩

theorem ActsOn.sameBooks {c : Slot} {t u v : State} (acts : ActsOn c t u v) : t.SameBooks v := by
  rcases acts.then_ with rfl | rfl
  · exact acts.books
  · exact acts.books.trans (State.SameBooks.evaluate u)

/-- With nobody waiting, an act on one boom leaves the others alone. -/
theorem ActsOn.untouched {b c : Slot} {t u v : State} (acts : ActsOn c t u v) (other : b ≠ c) (none : t.flowQuiet) :
    Untouched b t v ∧ v.flowQuiet := by
  have quiet := acts.quiet none
  rcases acts.then_ with rfl | rfl
  · exact ⟨acts.others b other, quiet⟩
  · rw [evaluate_nil quiet]
    exact ⟨acts.others b other, quiet⟩

theorem ActsOn.steady {b c : Slot} {t u v : State} {K : State → Prop} (acts : ActsOn c t u v) (steady : Steady b K) (other : b ≠ c)
    (h : K t) : K v := by
  have moved := steady.others h acts.books (acts.others b other)
  rcases acts.then_ with rfl | rfl
  · exact moved
  · exact steady.evaluate moved

theorem State.SameBooks.driveFell (t : State) (c : Slot) : t.SameBooks (t.driveFell c) := by
  obtain ⟨u, acts⟩ := driveFell_acts t c
  exact acts.sameBooks

theorem fits_of_books {s t : State} (h : s.SameBooks t) (b : Slot) : t.fits b = s.fits b := by
  unfold State.fits
  rw [h.store.params]

/-- A fall that is read, seen from a boom that no grant moves off (R28, R57). -/
theorem fall_steady {s : State} {b : Slot} {K L : State → Prop} (before : Steady b K) (after : Steady b L) (fit : s.fits b = true)
    (own : ∀ t, K t → L (t.driveFell b)) (start : K s) : L (forFitted (fun c t => t.driveFell c) s) := by
  refine forFitted_reaches (R := K) (Q := L) (fun c t => fits_of_books (State.SameBooks.driveFell t c) b) (fun c t other h => ?_)
    own (fun c t other h => ?_) fit start
  · obtain ⟨u, acts⟩ := driveFell_acts t c
    exact acts.steady before other.symm h
  · obtain ⟨u, acts⟩ := driveFell_acts t c
    exact acts.steady after other.symm h

/-- How a boom stands in a state, with nobody waiting, that a sweep over the booms has brought from another. -/
structure StandsAs (s t : State) (b : Slot) (x : Boom) (g : Nat) : Prop where
  books : s.SameBooks t
  quiet : t.flowQuiet
  boom : t.boom b = x
  grant : t.grant b = g

theorem StandsAs.untouched {s t u : State} {b : Slot} {x : Boom} {g : Nat} (h : StandsAs s t b x g) (books : t.SameBooks u)
    (kept : Untouched b t u) (quiet : u.flowQuiet) : StandsAs s u b x g :=
  ⟨h.books.trans books, quiet, kept.boom.trans h.boom, kept.grant.trans h.grant⟩

/-- The same when nobody waits: each boom comes to its own part of the fall and to nothing else. -/
theorem fall_quiet {s : State} {b : Slot} {x : Boom} {g : Nat} (quiet : s.flowQuiet) (fit : s.fits b = true)
    (own : ∀ t, StandsAs s t b (s.boom b) (s.grant b) → StandsAs s (t.driveFell b) b x g) :
    StandsAs s (forFitted (fun c t => t.driveFell c) s) b x g := by
  have other : ∀ y n c t, c ≠ b → StandsAs s t b y n → StandsAs s (t.driveFell c) b y n := by
    intro y n c t ne h
    obtain ⟨u, acts⟩ := driveFell_acts t c
    obtain ⟨kept, still⟩ := acts.untouched ne.symm h.quiet
    exact h.untouched acts.sameBooks kept still
  exact forFitted_reaches (fun c t => fits_of_books (State.SameBooks.driveFell t c) b) (other _ _) own (other _ _) fit
    ⟨State.SameBooks.refl s, quiet, rfl, rfl⟩

end Sys2Proof.Machine
end

section
/-! SUPPORT. A fall of drive-enable as it is read, by the context of a boom (R28, R47, R57). -/

namespace Sys2Proof.Machine

/-! ## The part of one boom in a fall -/

theorem driveFell_retracting {s : State} {b : Slot} {r : RetractCtx} (retract : (s.boom b).retract = some r)
    (active : r.sub = .active) : s.driveFell b = s.moveRetract b r := by
  unfold State.driveFell
  rw [retract]
  dsimp only
  rw [active]

theorem driveFell_resting {s : State} {b : Slot} {r : RetractCtx} (retract : (s.boom b).retract = some r)
    (still : r.sub ≠ .active) : s.driveFell b = s := by
  unfold State.driveFell
  rw [retract]
  dsimp only
  split
  · exact absurd ‹_› still
  · rfl

theorem driveFell_manual {s : State} {b : Slot} {m : ManualCtx} (retract : (s.boom b).retract = none)
    (manual : (s.boom b).manual = some m) : s.driveFell b = s.setBoom b ((s.boom b).stopManual m) := by
  unfold State.driveFell
  rw [retract, manual]

theorem driveFell_moving {s : State} {b : Slot} {sub : CycleSub} {h : Hole} (level : (s.boom b).level = 0)
    (auto : (s.boom b).auto = .cycle sub h) (moving : sub = .active ∨ sub = .reEngage) :
    s.driveFell b = s.stopRunning b h .driveLost := by
  obtain ⟨retract, manual⟩ := level_zero level
  unfold State.driveFell
  rw [retract, manual, auto]
  rcases moving with rfl | rfl <;> rfl

theorem driveFell_abandoning {s : State} {b : Slot} {h : Hole} (level : (s.boom b).level = 0)
    (auto : (s.boom b).auto = .abandoning .active h) : s.driveFell b = s.moveAbandon b h := by
  obtain ⟨retract, manual⟩ := level_zero level
  unfold State.driveFell
  rw [retract, manual, auto]

/-- A level-0 context that does not move. -/
def Auto.stands (a : Auto) : Bool :=
  match a with
  | .cycle .active _ => false
  | .cycle .reEngage _ => false
  | .abandoning .active _ => false
  | _ => true

theorem driveFell_stands {s : State} {b : Slot} (level : (s.boom b).level = 0) (stands : (s.boom b).auto.stands = true) :
    s.driveFell b = s := by
  obtain ⟨retract, manual⟩ := level_zero level
  unfold State.driveFell
  cases auto : (s.boom b).auto with
  | cycle sub h =>
    rw [auto] at stands
    rw [retract, manual]
    cases sub with
    | active => cases stands
    | reEngage => cases stands
    | waitFlow => rfl
    | backedOff => rfl
  | abandoning sub h =>
    rw [auto] at stands
    rw [retract, manual]
    cases sub with
    | active => cases stands
    | waitFlow => rfl
    | driveHeld => rfl
  | idle => rw [retract, manual]
  | exception f h => rw [retract, manual]
  | logWait r => rw [retract, manual]
  | observing p => rw [retract, manual]

theorem stands_of {a : Auto} (cycle : ∀ sub h, a ≠ .cycle sub h) (moving : ∀ h, a ≠ .abandoning .active h) :
    a.stands = true := by
  match a with
  | .idle => rfl
  | .cycle sub h => exact absurd rfl (cycle sub h)
  | .exception _ _ => rfl
  | .abandoning .active h => exact absurd rfl (moving h)
  | .abandoning .waitFlow _ => rfl
  | .abandoning .driveHeld _ => rfl
  | .logWait _ => rfl
  | .observing _ => rfl

/-! ## With nobody waiting -/

theorem boomStopped_congr {s t : State} {b : Slot} (boom : t.boom b = s.boom b) (h : Hole) (c : Cond) (n : Nat) (now : Tick) :
    t.boomStopped b h c n now = s.boomStopped b h c n now := by
  unfold State.boomStopped State.frameAt
  rw [boom]

theorem grantStopped_congr {s t : State} {b : Slot} (books : s.SameBooks t) (grant : t.grant b = s.grant b) (p : Phase) :
    t.grantStopped b p = s.grantStopped b p := by
  unfold State.grantStopped
  rw [grant, books.store.params]

theorem drive_of_books {s t : State} {level : Bool} (h : (s.withDrive level).SameBooks t) : t.drive = some level := h.store.drive

theorem fell_moving {s t : State} {b : Slot} {sub : CycleSub} {h : Hole} (fit : s.fits b = true)
    (running : (s.boom b).running = some (sub, h)) (moving : sub = .active ∨ sub = .reEngage)
    (at_ : StandsAs s t b (s.boom b) (s.grant b)) :
    StandsAs s (t.driveFell b) b (s.boomStopped b h .driveLost 0 s.clock) (s.grantStopped b h.phase) := by
  obtain ⟨level, auto⟩ := running_context running
  have fit' := (fits_of_books at_.books b).trans fit
  rw [driveFell_moving (by rw [at_.boom]; exact level) (by rw [at_.boom]; exact auto) moving,
    stopRunning_alone fit' (flowQuiet_alone at_.quiet b) h rfl]
  refine ⟨?_, rfl, ?_, ?_⟩
  · refine at_.books.trans ?_
    constructor <;> constructor <;> rfl
  · refine (four_get_set_self _ _ _).trans ?_
    rw [boomStopped_congr at_.boom, at_.books.store.clock]
  · exact (four_get_set_self _ _ _).trans (grantStopped_congr at_.books at_.grant _)

theorem standsAs_stays {s t : State} {b : Slot} {x : Boom} {g : Nat} (at_ : StandsAs s t b x g) (same : t.driveFell b = t) :
    StandsAs s (t.driveFell b) b x g := by rwa [same]

theorem standsAs_changeBoom {s t : State} {b : Slot} {x : Boom} {g : Nat} (at_ : StandsAs s t b x g) (y : Boom) :
    StandsAs s (t.changeBoom b y) b y g :=
  ⟨at_.books.trans (State.SameBooks.changeBoom t b y), (congrArg Arbiter.waitList (changeBoom_arbiter t b y)).trans at_.quiet,
    changeBoom_boom t b y, (congrArg (fun a => a.grants.get b) (changeBoom_arbiter t b y)).trans at_.grant⟩

theorem standsAs_setBoom {s t : State} {b : Slot} {x : Boom} {g : Nat} (at_ : StandsAs s t b x g) (y : Boom) :
    StandsAs s (t.setBoom b y) b y g :=
  ⟨at_.books.trans (State.SameBooks.setBoom t b y), at_.quiet, State.setBoom_boom t b y, at_.grant⟩

/-! ## With requesters waiting -/

/-- Where a fall can leave a boom that may be told of a grant: as it was, with its grant as it was, or in a context that no grant
moves any more. -/
structure Fallen (s t : State) (b : Slot) (after : Boom → Prop) : Prop where
  drive : t.drive = some false
  boom : (t.boom b = s.boom b ∧ t.grant b = s.grant b) ∨ after (t.boom b)

theorem backable_not_running {s : State} {b : Slot} (h : ∀ k, (s.boom b).running ≠ some (.active, k)) : s.backable b = false := by
  rw [← Bool.not_eq_true]
  intro backable
  obtain ⟨k, running, _⟩ := backable_running backable
  exact h k running

/-- A boom that can be told once: the telling brings it where no telling and no back-off reaches it. -/
theorem fallen_steady {s : State} {b : Slot} {after : Boom → Prop} (start : ∀ h, (s.boom b).running ≠ some (.active, h))
    (end_ : ∀ x, after x → ∀ h, x.running ≠ some (.active, h))
    (told : ∀ (t : State) q, t.drive = some false → t.boom b = s.boom b → after ((t.tell q (.boom b)).boom b))
    (deaf : ∀ (t : State) q, after (t.boom b) → (t.tell q (.boom b)).boom b = t.boom b) : Steady b (fun t => Fallen s t b after) where
  others := fun h books kept =>
    ⟨books.store.drive.trans h.drive, by rw [kept.boom, kept.grant]; exact h.boom⟩
  award := fun {t q e} h own _ => by
    refine ⟨(State.SameBooks.awardEntry t q e).store.drive.trans h.drive, Or.inr ?_⟩
    unfold State.awardEntry
    rw [own]
    rcases h.boom with ⟨boom, _⟩ | there
    · exact told { t with arbiter := t.arbiter.award e } q h.drive boom
    · have same := deaf { t with arbiter := t.arbiter.award e } q there
      rw [same]
      exact there
  holder := fun h => by
    refine backable_not_running ?_
    rcases h.boom with ⟨boom, _⟩ | there
    · rw [boom]; exact start
    · exact end_ _ there

/-- A boom in no context that a grant moves. -/
def Boom.deaf (x : Boom) : Prop := ∀ (t : State) (q : Bool) (b : Slot), t.boom b = x → t.tell q (.boom b) = t

theorem deaf_of_auto {x : Boom} (level : x.level = 0) (cycle : ∀ sub h, x.auto ≠ .cycle sub h)
    (waits : ∀ h, x.auto ≠ .abandoning .waitFlow h) : x.deaf := by
  rintro t q b rfl
  obtain ⟨retract, manual⟩ := level_zero level
  unfold State.tell
  dsimp only
  rw [retract, manual]
  generalize (t.boom b).auto = a at cycle waits
  match a with
  | .idle => rfl
  | .cycle sub h => exact absurd rfl (cycle sub h)
  | .exception _ _ => rfl
  | .abandoning .active _ => rfl
  | .abandoning .waitFlow h => exact absurd rfl (waits h)
  | .abandoning .driveHeld _ => rfl
  | .logWait _ => rfl
  | .observing _ => rfl

theorem deaf_of_retract {x : Boom} {r : RetractCtx} (retract : x.retract = some r) (still : r.sub ≠ .waitFlow) : x.deaf := by
  rintro t q b rfl
  unfold State.tell
  dsimp only
  rw [retract]
  dsimp only
  split
  · exact absurd ‹_› still
  · rfl

theorem startFaults_cause {s : State} (drive : s.drive ≠ some true) (b : Slot) : s.stopCause b s.startFaults = some .driveLost := by
  have faults : s.startFaults = [Cond.driveLost] ++ (if s.link.silent then [Cond.linkSilent] else []) := by
    unfold State.startFaults
    rw [driveOn_false drive]
    rfl
  refine stoppingCause_eq (by rw [faults]; exact List.mem_cons_self) rfl (fun d _ => ?_)
  cases d <;> decide

/-- A cycle told of its grant without drive-enable is stopped by the motion-start check (R28). -/
theorem tell_waiting {t : State} {b : Slot} {sub : CycleSub} {h : Hole} (drive : t.drive ≠ some true) (level : (t.boom b).level = 0)
    (auto : (t.boom b).auto = .cycle sub h) (waits : sub = .waitFlow ∨ sub = .backedOff) (q : Bool) :
    ∃ f, (t.tell q (.boom b)).boom b = { ((t.boom b).raise t.startFaults).still.cancelLoader with auto := .exception f h.stopped } ∧
      f.kind = .inPhase ∧ f.cause = .driveLost ∧ f.operand = 0 ∧ f.phase = h.phase := by
  obtain ⟨retract, manual⟩ := level_zero level
  have start : t.tell q (.boom b) = (t.raise b t.startFaults).stopInPhase b h .driveLost 0 := by
    have told : t.tell q (.boom b) = t.startCycle b h false := by
      unfold State.tell
      dsimp only
      rw [retract, manual, auto]
      rcases waits with rfl | rfl <;> rfl
    rw [told]
    unfold State.startCycle
    rw [startFaults_cause drive]
  rw [start]
  unfold State.stopInPhase
  rw [stopBoom_boom]
  unfold State.raise
  rw [State.setBoom_boom]
  exact ⟨_, rfl, rfl, rfl, rfl, rfl⟩

theorem tell_abandoning {t : State} {b : Slot} {h : Hole} (drive : t.drive ≠ some true) (level : (t.boom b).level = 0)
    (auto : (t.boom b).auto = .abandoning .waitFlow h) (q : Bool) :
    (t.tell q (.boom b)).boom b = { t.boom b with auto := .abandoning .driveHeld h, feed := 0, rotation := 0 } := by
  obtain ⟨retract, manual⟩ := level_zero level
  have told : t.tell q (.boom b) = t.moveAbandon b h := by
    unfold State.tell
    dsimp only
    rw [retract, manual, auto]
  rw [told, moveAbandon_held drive, changeBoom_boom]

theorem tell_retract {t : State} {b : Slot} {r : RetractCtx} (drive : t.drive ≠ some true) (retract : (t.boom b).retract = some r)
    (waits : r.sub = .waitFlow) (q : Bool) :
    (t.tell q (.boom b)).boom b =
      { t.boom b with retract := some { r with sub := .driveHeld }, feed := 0, rotation := 0 } := by
  have told : t.tell q (.boom b) = t.moveRetract b r := by
    unfold State.tell
    dsimp only
    rw [retract]
    dsimp only
    rw [waits]
  rw [told, moveRetract_held drive, changeBoom_boom]

theorem tell_manual {t : State} {b : Slot} {m : ManualCtx} (retract : (t.boom b).retract = none)
    (manual : (t.boom b).manual = some m) (q : Bool) :
    (t.tell q (.boom b)).boom b = { t.boom b with manual := some { m with sub := .ready } } := by
  have told : t.tell q (.boom b) = t.changeBoom b { t.boom b with manual := some { m with sub := .ready } } := by
    unfold State.tell
    dsimp only
    rw [retract, manual]
  rw [told, changeBoom_boom]

/-- A boom that no grant moves stays as it is, and keeps its grant when it has no entry. -/
theorem deaf_steady {s : State} {b : Slot} (deaf : (s.boom b).deaf) (holds : ∀ h, (s.boom b).running ≠ some (.active, h)) :
    Steady b (fun t => t.boom b = s.boom b ∧ (s.entryless b → t.entryless b ∧ t.grant b = s.grant b)) where
  others := fun h _ kept =>
    ⟨kept.boom.trans h.1, fun none => ⟨kept.entry (h.2 none).1, kept.grant.trans (h.2 none).2⟩⟩
  award := fun {t q e} h own mem => by
    have same : (t.awardEntry q e).boom b = t.boom b := by
      unfold State.awardEntry
      rw [own]
      exact (congrArg (fun u => State.boom u b) (deaf { t with arbiter := t.arbiter.award e } q b h.1)).trans rfl
    exact ⟨same.trans h.1, fun none => absurd own ((h.2 none).1 e mem)⟩
  holder := fun h => backable_not_running (by rw [h.1]; exact holds)

theorem entryless_of_none {s : State} {b : Slot} (none : s.arbiter.entryOf (.boom b) = none) : s.entryless b := by
  unfold Arbiter.entryOf at none
  rw [List.find?_eq_none] at none
  intro e mem own
  exact none e mem (by simp [own])

end Sys2Proof.Machine
end

section
/-! SUPPORT. A fall of drive-enable: the command, and the samples without it. -/

namespace Sys2Proof.Machine

/-! ## The fall as a command -/

/-- The part after a fall that has been read has reached every boom. -/
def State.fallen (s : State) : State := forFitted (fun b t => t.driveFell b) (s.withDrive false)

theorem fallen_books (s : State) : (s.withDrive false).SameBooks s.fallen :=
  State.SameBooks.fitted (fun b t => State.SameBooks.driveFell t b) _

/-- What follows a fall that is read leaves it: the outputs are dead, so no memory of a CHUCK output changes. -/
theorem exec_fall_read {s : State} (drive : s.drive = some true) (line : s.driveLine = some false) (unhurried : s.fallen.unhurried)
    (requested : s.requested = none) :
    ∃ t, exec .driveEnableFall s = .next t ∧ s.fallen.SameBooks t ∧ (∀ b, t.boom b = s.fallen.boom b) ∧
      (∀ b, t.grant b = s.fallen.grant b) ∧ t.drive = some false ∧ t.driveLine = some false := by
  have books := fallen_books s
  have ran : exec .driveEnableFall s = .next s.fallen.noted.startNext := by
    refine congrArg Host.Outcome.next ?_
    rw [driveFall_read line drive]
    exact finish_unhurried unhurried (Or.inl (books.store.requested.trans requested))
  have line' : s.fallen.driveLine = some false := books.store.driveLine.trans line
  have finished := State.SameBooks.finished (State.SameBooks.refl s.fallen)
  refine ⟨_, ran, finished, fun b => ?_, fun b => ?_, ?_, ?_⟩
  · rw [startNext_boom, noted_boom_rest (lineDrive_absent line')]
  · rw [startNext_grant]
    unfold State.grant
    rw [noted_arbiter]
  · exact finished.store.drive.trans books.store.drive
  · exact finished.store.driveLine.trans line'

theorem fallen_unhurried {s : State} (unhurried : s.unhurried) : s.fallen.unhurried := by
  have kept : Kept (s.withDrive false) s.fallen := forFitted_kept (fun b t => driveFell_kept t b) _
  exact kept.waiting.trans unhurried

/-- With nobody waiting, a boom comes to its own part of the fall. -/
theorem fallen_quiet {s : State} {b : Slot} {x : Boom} {g : Nat} (quiet : s.flowQuiet) (fit : s.fits b = true)
    (own : ∀ t, StandsAs (s.withDrive false) t b (s.boom b) (s.grant b) → StandsAs (s.withDrive false) (t.driveFell b) b x g) :
    s.fallen.boom b = x ∧ s.fallen.grant b = g := by
  have stands := fall_quiet (s := s.withDrive false) quiet fit own
  exact ⟨stands.boom, stands.grant⟩

/-- The fall when nobody waits (R47, R57, R141, R157, R162). -/
theorem fall_with_nobody_waiting {s : State} {b : Slot} (quiet : s.flowQuiet) (fit : s.fits b = true) :
    (∀ sub h, (s.boom b).running = some (sub, h) → sub = .active ∨ sub = .reEngage →
      s.fallen.boom b = s.boomStopped b h .driveLost 0 s.clock ∧ s.fallen.grant b = s.grantStopped b h.phase) ∧
    (∀ h, (s.boom b).level = 0 → (s.boom b).auto = .abandoning .active h →
      s.fallen.boom b = { s.boom b with auto := .abandoning .driveHeld h, feed := 0, rotation := 0 } ∧
      s.fallen.grant b = s.grant b) ∧
    (∀ m, (s.boom b).level = 1 → (s.boom b).manual = some m →
      s.fallen.boom b = { s.boom b with feed := 0, rotation := 0, manual := some { m with hold := none } } ∧
      s.fallen.grant b = s.grant b) ∧
    (∀ r, (s.boom b).retract = some r → r.sub = .active →
      s.fallen.boom b = { s.boom b with retract := some { r with sub := .driveHeld }, feed := 0, rotation := 0 } ∧
      s.fallen.grant b = s.grant b) ∧
    ((s.boom b).level = 0 → (s.boom b).auto.stands = true → s.fallen.boom b = s.boom b ∧ s.fallen.grant b = s.grant b) ∧
    (∀ r, (s.boom b).retract = some r → r.sub ≠ .active → s.fallen.boom b = s.boom b ∧ s.fallen.grant b = s.grant b) := by
  have absent : ∀ {t x g}, StandsAs (s.withDrive false) t b x g → t.drive ≠ some true := by
    intro t x g at_
    rw [drive_of_books at_.books]
    decide
  refine ⟨fun sub h running moving => fallen_quiet quiet fit fun t at_ => fell_moving fit running moving at_,
    fun h level auto => fallen_quiet quiet fit fun t at_ => ?_, fun m level manual => fallen_quiet quiet fit fun t at_ => ?_,
    fun r retract active => fallen_quiet quiet fit fun t at_ => ?_,
    fun level stands => fallen_quiet quiet fit fun t at_ => standsAs_stays at_ (driveFell_stands (by rw [at_.boom]; exact level)
      (by rw [at_.boom]; exact stands)),
    fun r retract still => fallen_quiet quiet fit fun t at_ => standsAs_stays at_ (driveFell_resting (by rw [at_.boom]; exact retract) still)⟩
  · rw [driveFell_abandoning (by rw [at_.boom]; exact level) (by rw [at_.boom]; exact auto), moveAbandon_held (absent at_), at_.boom]
    exact standsAs_changeBoom at_ _
  · rw [driveFell_manual (by rw [at_.boom]; exact (level_one level).1) (by rw [at_.boom]; exact manual), at_.boom]
    exact standsAs_setBoom at_ _
  · rw [driveFell_retracting (by rw [at_.boom]; exact retract) active, moveRetract_held (absent at_), at_.boom]
    exact standsAs_changeBoom at_ _

/-- A boom that waits, after a fall: as it was, or told of flow it may not move with (R28). -/
theorem fallen_told {s : State} {b : Slot} {after : Boom → Prop} (fit : s.fits b = true)
    (steady : Steady b (fun t => Fallen (s.withDrive false) t b after))
    (rests : ∀ t : State, t.boom b = s.boom b → t.driveFell b = t) (stays : ∀ t : State, after (t.boom b) → t.driveFell b = t) :
    (s.fallen.boom b = s.boom b ∧ s.fallen.grant b = s.grant b) ∨ after (s.fallen.boom b) := by
  refine (fall_steady (s := s.withDrive false) steady steady fit (fun t h => ?_) ⟨rfl, Or.inl ⟨rfl, rfl⟩⟩).boom
  have same : t.driveFell b = t := by
    rcases h.boom with ⟨boom, _⟩ | there
    · exact rests t boom
    · exact stays t there
  rwa [same]

/-- How a cycle that waited stands once the motion-start check has stopped it (R28). -/
structure Boom.HeldBack (x : Boom) (h : Hole) (y : Boom) : Prop where
  level : y.level = 0
  frame : ∃ f g, y.auto = .exception f g ∧ f.kind = .inPhase ∧ f.cause = .driveLost ∧ f.operand = 0 ∧ f.phase = h.phase ∧
    g.phase = h.phase
  still : y.feed = 0 ∧ y.rotation = 0 ∧ y.handshake = .none ∧ y.chuck = x.chuck

theorem Boom.HeldBack.deaf {x y : Boom} {h : Hole} (held : x.HeldBack h y) : y.deaf := by
  obtain ⟨f, g, auto, _⟩ := held.frame
  exact deaf_of_auto held.level (by simp [auto]) (by simp [auto])

theorem Boom.deaf.told {x : Boom} (deaf : x.deaf) {t : State} {b : Slot} (same : t.boom b = x) (q : Bool) :
    (t.tell q (.boom b)).boom b = t.boom b := by rw [deaf t q b same]

theorem running_none {x : Boom} (h : ∀ sub k, x.auto ≠ .cycle sub k) (sub : CycleSub) (k : Hole) : x.running ≠ some (sub, k) :=
  fun running => h sub k (running_context running).2

theorem running_none_of_level {x : Boom} (h : x.level ≠ 0) (sub : CycleSub) (k : Hole) : x.running ≠ some (sub, k) :=
  fun running => h (running_context running).1

theorem fallen_waiting {s : State} {b : Slot} {sub : CycleSub} {h : Hole} (fit : s.fits b = true)
    (running : (s.boom b).running = some (sub, h)) (waits : sub = .waitFlow ∨ sub = .backedOff) :
    (s.fallen.boom b = s.boom b ∧ s.fallen.grant b = s.grant b) ∨ (s.boom b).HeldBack h (s.fallen.boom b) := by
  obtain ⟨level, auto⟩ := running_context running
  refine fallen_told fit (fallen_steady (fun k r => ?_) (fun x held => ?_) (fun t q drive boom => ?_)
    (fun t q held => held.deaf.told rfl q)) (fun t boom => ?_) (fun t held => ?_)
  · have same : some (sub, h) = some (.active, k) := running.symm.trans r
    injection same with same
    injection same with same
    rcases waits with rfl | rfl <;> cases same
  · obtain ⟨f, g, exceptional, _⟩ := held.frame
    exact running_none (by simp [exceptional]) _
  · rw [withDrive_boom] at boom
    obtain ⟨f, told, kind, cause, operand, phase⟩ := tell_waiting (by rw [drive]; decide) (by rw [boom]; exact level)
      (by rw [boom]; exact auto) waits q
    rw [told]
    refine ⟨(level_same rfl rfl).trans ((congrArg Boom.level boom).trans level), ⟨f, _, rfl, kind, cause, operand, phase, rfl⟩,
      rfl, rfl, rfl, ?_⟩
    show (t.boom b).chuck = (s.boom b).chuck
    rw [boom]
  · refine driveFell_stands (by rw [boom]; exact level) ?_
    rw [boom, auto]
    rcases waits with rfl | rfl <;> rfl
  · obtain ⟨f, g, exceptional, _⟩ := held.frame
    exact driveFell_stands held.level (by rw [exceptional]; rfl)

/-- An abandon retract held for want of drive-enable (R47). -/
def Boom.abandonHeld (x : Boom) (h : Hole) : Boom := { x with auto := .abandoning .driveHeld h, feed := 0, rotation := 0 }

theorem abandonHeld_auto (x : Boom) (h : Hole) : (x.abandonHeld h).auto = .abandoning .driveHeld h := rfl

theorem abandonHeld_level (x : Boom) (h : Hole) : (x.abandonHeld h).level = x.level := rfl

/-- A safety retract held for want of drive-enable (R161). -/
def Boom.retractHeld (x : Boom) (r : RetractCtx) : Boom :=
  { x with retract := some { r with sub := .driveHeld }, feed := 0, rotation := 0 }

theorem retractHeld_retract (x : Boom) (r : RetractCtx) : (x.retractHeld r).retract = some { r with sub := .driveHeld } := rfl

/-- A takeover told of its flow (R155). -/
def Boom.readied (x : Boom) (m : ManualCtx) : Boom := { x with manual := some { m with sub := .ready } }

theorem readied_manual (x : Boom) (m : ManualCtx) : (x.readied m).manual = some { m with sub := .ready } := rfl

theorem readied_retract (x : Boom) (m : ManualCtx) : (x.readied m).retract = x.retract := rfl

theorem fallen_abandoning {s : State} {b : Slot} {h : Hole} (fit : s.fits b = true) (level : (s.boom b).level = 0)
    (auto : (s.boom b).auto = .abandoning .waitFlow h) :
    (s.fallen.boom b = s.boom b ∧ s.fallen.grant b = s.grant b) ∨
      s.fallen.boom b = (s.boom b).abandonHeld h := by
  have deaf : ((s.boom b).abandonHeld h).deaf :=
    deaf_of_auto ((abandonHeld_level _ _).trans level) (by simp [abandonHeld_auto]) (by simp [abandonHeld_auto])
  refine fallen_told (after := fun x => x = (s.boom b).abandonHeld h) fit
    (fallen_steady (running_none (by simp [auto]) _) (fun x held => ?_) (fun t q drive boom => ?_)
      (fun t q held => deaf.told held q)) (fun t boom => ?_) (fun t held => ?_)
  · rw [held]
    exact running_none (by simp [abandonHeld_auto]) _
  · rw [withDrive_boom] at boom
    rw [tell_abandoning (by rw [drive]; decide) (by rw [boom]; exact level) (by rw [boom]; exact auto), boom]
    rfl
  · exact driveFell_stands (by rw [boom]; exact level) (by rw [boom, auto]; rfl)
  · exact driveFell_stands (by rw [held]; exact level) (by rw [held]; rfl)

theorem fallen_retract {s : State} {b : Slot} {r : RetractCtx} (fit : s.fits b = true) (retract : (s.boom b).retract = some r)
    (waits : r.sub = .waitFlow) :
    (s.fallen.boom b = s.boom b ∧ s.fallen.grant b = s.grant b) ∨ s.fallen.boom b = (s.boom b).retractHeld r := by
  have deaf : ((s.boom b).retractHeld r).deaf := deaf_of_retract (retractHeld_retract _ _) (by simp)
  refine fallen_told (after := fun x => x = (s.boom b).retractHeld r) fit
    (fallen_steady (running_none_of_level (by rw [withDrive_boom, level_two retract]; decide) _) (fun x held => ?_)
      (fun t q drive boom => ?_) (fun t q held => deaf.told held q)) (fun t boom => ?_) (fun t held => ?_)
  · rw [held]
    exact running_none_of_level (by rw [level_two (retractHeld_retract _ _)]; decide) _
  · rw [withDrive_boom] at boom
    rw [tell_retract (by rw [drive]; decide) (by rw [boom]; exact retract) waits, boom]
    rfl
  · exact driveFell_resting (by rw [boom]; exact retract) (by rw [waits]; decide)
  · exact driveFell_resting (by rw [held]; exact retractHeld_retract _ _) (by simp)

theorem readied_steady {u : State} {b : Slot} {m : ManualCtx} (retract : (u.boom b).retract = none)
    (manual : (u.boom b).manual = some m) : Steady b (fun t => Fallen u t b (fun x => x = (u.boom b).readied m)) := by
  refine fallen_steady (running_none_of_level (by rw [level_of_manual retract manual]; decide) _) (fun x held => ?_)
    (fun t q drive boom => ?_) (fun t q held => ?_)
  · rw [held]
    exact running_none_of_level (by rw [level_of_manual ((readied_retract _ _).trans retract) (readied_manual _ _)]; decide) _
  · rw [tell_manual (by rw [boom]; exact retract) (by rw [boom]; exact manual), boom]
    rfl
  · rw [tell_manual (by rw [held]; exact retract) (by rw [held]; exact readied_manual _ _), held]
    rfl

/-- A takeover told of its flow before the fall reaches it, or after. -/
theorem fallen_manual {s : State} {b : Slot} {m : ManualCtx} (fit : s.fits b = true) (level : (s.boom b).level = 1)
    (manual : (s.boom b).manual = some m) :
    s.fallen.boom b = (s.boom b).stopManual m ∨ s.fallen.boom b = (s.boom b).stopManual { m with sub := .ready } := by
  have retract := (level_one level).1
  have stopped : ((s.withDrive false).setBoom b ((s.boom b).stopManual m)).boom b = (s.boom b).stopManual m :=
    State.setBoom_boom _ _ _
  have after := readied_steady (u := (s.withDrive false).setBoom b ((s.boom b).stopManual m)) (m := { m with hold := none })
    (by rw [stopped]; exact retract) (by rw [stopped]; rfl)
  rw [stopped] at after
  have reached := fall_steady (s := s.withDrive false) (readied_steady (u := s.withDrive false) retract manual) after fit
    (fun t h => ?_) ⟨(rfl : (s.withDrive false).drive = _), Or.inl ⟨rfl, rfl⟩⟩
  · rcases reached.boom with ⟨boom, _⟩ | ready
    · exact Or.inl (boom.trans stopped)
    · exact Or.inr ready
  · rcases h.boom with ⟨boom, grant⟩ | ready
    · rw [withDrive_boom] at boom
      rw [driveFell_manual (by rw [boom]; exact retract) (by rw [boom]; exact manual), boom]
      exact ⟨h.drive, Or.inl ⟨(State.setBoom_boom _ _ _).trans stopped.symm, grant⟩⟩
    · rw [withDrive_boom] at ready
      rw [driveFell_manual (by rw [ready]; exact retract) (by rw [ready]; exact readied_manual _ _), ready]
      exact ⟨h.drive, Or.inr (State.setBoom_boom _ _ _)⟩

theorem fallen_deaf {s : State} {b : Slot} (fit : s.fits b = true) (deaf : (s.boom b).deaf)
    (holds : ∀ h, (s.boom b).running ≠ some (.active, h)) (rests : ∀ t : State, t.boom b = s.boom b → t.driveFell b = t) :
    s.fallen.boom b = s.boom b ∧ (s.arbiter.entryOf (.boom b) = none → s.fallen.grant b = s.grant b) := by
  have steady := deaf_steady (s := s.withDrive false) deaf holds
  obtain ⟨boom, grant⟩ := fall_steady (s := s.withDrive false) steady steady fit (fun t h => by rw [rests t h.1]; exact h)
    ⟨rfl, fun none => ⟨none, rfl⟩⟩
  exact ⟨boom, fun none => (grant (entryless_of_none none)).2⟩

/-! ## Samples without drive-enable -/

theorem contextSample_retract {s : State} {b : Slot} {r : RetractCtx} (retract : (s.boom b).retract = some r) :
    s.contextSample b = s.retractSample b r := by
  unfold State.contextSample
  rw [retract]

theorem contextSample_manual {s : State} {b : Slot} {m : ManualCtx} (level : (s.boom b).level = 1)
    (manual : (s.boom b).manual = some m) : s.contextSample b = s.manualSample b m := by
  unfold State.contextSample
  rw [(level_one level).1, manual]

theorem contextSample_abandoning {s : State} {b : Slot} {sub : AbandonSub} {h : Hole} (level : (s.boom b).level = 0)
    (auto : (s.boom b).auto = .abandoning sub h) : s.contextSample b = s.abandonSample b sub h := by
  obtain ⟨retract, manual⟩ := level_zero level
  unfold State.contextSample
  rw [retract, manual, auto]

theorem contextSample_still {s : State} {b : Slot} (drive : s.drive ≠ some true) (level : (s.boom b).level = 0)
    (cycle : ∀ sub h, (s.boom b).auto ≠ .cycle sub h) (moving : ∀ h, (s.boom b).auto ≠ .abandoning .active h)
    (observing : ∀ p, (s.boom b).auto ≠ .observing p) : s.contextSample b = s := by
  obtain ⟨retract, manual⟩ := level_zero level
  cases auto : (s.boom b).auto with
  | cycle sub h => exact absurd auto (cycle sub h)
  | observing p => exact absurd auto (observing p)
  | abandoning sub h =>
    rw [contextSample_abandoning level auto]
    cases sub with
    | active => exact absurd auto (moving h)
    | waitFlow => rfl
    | driveHeld => exact if_neg (by rw [driveOn_false drive]; decide)
  | idle => unfold State.contextSample; rw [retract, manual, auto]
  | exception f h => unfold State.contextSample; rw [retract, manual, auto]
  | logWait r => unfold State.contextSample; rw [retract, manual, auto]

theorem retractSample_still {s : State} {b : Slot} {r : RetractCtx} (drive : s.drive ≠ some true) (still : r.sub ≠ .active) :
    s.retractSample b r = s := by
  unfold State.retractSample
  split
  · exact absurd ‹_› still
  · exact if_neg (by rw [driveOn_false drive]; decide)
  · rfl
  · rfl

/-- One boom written, with its readings as they were. -/
theorem changeBoom_onlyBoom {s : State} {b : Slot} {x : Boom} (readings : Boom.SameReadings (s.boom b) x) :
    s.OnlyBoom (s.changeBoom b x) b where
  store := (State.SameBooks.changeBoom s b x).store
  lists := (State.SameBooks.changeBoom s b x).lists
  booms := fun _ other => changeBoom_boom_of_ne s x other
  grants := fun c _ => congrArg (fun a => a.grants.get c) (changeBoom_arbiter s b x)
  reserve := congrArg Arbiter.reserve (changeBoom_arbiter s b x)
  readings := by rw [changeBoom_boom]; exact readings

theorem changeBoom_grant (s : State) (b c : Slot) (x : Boom) : (s.changeBoom b x).grant c = s.grant c :=
  congrArg (fun a => a.grants.get c) (changeBoom_arbiter s b x)

/-- A moving cycle's sample without drive-enable stops it on DRIVE_LOST, before anything else is seen (R133, R141). -/
theorem driveLost_sample {s : State} {b : Slot} {sub : CycleSub} {h : Hole} (running : (s.boom b).running = some (sub, h))
    (moving : sub = .active ∨ sub = .reEngage) (fits : s.fits b = true) (quiet : s.flowQuiet) (drive : s.drive ≠ some true) :
    ∃ (g : Hole) (cs : List Cond), Cond.driveLost ∈ cs ∧ Hole.SameWork h g ∧
      s.StoppedAs (s.contextSample b) b ((s.boom b).struck cs) g .driveLost 0 := by
  have move : Cond.driveLost ∈ s.moveConds b := by
    unfold State.moveConds
    rw [driveOn_false drive]
    exact List.mem_cons_self
  have first : ∀ {cs : List Cond}, Cond.driveLost ∈ cs → s.stopCause b cs = some .driveLost :=
    fun mem => stoppingCause_eq mem rfl (fun d _ => by cases d <;> decide)
  rcases moving with rfl | rfl
  · have mem : Cond.driveLost ∈ s.activeConds b (h.sampleTimers (s.depth b) s.clock) := by
      unfold State.activeConds
      simp [move]
    exact ⟨_, _, mem, sampleTimers_sameWork h (s.depth b) s.clock, contextSample_stops running fits quiet (first mem)⟩
  · have mem : Cond.driveLost ∈ s.engageConds b := List.mem_append_right _ move
    exact ⟨_, _, mem, ⟨rfl, rfl, rfl, rfl, rfl, rfl⟩, contextSample_engage_stops running fits quiet (first mem)⟩

/-- The part after a fall of the input itself (R57, R62). -/
def State.lineFallen (s : State) : State := s.setDriveLine false

theorem lineFallen_boom {s : State} {b : Slot} (fits : s.fits b = true) :
    s.lineFallen.boom b = { s.boom b with loaderOut := none } := by
  obtain ⟨bs, fell, booms⟩ := setDriveLine_booms s false
  unfold State.lineFallen
  rw [fell]
  exact (booms b).trans (if_pos ⟨rfl, fits⟩)

theorem lineFallen_settled {s : State} (settled : s.settled) : s.lineFallen.settled := by
  obtain ⟨bs, fell, booms⟩ := setDriveLine_booms s false
  unfold State.lineFallen
  rw [fell]
  refine settled_of_same (s := s) settled rfl (fun _ => rfl) (fun b => ?_)
  have same : (bs.get b).auto = (s.boom b).auto ∧ (bs.get b).level = (s.boom b).level := by
    rw [booms b]
    split <;> exact ⟨rfl, rfl⟩
  show (decide ((bs.get b).auto = .idle) && decide ((bs.get b).level = 0) && decide (s.grant b = 0)) = _
  rw [same.1, same.2]
  rfl

/-- A fall of the input itself: the outputs are dead and a loader command on the harness is lost (R57, R62). -/
theorem exec_fall_line {s : State} (unhurried : s.unhurried) (settled : s.settled) (line : s.driveLine ≠ some false) :
    exec .driveEnableFall s = .next s.lineFallen.noted.startNext ∧
      State.SameStore { s with driveLine := some false } s.lineFallen.noted.startNext ∧
      State.SameLists s s.lineFallen.noted.startNext ∧ s.lineFallen.noted.startNext.arbiter = s.arbiter ∧
      (∀ b, s.lineFallen.noted.startNext.outputs b = Outputs.rest) ∧
      ∀ b, s.fits b = true → s.lineFallen.noted.startNext.boom b = { s.boom b with loaderOut := none } := by
  obtain ⟨bs, fell, booms⟩ := setDriveLine_booms s false
  have store : State.SameStore { s with driveLine := some false } s.lineFallen := by
    unfold State.lineFallen
    rw [fell]
    exact ⟨rfl, rfl, rfl, rfl, rfl, rfl, rfl, rfl, rfl, rfl⟩
  have lists : State.SameLists s s.lineFallen := by
    unfold State.lineFallen
    rw [fell]
    exact ⟨rfl, rfl, rfl, rfl⟩
  have arbiter : s.lineFallen.arbiter = s.arbiter := by
    unfold State.lineFallen
    rw [fell]
  have waiting : s.lineFallen.link.waiting = [] := by
    unfold State.lineFallen
    rw [fell]
    exact unhurried
  have finished := State.SameBooks.finished (State.SameBooks.refl s.lineFallen)
  refine ⟨congrArg Host.Outcome.next ?_, store.trans finished.store, lists.trans finished.lists, ?_, fun b => ?_, fun b fits => ?_⟩
  · rw [driveFall_line line]
    exact finish_unhurried waiting (lineFallen_settled settled)
  · rw [startNext_arbiter, noted_arbiter, arbiter]
  · exact outputs_rest (finished.store.driveLine.trans store.driveLine) b
  · rw [startNext_boom, noted_boom_rest (lineDrive_absent store.driveLine), lineFallen_boom fits]

/-- Settles O7: the fall as it is read reaches every boom in turn, and an evaluation on the way can only hold back what waits. -/
theorem driveFallStopsMotion : Obligations.DriveFallStopsMotion := by
  refine ⟨fun s drive line quiet unhurried requested => ?_, fun s drive line unhurried requested => ?_,
    fun s unhurried settled => ⟨fun line known => ?_, fun line => ⟨_, exec_fall_line unhurried settled line⟩⟩,
    fun s b drive => ⟨fun sub h fits quiet running moving => ?_, fun sub h running waits => ?_, fun h level auto => ?_,
      fun m level manual => ?_, fun r retract active => ?_, contextSample_still drive, fun r retract still => ?_⟩⟩
  · obtain ⟨t, ran, books, booms, grants, drive', line'⟩ := exec_fall_read drive line (fallen_unhurried unhurried) requested
    have all := (fallen_books s).trans books
    refine ⟨t, ran, drive', line', all.store, (withDrive_lists s false).trans all.lists, outputs_rest line', ?_⟩
    simp only [booms, grants]
    refine ⟨fun b sub h fits => (fall_with_nobody_waiting quiet fits).1 sub h, fun b sub h fits running waits => ?_,
      fun b h fits => (fall_with_nobody_waiting quiet fits).2.1 h, fun b m fits => (fall_with_nobody_waiting quiet fits).2.2.1 m,
      fun b r fits => (fall_with_nobody_waiting quiet fits).2.2.2.1 r,
      fun b fits level cycle moving => (fall_with_nobody_waiting quiet fits).2.2.2.2.1 level (stands_of cycle moving),
      fun b r fits => (fall_with_nobody_waiting quiet fits).2.2.2.2.2 r⟩
    obtain ⟨level, auto⟩ := running_context running
    exact (fall_with_nobody_waiting quiet fits).2.2.2.2.1 level (by rw [auto]; rcases waits with rfl | rfl <;> rfl)
  · obtain ⟨t, ran, books, booms, grants, drive', line'⟩ := exec_fall_read drive line (fallen_unhurried unhurried) requested
    have all := (fallen_books s).trans books
    refine ⟨t, ran, drive', line', all.store, (withDrive_lists s false).trans all.lists, outputs_rest line', ?_⟩
    simp only [booms, grants]
    refine ⟨fun b sub h fits running waits => ?_, fun b h fits => fallen_abandoning fits, fun b r fits => fallen_retract fits,
      fun b m fits => fallen_manual fits, fun b fits level cycle moving waits => ?_, fun b r fits retract rests => ?_⟩
    · rcases fallen_waiting fits running waits with same | held
      · exact Or.inl same
      · obtain ⟨f, g, auto, kind, cause, operand, phase, hole⟩ := held.frame
        obtain ⟨feed, rotation, handshake, chuck⟩ := held.still
        exact Or.inr ⟨f, g, auto, kind, cause, operand, phase, hole, feed, rotation, handshake, chuck⟩
    · exact fallen_deaf fits (deaf_of_auto level cycle waits) (running_none cycle _)
        (fun t boom => driveFell_stands (by rw [boom]; exact level) (by rw [boom]; exact stands_of cycle moving))
    · have still : r.sub ≠ .active := by rcases rests with e | e <;> rw [e] <;> decide
      have dry : r.sub ≠ .waitFlow := by rcases rests with e | e <;> rw [e] <;> decide
      exact fallen_deaf fits (deaf_of_retract retract dry) (running_none_of_level (by rw [level_two retract]; decide) _)
        (fun t boom => driveFell_resting (by rw [boom]; exact retract) still)
  · refine congrArg Host.Outcome.next ?_
    have same : s.driveFall = s := (if_pos line).trans (readDrive_same (level := false) known _)
    rw [same]
    exact finish_unhurried unhurried settled
  · obtain ⟨g, cs, mem, work, stopped⟩ := driveLost_sample running moving fits quiet drive
    obtain ⟨f, own, kind, cause, operand, frame, _, current, _, report⟩ := stopped.context
    refine ⟨_, f, g.stopped, rfl, stopped.only, by rw [own]; rfl, kind, cause, operand, frame.trans work.phase, ?_, work.phase, ?_,
      by rw [own]; rfl, by rw [own]; rfl, by rw [own]; rfl, by rw [own]; rfl, by rw [own]; rfl, ?_, report, stopped.status⟩
    · rw [current]
      simp [Boom.struck, Boom.raise, mem]
    · rw [← work.exceptions]
      rfl
    · rw [stopped.grant, work.phase]
  · exact ⟨_, contextSample_waiting running waits, (running_context running).2, rfl, rfl, rfl⟩
  · have held : s.contextSample b = s.changeBoom b ((s.boom b).abandonHeld h) :=
      (contextSample_abandoning level auto).trans ((if_neg (by rw [driveOn_false drive]; decide)).trans (moveAbandon_held drive b h))
    rw [held]
    exact ⟨changeBoom_boom _ _ _, changeBoom_grant _ _ _ _, changeBoom_onlyBoom ⟨rfl, rfl, rfl, rfl, rfl⟩⟩
  · rw [contextSample_manual level manual]
    exact if_neg (by rw [driveOn_false drive]; decide)
  · have held : s.contextSample b = s.changeBoom b ((s.boom b).retractHeld r) := by
      rw [contextSample_retract retract]
      unfold State.retractSample
      rw [active]
      exact (if_neg (by rw [driveOn_false drive]; decide)).trans (moveRetract_held drive b r)
    rw [held]
    exact ⟨changeBoom_boom _ _ _, changeBoom_grant _ _ _ _, changeBoom_onlyBoom ⟨rfl, rfl, rfl, rfl, rfl⟩⟩
  · rw [contextSample_retract retract]
    exact retractSample_still drive still

end Sys2Proof.Machine
end

section
/-! SUPPORT. A return of drive-enable (R47, R57, R162). -/

namespace Sys2Proof.Machine

theorem moveAbandon_driven {s : State} (drive : s.drive = some true) (b : Slot) (h : Hole) :
    s.moveAbandon b h =
      s.changeBoom b { s.boom b with
        auto := .abandoning .active { h with retractTicks := 0 }, feed := -(s.params.retractFeed : Int), rotation := 0 } :=
  if_pos ((driveOn_iff s).2 drive)

theorem moveRetract_driven {s : State} (drive : s.drive = some true) (b : Slot) (r : RetractCtx) :
    s.moveRetract b r =
      s.changeBoom b { s.boom b with
        retract := some { r with sub := .active, ticks := 0 }, feed := -(s.params.retractFeed : Int), rotation := 0 } :=
  if_pos ((driveOn_iff s).2 drive)

theorem driveCame_retract {s : State} {b : Slot} {r : RetractCtx} (retract : (s.boom b).retract = some r)
    (held : r.sub = .driveHeld) : s.driveCame b = s.moveRetract b r := by
  unfold State.driveCame
  rw [retract]
  dsimp only
  rw [held]

theorem driveCame_abandoning {s : State} {b : Slot} {h : Hole} (level : (s.boom b).level = 0)
    (auto : (s.boom b).auto = .abandoning .driveHeld h) : s.driveCame b = s.moveAbandon b h := by
  obtain ⟨retract, manual⟩ := level_zero level
  unfold State.driveCame
  rw [retract, manual, auto]

theorem driveCame_other {s : State} {b : Slot} (retracts : ∀ r, (s.boom b).retract = some r → r.sub ≠ .driveHeld)
    (abandons : ∀ h, (s.boom b).level = 0 → (s.boom b).auto ≠ .abandoning .driveHeld h) : s.driveCame b = s := by
  unfold State.driveCame
  split
  · next r retract =>
    split
    · next held => exact absurd held (retracts r retract)
    · rfl
  · next h retract manual auto => exact absurd auto (abandons h (level_of_contexts retract manual))
  · rfl

/-- What a return does to one boom: nothing, or one write of it. -/
theorem driveCame_cases (s : State) (c : Slot) : s.driveCame c = s ∨ ∃ x, s.driveCame c = s.changeBoom c x := by
  unfold State.driveCame State.moveRetract State.moveAbandon
  repeat' split
  exacts [Or.inr ⟨_, rfl⟩, Or.inr ⟨_, rfl⟩, Or.inl rfl, Or.inr ⟨_, rfl⟩, Or.inr ⟨_, rfl⟩, Or.inl rfl]

/-- How a boom stands on the way of a return over the booms: the arbiter is as it was. -/
structure CameTo (s t : State) (b : Slot) (x : Boom) : Prop where
  books : s.SameBooks t
  arbiter : t.arbiter = s.arbiter
  waiting : t.link.waiting = s.link.waiting
  boom : t.boom b = x

theorem CameTo.changed {s t : State} {b c : Slot} {x : Boom} (h : CameTo s t b x) (y : Boom) :
    (c ≠ b → CameTo s (t.changeBoom c y) b x) ∧ CameTo s (t.changeBoom b y) b y := by
  have waiting : ∀ d, (t.changeBoom d y).link.waiting = t.link.waiting := by
    intro d
    obtain ⟨q, changed⟩ := changeBoom_link t d y
    rw [changed]
  refine ⟨fun other => ⟨h.books.trans (State.SameBooks.changeBoom t c y), (changeBoom_arbiter t c y).trans h.arbiter,
    (waiting c).trans h.waiting, (changeBoom_boom_of_ne t y other.symm).trans h.boom⟩,
    h.books.trans (State.SameBooks.changeBoom t b y), (changeBoom_arbiter t b y).trans h.arbiter, (waiting b).trans h.waiting,
    changeBoom_boom t b y⟩

theorem State.SameBooks.driveCame (s : State) (c : Slot) : s.SameBooks (s.driveCame c) := by
  rcases driveCame_cases s c with same | ⟨x, changed⟩
  · rw [same]; exact State.SameBooks.refl s
  · rw [changed]; exact State.SameBooks.changeBoom s c x

/-- The part after a return that has been read has reached every boom. -/
def State.returned (s : State) : State := forFitted (fun b t => t.driveCame b) (s.withDrive true)

theorem returned_reaches {s : State} {b : Slot} {x : Boom} (fit : s.fits b = true)
    (own : ∀ t, CameTo (s.withDrive true) t b (s.boom b) → CameTo (s.withDrive true) (t.driveCame b) b x) :
    CameTo (s.withDrive true) s.returned b x := by
  have other : ∀ y c t, c ≠ b → CameTo (s.withDrive true) t b y → CameTo (s.withDrive true) (t.driveCame c) b y := by
    intro y c t ne h
    rcases driveCame_cases t c with same | ⟨z, changed⟩
    · rwa [same]
    · rw [changed]
      exact (h.changed z).1 ne
  exact forFitted_reaches (fun c t => fits_of_books (State.SameBooks.driveCame t c) b) (other _) own (other _) fit
    ⟨State.SameBooks.refl _, rfl, rfl, rfl⟩

theorem returned_arbiter (s : State) : s.returned.arbiter = s.arbiter ∧ s.returned.link.waiting = s.link.waiting := by
  have act : ∀ c (t : State), (t.driveCame c).arbiter = t.arbiter ∧ (t.driveCame c).link.waiting = t.link.waiting := by
    intro c t
    rcases driveCame_cases t c with same | ⟨z, changed⟩
    · rw [same]; exact ⟨rfl, rfl⟩
    · rw [changed]
      obtain ⟨q, eq⟩ := changeBoom_link t c z
      rw [eq]
      exact ⟨rfl, rfl⟩
  have slot : ∀ c (t : State), (if t.fits c then t.driveCame c else t).arbiter = t.arbiter ∧
      (if t.fits c then t.driveCame c else t).link.waiting = t.link.waiting := by
    intro c t
    split
    · exact act c t
    · exact ⟨rfl, rfl⟩
  unfold State.returned forFitted forSlots
  simp only [slot]
  exact ⟨rfl, rfl⟩

/-- Settles O8: the return as it is read moves the held retracts alone, and before it is read the outputs alone come back. -/
theorem driveReturnResumesRetracts : Obligations.DriveReturnResumesRetracts := by
  refine ⟨fun s drive line unhurried requested => ?_, fun s unhurried settled => ⟨fun line known => ?_, fun line => ?_⟩⟩
  · have books : (s.withDrive true).SameBooks s.returned := State.SameBooks.fitted (fun b t => State.SameBooks.driveCame t b) _
    have ran : exec .driveEnableReturn s = .next s.returned.noted.startNext := by
      refine congrArg Host.Outcome.next ?_
      rw [driveReturn_read line drive]
      exact finish_unhurried ((returned_arbiter s).2.trans unhurried) (Or.inl (books.store.requested.trans requested))
    have finished := books.trans (State.SameBooks.finished (State.SameBooks.refl s.returned))
    have boom : ∀ b, s.returned.noted.startNext.boom b = (s.returned.boom b).remember (s.returned.shownChuck b) := fun b => by
      rw [startNext_boom, noted_boom]
    refine ⟨_, ran, finished.store.drive, finished.store, (withDrive_lists s true).trans finished.lists, ?_,
      fun b h fits level auto => ?_, fun b r fits retract held => ?_, fun b sub h fits running => ?_,
      fun b fits retracts abandons => ?_⟩
    · rw [startNext_arbiter, noted_arbiter, (returned_arbiter s).1]
    · have came := returned_reaches (x := { s.boom b with
          auto := .abandoning .active { h with retractTicks := 0 }, feed := -(s.params.retractFeed : Int), rotation := 0 }) fits
        (fun t at_ => by
          rw [driveCame_abandoning (by rw [at_.boom]; exact level) (by rw [at_.boom]; exact auto),
            moveAbandon_driven at_.books.store.drive, at_.boom, at_.books.store.params]
          exact (at_.changed (c := b) _).2)
      rw [boom, came.boom]
      exact ⟨Boom.remember_auto _ _, Boom.remember_feed _ _, Boom.remember_rotation _ _⟩
    · have came := returned_reaches (x := { s.boom b with
          retract := some { r with sub := .active, ticks := 0 }, feed := -(s.params.retractFeed : Int), rotation := 0 }) fits
        (fun t at_ => by
          rw [driveCame_retract (by rw [at_.boom]; exact retract) held,
            moveRetract_driven at_.books.store.drive, at_.boom, at_.books.store.params]
          exact (at_.changed (c := b) _).2)
      rw [boom, came.boom]
      exact ⟨Boom.remember_retract _ _, Boom.remember_feed _ _, Boom.remember_rotation _ _⟩
    · obtain ⟨level, auto⟩ := running_context running
      have came := returned_reaches (x := s.boom b) fits (fun t at_ => by
        rw [driveCame_other (by rw [at_.boom, (level_zero level).1]; nofun) (by rw [at_.boom, auto]; simp)]
        exact at_)
      rw [boom, came.boom]
      exact ⟨(Boom.remember_auto _ _).trans auto, Boom.remember_feed _ _, Boom.remember_rotation _ _⟩
    · have came := returned_reaches (x := s.boom b) fits (fun t at_ => by
        rw [driveCame_other (by rw [at_.boom]; exact retracts) (by rw [at_.boom]; exact abandons)]
        exact at_)
      refine ⟨(startNext_boom _ _).trans (noted_boom_of_same books.store came.boom), ?_⟩
      rw [startNext_grant, noted_grant]
      exact congrArg (fun a => a.grants.get b) (returned_arbiter s).1
  · refine congrArg Host.Outcome.next ?_
    have same : s.driveReturn = s := (if_pos line).trans (readDrive_same (level := true) known _)
    rw [same]
    exact finish_unhurried unhurried settled
  · have settled' : ({ s with driveLine := some true } : State).settled := settled
    refine ⟨_, congrArg Host.Outcome.next ?_, rfl, fun b fits mode => ?_⟩
    · rw [driveReturn_line line]
      exact finish_unhurried unhurried settled'
    · have finished := State.SameBooks.finished (State.SameBooks.refl ({ s with driveLine := some true } : State))
      have live : ({ s with driveLine := some true } : State).noted.startNext.lineDrive = true := by
        unfold State.lineDrive
        rw [finished.store.driveLine]
      have shown : ¬ (({ s with driveLine := some true } : State).noted.startNext.mode = .config ∨
          ({ s with driveLine := some true } : State).noted.startNext.fits b = false ∨
          ({ s with driveLine := some true } : State).noted.startNext.lineDrive = false) := by
        rw [live, finished.store.mode, fits_of_books finished]
        rintro (config | unfit | dead)
        · exact mode config
        · exact absurd (unfit.symm.trans fits) (by decide)
        · cases dead
      refine (if_neg shown).trans ?_
      rw [startNext_boom, noted_boom, Boom.remember_feed, Boom.remember_rotation, Boom.remember_chuck, Boom.remember_loaderOut]
      rfl

end Sys2Proof.Machine
end

section
/-! SUPPORT. The link-silent state as it is entered, seen from each boom (R142, R157, R194). -/

namespace Sys2Proof.Machine

/-- The part as the link-silent state is entered, before it reaches a boom (R194). -/
def State.silenced (s : State) : State :=
  { s with link := { s.link with silenceTicks := s.link.silenceTicks + 1, silent := true } }

theorem silenced_books (s : State) : s.SameBooks s.silenced := State.SameBooks.link s _

theorem silenceBoom_acts (t : State) (c : Slot) : ActsOn c t (t.silenceBoom c) (t.silenceBoom c) := by
  have stops : ∀ h, ActsOn c t ((t.raise c [.linkSilent]).stopInPhase c h .linkSilent 0)
      ((t.raise c [.linkSilent]).stopInPhase c h .linkSilent 0) := fun h =>
    have acts := stopRunning_acts t c h .linkSilent
    ⟨acts.books, acts.others, acts.quiet, Or.inl rfl⟩
  unfold State.silenceBoom
  split
  · exact setBoom_acts t c _
  · exact stops _
  · exact stops _
  · exact ActsOn.self c t

theorem silence_quiet {s : State} {b : Slot} {x : Boom} {g : Nat} (quiet : s.flowQuiet) (fit : s.fits b = true)
    (own : ∀ t, StandsAs s t b (s.boom b) (s.grant b) → StandsAs s (t.silenceBoom b) b x g) :
    StandsAs s (forFitted (fun c t => t.silenceBoom c) s) b x g := by
  have other : ∀ y n c t, c ≠ b → StandsAs s t b y n → StandsAs s (t.silenceBoom c) b y n := by
    intro y n c t ne h
    obtain ⟨kept, still⟩ := (silenceBoom_acts t c).untouched ne.symm h.quiet
    exact h.untouched (silenceBoom_acts t c).sameBooks kept still
  exact forFitted_reaches (fun c t => fits_of_books (silenceBoom_acts t c).sameBooks b) (other _ _) own (other _ _) fit
    ⟨State.SameBooks.refl s, quiet, rfl, rfl⟩

theorem forFitted_quiet {f : Slot → State → State} (h : ∀ c (t : State), t.flowQuiet → (f c t).flowQuiet) {s : State}
    (quiet : s.flowQuiet) : (forFitted f s).flowQuiet := by
  have slot : ∀ c (t : State), t.flowQuiet → (if t.fits c then f c t else t).flowQuiet := by
    intro c t none
    split
    · exact h c t none
    · exact none
  exact slot _ _ (slot _ _ (slot _ _ (slot _ _ quiet)))

/-! ## The part of one boom -/

theorem silenceBoom_moving {s : State} {b : Slot} {sub : CycleSub} {h : Hole} (running : (s.boom b).running = some (sub, h))
    (moving : sub = .active ∨ sub = .reEngage) (fits : s.fits b = true) (quiet : s.flowQuiet) :
    s.silenceBoom b = s.stopped b h .linkSilent 0 s.clock := by
  obtain ⟨level, auto⟩ := running_context running
  obtain ⟨retract, manual⟩ := level_zero level
  have stops : s.silenceBoom b = (s.raise b [.linkSilent]).stopInPhase b h .linkSilent 0 := by
    unfold State.silenceBoom
    rw [retract, manual, auto]
    rcases moving with rfl | rfl <;> rfl
  have none : (s.silenceBoom b).flowQuiet := (silenceBoom_acts s b).quiet quiet
  rw [← stopRunning_alone fits (flowQuiet_alone quiet b) h rfl, ← evaluate_nil none, stops]
  rfl

theorem silenceBoom_manual {s : State} {b : Slot} {m : ManualCtx} (retract : (s.boom b).retract = none)
    (manual : (s.boom b).manual = some m) : s.silenceBoom b = s.setBoom b ((s.boom b).stopManual m) := by
  unfold State.silenceBoom
  rw [retract, manual]

theorem silenceBoom_retract {s : State} {b : Slot} {r : RetractCtx} (retract : (s.boom b).retract = some r) :
    s.silenceBoom b = s := by
  unfold State.silenceBoom
  rw [retract]

theorem silenceBoom_stands {s : State} {b : Slot} (level : (s.boom b).level = 0)
    (active : ∀ h, (s.boom b).auto ≠ .cycle .active h) (engages : ∀ h, (s.boom b).auto ≠ .cycle .reEngage h) :
    s.silenceBoom b = s := by
  obtain ⟨retract, manual⟩ := level_zero level
  unfold State.silenceBoom
  split
  · simp_all
  · next h _ _ auto => exact absurd auto (active h)
  · next h _ _ auto => exact absurd auto (engages h)
  · rfl

/-! ## The event -/

/-- The part after the link-silent state has reached every boom. -/
def State.hushed (s : State) : State := forFitted (fun b t => t.silenceBoom b) s.silenced

theorem hushed_books (s : State) : s.SameBooks s.hushed :=
  (State.SameBooks.fitted (fun c t => (silenceBoom_acts t c).sameBooks) _).after (silenced_books s)

theorem hushed_kept (s : State) : Kept s.silenced s.hushed := forFitted_kept (fun b t => silenceBoom_kept t b) _

theorem hushed_quiet {s : State} (quiet : s.flowQuiet) : s.hushed.flowQuiet :=
  forFitted_quiet (fun c t none => (silenceBoom_acts t c).quiet none) quiet

theorem silenceExpiry_due {s : State} (heard : s.link.silent = false) (timed : s.params.linkSilence ≠ 0)
    (late : s.params.linkSilence ≤ 10 * (s.link.silenceTicks + 1)) (quiet : s.flowQuiet) : s.silenceExpiry = s.hushed := by
  have ticked : s.silenceTick = { s with link := { s.link with silenceTicks := s.link.silenceTicks + 1 } } :=
    if_neg (by rw [heard]; decide)
  have due : s.silenceTick.silenceDue = true := by
    rw [ticked]
    unfold State.silenceDue
    dsimp only
    rw [heard, ticksReach_of_le late, decide_eq_true timed]
    rfl
  unfold State.silenceExpiry
  rw [if_pos due, ticked]
  show s.hushed.evaluate = s.hushed
  exact evaluate_nil (hushed_quiet quiet)

theorem atDueTick_quiet {f : State → State} {s : State} (quiet : (f (s.atClock (s.clock + 1))).flowQuiet) :
    atDueTick f s = (f (s.atClock (s.clock + 1))).atClock s.clock :=
  atDueTick_placing_none (f := f) (s := s) (fun e mem => by
    have none : (f { s with clock := s.clock + 1 }).arbiter.waitList = [] := quiet
    rw [none] at mem
    cases mem)

/-- Settles O18: the expiry reaches every boom in turn, and with nobody waiting each comes to its own part of it. -/
theorem silenceStopsMovingBooms : Obligations.SilenceStopsMovingBooms := by
  intro s heard timed late quiet unhurried requested
  let u := s.atClock (s.clock + 1)
  have due : u.silenceExpiry = u.hushed := silenceExpiry_due (s := u) heard timed late quiet
  have still : u.hushed.flowQuiet := hushed_quiet (s := u) quiet
  have books : s.SameBooks (u.hushed.atClock s.clock) := by
    have b := hushed_books u
    refine ⟨⟨b.store.pending, rfl, b.store.mode, b.store.requested, b.store.restartCause, b.store.params, b.store.recipes,
      b.store.drive, b.store.driveLine, b.store.retractLine⟩, ⟨b.lists.queues, b.lists.log, b.lists.nextSeq, b.lists.writers⟩⟩
  have ran : exec .linkSilent s = .next (u.hushed.atClock s.clock).noted.startNext := by
    refine congrArg Host.Outcome.next ?_
    rw [atDueTick_quiet (by rw [due]; exact still), due]
    exact finish_unhurried ((hushed_kept u).waiting.trans unhurried) (Or.inl (books.store.requested.trans requested))
  have finished := State.SameBooks.finished books
  have boom : ∀ b, (u.hushed.atClock s.clock).noted.startNext.boom b =
      (u.hushed.boom b).remember ((u.hushed.atClock s.clock).shownChuck b) := fun b => by
    rw [startNext_boom, noted_boom]
    rfl
  have grant : ∀ b, (u.hushed.atClock s.clock).noted.startNext.grant b = u.hushed.grant b := fun b => by
    rw [startNext_grant, noted_grant]
    rfl
  have silent : (u.hushed.atClock s.clock).noted.startNext.link.silent = true := by
    obtain ⟨l, eq, same⟩ := startNext_link (u.hushed.atClock s.clock).noted
    rw [eq]
    refine same.silent.trans ?_
    rw [noted_link]
    exact (hushed_kept u).silent
  refine ⟨_, ran, silent, finished.store, finished.lists, fun b sub h fits running moving => ?_, fun b m fits level manual => ?_,
    fun b fits level => ?_, fun b fits level active engages => ?_⟩
  · have at_ := silence_quiet (s := u.silenced) (b := b) (x := s.boomStopped b h .linkSilent 0 (s.clock + 1))
      (g := s.grantStopped b h.phase) quiet fits (fun t at_ => by
        rw [silenceBoom_moving (by rw [at_.boom]; exact running) moving ((fits_of_books at_.books b).trans fits) at_.quiet]
        refine ⟨at_.books.trans (by constructor <;> constructor <;> rfl), rfl, ?_, ?_⟩
        · refine (four_get_set_self _ _ _).trans ?_
          rw [boomStopped_congr at_.boom, at_.books.store.clock]
          rfl
        · exact (four_get_set_self _ _ _).trans (grantStopped_congr at_.books at_.grant _))
    rw [boom, grant, show u.hushed.boom b = _ from at_.boom]
    exact ⟨Boom.remember_auto _ _, Boom.remember_feed _ _, Boom.remember_rotation _ _, Boom.remember_chuck _ _, at_.grant⟩
  · have at_ := silence_quiet (s := u.silenced) (b := b) (x := (s.boom b).stopManual m) (g := s.grant b) quiet fits (fun t at_ => by
      rw [silenceBoom_manual (by rw [at_.boom]; exact (level_one level).1) (by rw [at_.boom]; exact manual), at_.boom]
      exact standsAs_setBoom at_ _)
    rw [boom, grant, show u.hushed.boom b = _ from at_.boom]
    exact ⟨Boom.remember_manual _ _, Boom.remember_feed _ _, Boom.remember_rotation _ _, Boom.remember_auto _ _, at_.grant⟩
  · have at_ := silence_quiet (s := u.silenced) (b := b) (x := s.boom b) (g := s.grant b) quiet fits (fun t at_ => by
      obtain ⟨r, retract⟩ : ∃ r, (s.boom b).retract = some r := by
        cases retract : (s.boom b).retract with
        | some r => exact ⟨r, rfl⟩
        | none =>
          unfold Boom.level at level
          rw [retract] at level
          split at level <;> simp_all
      rw [silenceBoom_retract (by rw [at_.boom]; exact retract)]
      exact at_)
    rw [boom, grant, show u.hushed.boom b = _ from at_.boom]
    exact ⟨Boom.remember_retract _ _, Boom.remember_feed _ _, at_.grant⟩
  · have at_ := silence_quiet (s := u.silenced) (b := b) (x := s.boom b) (g := s.grant b) quiet fits (fun t at_ => by
      rw [silenceBoom_stands (by rw [at_.boom]; exact level) (by rw [at_.boom]; exact active) (by rw [at_.boom]; exact engages)]
      exact at_)
    rw [boom, grant, show u.hushed.boom b = _ from at_.boom]
    exact ⟨Boom.remember_auto _ _, at_.grant⟩

end Sys2Proof.Machine
end

section
/-! SUPPORT. A phase boundary either way, and an event of the tick falling due that is one boom's own. -/

namespace Sys2Proof.Machine

/-! ## The figures a boundary keeps -/

/-- The hole's plan and the figures its phases have fixed. -/
structure Hole.SameFigures (h g : Hole) : Prop where
  plan : g.plan = h.plan
  drilled : g.drilled = h.drilled
  computed : g.computed = h.computed
  planned : g.planned = h.planned
  peak : g.peak = h.peak
  finalTorque : g.finalTorque = h.finalTorque
  tension : g.tension = h.tension

theorem enter_figures {p : Phase} (other : p ≠ .torquing) (h : Hole) (now : Tick) : Hole.SameFigures h (h.enter p now) := by
  cases p with
  | torquing => exact absurd rfl other
  | _ => exact ⟨rfl, rfl, rfl, rfl, rfl, rfl, rfl⟩

theorem enter_phase (p : Phase) (h : Hole) (now : Tick) : (h.enter p now).phase = p := by cases p <;> rfl

theorem enter_direct {p : Phase} (direct : p.reEngages = false) (h : Hole) (now : Tick) : (h.enter p now).viaReEngage = false := by
  unfold Hole.viaReEngage
  rw [enter_phase, direct]
  rfl

/-! ## A boundary either way -/

/-- What a boundary leads to, by what stands posted (R26, R136). -/
structure State.Crossed (s t : State) (b : Slot) (y : Boom) (h g : Hole) (p : Phase) : Prop where
  hole : (t.boom b).auto.hole = some g
  phase : g.phase = p
  figures : Hole.SameFigures h g
  only : s.OnlyBoom t b
  profile : (t.boom b).profile = y.profile
  accrued : (t.boom b).accrued = y.accrued
  stops : ∀ c, CondSet.top y.posted = some c →
    ∃ f, s.StoppedBefore t b g f h.phase p ∧ f.cause = c ∧ f.operand = postedOperand y h c
  enters : y.posted = 0 → (t.boom b).current = 0 ∧ (t.boom b).seen = Quad.fill false ∧ s.FlowAsked t b g

theorem FlowAsked_hole {s t : State} {b : Slot} {g : Hole} (asked : s.FlowAsked t b g) : (t.boom b).auto.hole = some g := by
  by_cases covered : s.covers b (s.demandOf g.phase)
  · rw [(asked.1 covered).1]; rfl
  · rw [(asked.2 covered).1]; rfl

theorem top_zero : CondSet.top 0 = none := by
  unfold CondSet.top
  rw [List.find?_eq_none]
  intro c _
  simp [CondSet.has]

theorem cross_setBoom_either {s : State} {b : Slot} {y : Boom} {h : Hole} {p : Phase} (fits : s.fits b = true)
    (next : h.phase.next = some p) (direct : p.reEngages = false) (other : p ≠ .torquing)
    (readings : Boom.SameReadings (s.boom b) y) (level : y.level = 0) (quiet : s.flowQuiet) (drive : s.drive = some true)
    (heard : s.link.silent = false) : ∃ g, s.Crossed ((s.setBoom b y).cross b h) b y h g p := by
  cases top : CondSet.top y.posted with
  | some c =>
    obtain ⟨g, f, stopped, only, cause, operand, _, _, hole, profile, _, accrued, _⟩ :=
      cross_setBoom_stops fits next readings top quiet
    refine ⟨g, ⟨by rw [stopped.context]; rfl, stopped.next, ?_, only, profile, accrued, fun d same => ?_, fun none => ?_⟩⟩
    · rw [hole]
      exact ⟨rfl, rfl, rfl, rfl, rfl, rfl, rfl⟩
    · injection top.symm.trans same with same
      exact ⟨f, stopped, cause.trans same, by rw [operand, same]⟩
    · rw [none, top_zero] at top
      cases top
  | none =>
    have unposted : y.posted = 0 := CondSet.eq_zero (CondSet.has_of_top_none top)
    obtain ⟨g, entered, only, profile, _, accrued, hole⟩ :=
      cross_setBoom_enters next readings level unposted quiet drive heard (enter_direct direct h s.clock)
    have figures := enter_figures other h s.clock
    refine ⟨g, ⟨FlowAsked_hole entered.asked, entered.phase, ?_, only, profile, accrued, fun d same => ?_,
      fun _ => ⟨entered.current, entered.seen, entered.asked⟩⟩⟩
    · rcases hole with e | e <;> rw [e] <;> exact ⟨figures.1, figures.2, figures.3, figures.4, figures.5, figures.6, figures.7⟩
    · exact absurd (top.symm.trans same) nofun

/-! ## An event of the tick falling due -/

/-- The part as an event of the tick falling due has left it, its clock as it was and its entries marked (log entry 2). -/
def State.dueAt (v s : State) : State :=
  { v with clock := s.clock, arbiter := v.arbiter.markAhead s.arbiter.waitList }

theorem dueAt_store {s v : State} (store : State.SameStore (s.atClock (s.clock + 1)) v) : State.SameStore s (v.dueAt s) :=
  ⟨store.pending, rfl, store.mode, store.requested, store.restartCause, store.params, store.recipes, store.drive,
    store.driveLine, store.retractLine⟩

theorem dueAt_lists {s v : State} (lists : State.SameLists (s.atClock (s.clock + 1)) v) : State.SameLists s (v.dueAt s) :=
  ⟨lists.queues, lists.log, lists.nextSeq, lists.writers⟩

/-- How the part stands after an event of the tick falling due that is boom `b`'s own. -/
structure State.DueOnly (s v t : State) (b : Slot) : Prop where
  boom : ∃ c, t.boom b = (v.boom b).remember c
  grant : t.grant b = v.grant b
  waitList : t.arbiter.waitList = v.arbiter.waitList.map (WaitEntry.markAhead s.arbiter.waitList)
  readings : Boom.SameReadings (s.boom b) (t.boom b)
  store : State.SameStore s t
  lists : State.SameLists s t
  others : State.SameOthers s t b

theorem timedEvent_only {s v : State} {b : Slot} {f : State → State} (fits : s.fits b = true)
    (acts : f (s.atClock (s.clock + 1)) = v) (only : (s.atClock (s.clock + 1)).OnlyBoom v b)
    (unhurried : v.link.waiting = []) (busy : (v.boom b).auto ≠ .idle) : ∃ t, s.timedEvent b f = t ∧ s.DueOnly v t b := by
  have store := dueAt_store only.store
  have fits' : (v.dueAt s).fits b = true := by
    unfold State.fits
    rw [store.params]
    exact fits
  refine ⟨_, timedEvent_marks fits acts unhurried (settled_of_busy (s := v.dueAt s) fits' busy), ?_⟩
  have finished := State.SameBooks.finished (State.SameBooks.refl (v.dueAt s))
  have boom : (v.dueAt s).noted.startNext.boom b = (v.boom b).remember ((v.dueAt s).shownChuck b) := by
    rw [startNext_boom, noted_boom]
    rfl
  refine ⟨⟨_, boom⟩, ?_, ?_, ?_, store.trans finished.store, (dueAt_lists only.lists).trans finished.lists, ?_, ?_, ?_⟩
  · show (v.dueAt s).noted.startNext.grant b = _
    rw [startNext_grant, noted_grant]
    rfl
  · show (v.dueAt s).noted.startNext.arbiter.waitList = _
    rw [startNext_arbiter, noted_arbiter]
    rfl
  · show Boom.SameReadings (s.boom b) ((v.dueAt s).noted.startNext.boom b)
    rw [boom]
    have r := only.readings
    exact ⟨(Boom.remember_raw _ _).trans r.raw, (Boom.remember_lastGood _ _).trans r.lastGood,
      (Boom.remember_inForce _ _).trans r.inForce, (Boom.remember_posLoss _ _).trans r.posLoss,
      (Boom.remember_enabled _ _).trans r.enabled⟩
  · intro c other
    refine (startNext_boom _ _).trans (noted_boom_of_same store ?_)
    exact only.booms c other
  · intro c other
    refine (startNext_grant _ _).trans ((noted_grant _ _).trans ?_)
    exact only.grants c other
  · show (v.dueAt s).noted.startNext.arbiter.reserve = _
    rw [startNext_arbiter, noted_arbiter]
    exact only.reserve

end Sys2Proof.Machine
end

section
/-! SUPPORT. TORQUING's samples, its end and its timeout (R100 to R104). -/

namespace Sys2Proof.Machine

/-! ## The sets after a raise -/

theorem raise_posted_has (x : Boom) (cs : List Cond) (c : Cond) :
    CondSet.has (x.raise cs).posted c = (CondSet.has x.posted c || decide (c ∈ cs ∧ c.posts x.enabled = true)) := by
  unfold Boom.raise
  simp

theorem raise_accrued_has (x : Boom) (cs : List Cond) (c : Cond) :
    CondSet.has (x.raise cs).accrued c = (CondSet.has x.accrued c || decide (c ∈ cs)) := by
  unfold Boom.raise
  simp

/-- Nothing is posted of conditions that are all masked, beside an empty set (R131). -/
theorem raise_unposted {x : Boom} {cs : List Cond} (unposted : x.posted = 0)
    (masked : ∀ c ∈ cs, CondSet.has x.enabled c = false) : (x.raise cs).posted = 0 := by
  refine CondSet.eq_zero (fun c => ?_)
  rw [raise_posted_has, unposted]
  have silent : ¬ (c ∈ cs ∧ c.posts x.enabled = true) := by
    rintro ⟨mem, posts⟩
    unfold Cond.posts at posts
    rw [masked c mem] at posts
    simp at posts
  simp only [silent, decide_false, Bool.or_false]
  exact CondSet.has_zero c

/-- The highest of the conditions posted at one moment, beside an empty set (R136). -/
theorem raise_top {x : Boom} {cs : List Cond} {c : Cond} (unposted : x.posted = 0) (mem : c ∈ cs) (posts : c.posts x.enabled = true)
    (first : ∀ d ∈ cs, d.posts x.enabled = true → c.priority ≤ d.priority) : CondSet.top (x.raise cs).posted = some c := by
  refine CondSet.top_eq ?_ (fun d lower => ?_)
  · rw [raise_posted_has]
    simp [mem, posts]
  · rw [raise_posted_has, unposted]
    have silent : ¬ (d ∈ cs ∧ d.posts x.enabled = true) := fun both => absurd (first d both.1 both.2) (by omega)
    simp only [silent, decide_false, Bool.or_false]
    exact CondSet.has_zero d

/-- Conditions raised one after the other in one moment, seen as one raise. -/
theorem raise_raise (x : Boom) (cs ds : List Cond) : (x.raise cs).raise ds = x.raise (cs ++ ds) := by
  unfold Boom.raise CondSet.putAll
  simp only [List.foldl_append, List.filter_append]

theorem mem_tensionConds {r : Recipe} {t : Nat} {c : Cond} :
    c ∈ tensionConds r t ↔
      (c = .underTension ∧ t < r.tensionMin) ∨ (c = .overTension ∧ r.tensionMin ≤ t ∧ r.tensionMax < t) := by
  unfold tensionConds
  by_cases low : t < r.tensionMin
  · rw [if_pos low]
    simp [low]
  · rw [if_neg low]
    by_cases high : r.tensionMax < t
    · rw [if_pos high]
      simp [low, high, Nat.le_of_not_lt low]
    · rw [if_neg high]
      simp [low, high]

/-! ## The end of TORQUING -/

/-- The hole as TORQUING ends on a final torque (R102, R103). -/
def Hole.tensioned (h : Hole) (final : Nat) : Hole :=
  { h with finalTorque := some final, tension := some (tensionOf h.plan.recipe final) }

theorem endTorquing_setBoom (s : State) (b : Slot) (y : Boom) (h : Hole) (final : Nat) (raised : List Cond) :
    (s.setBoom b y).endTorquing b h final raised =
      (s.setBoom b (y.raise (raised ++ tensionConds h.plan.recipe (tensionOf h.plan.recipe final)))).cross b
        (h.tensioned final) := by
  unfold State.endTorquing State.raise
  dsimp only
  rw [State.setBoom_boom, setBoom_setBoom]
  rfl

theorem runFinal_short {run : List Nat} (short : run.length < 3) : runFinal run = none := by
  match run, short with
  | [], _ => rfl
  | [_], _ => rfl
  | [_, _], _ => rfl

/-- The sets of conditions an end of TORQUING can raise, as their members. -/
theorem torquing_posts {c : Cond} (h : c = .torqueTimeout ∨ c = .underTension ∨ c = .overTension ∨ c = .sensorRange)
    (e : CondSet) : c.posts e = CondSet.has e c := by
  rcases h with rfl | rfl | rfl | rfl <;> rfl

theorem torqueDue_ends {s : State} {b : Slot} {h : Hole} {m : Tick} (running : (s.boom b).running = some (.active, h))
    (phase : h.phase = .torquing) (short : h.torqueRun.length < 3) (start : h.torqueStart = some m)
    (late : h.plan.recipe.torqueTimeout ≤ 10 * ticksSince s.clock m) :
    s.torqueDue b = s.endTorquing b h h.peak [.torqueTimeout] := by
  have reached : timerReaches s.clock h.torqueStart h.plan.recipe.torqueTimeout = true := by
    rw [start]
    exact ticksReach_of_le late
  unfold State.torqueDue
  rw [running]
  exact if_pos ⟨phase, runFinal_short short, reached⟩

/-- The timeout at the tick falling due ends TORQUING on the peak (R102). -/
theorem torqueTimeout_crosses {s : State} {b : Slot} {h : Hole} {m : Tick} (fits : s.fits b = true) (quiet : s.flowQuiet)
    (running : (s.boom b).running = some (.active, h)) (phase : h.phase = .torquing) (short : h.torqueRun.length < 3)
    (start : h.torqueStart = some m) (late : h.plan.recipe.torqueTimeout ≤ 10 * ticksSince s.clock m)
    (drive : s.drive = some true) (heard : s.link.silent = false) :
    ∃ g, s.Crossed (s.torqueDue b) b
      ((s.boom b).raise ([.torqueTimeout] ++ tensionConds h.plan.recipe (tensionOf h.plan.recipe h.peak))) (h.tensioned h.peak) g
      .releasing := by
  have ends := torqueDue_ends running phase short start late
  rw [← setBoom_self s b, endTorquing_setBoom, setBoom_self] at ends
  rw [ends]
  exact cross_setBoom_either (h := h.tensioned h.peak) (y := (s.boom b).raise _) fits
    (show h.phase.next = _ by rw [phase]; rfl) rfl (by decide) ⟨rfl, rfl, rfl, rfl, rfl⟩ (running_context running).1 quiet drive heard

theorem crossed_busy {s t : State} {b : Slot} {y : Boom} {h g : Hole} {p : Phase} (crossed : s.Crossed t b y h g p) :
    (t.boom b).auto ≠ .idle := by
  intro idle
  have hole := crossed.hole
  rw [idle] at hole
  cases hole

/-! ## Samples of TORQUING -/

theorem sampleTimers_torquing {h : Hole} (phase : h.phase = .torquing) (depth : Nat) (now : Tick) :
    h.sampleTimers depth now = { h with torqueStart := some (h.torqueStart.getD now) } := by
  unfold Hole.sampleTimers Hole.stallSample
  rw [if_neg (by rw [phase]; decide)]
  unfold Hole.retractSample
  rw [if_neg (by unfold Hole.retracting; rw [phase]; exact Bool.false_ne_true)]
  unfold Hole.startTimers
  rw [phase]

/-- The hole at a TORQUING sample: its timer runs, its run and peak have the torque in (R41, R100, R101). -/
def Hole.torqued (h : Hole) (now : Tick) (torque : Option Nat) : Hole :=
  { h with
    torqueStart := some (h.torqueStart.getD now), torqueRun := nextRun h.plan.recipe.targetTorque h.torqueRun torque,
    peak := nextPeak h.peak torque }

/-- The boom as a TORQUING sample drives it (R23). -/
def Boom.torquedBy (x : Boom) (ps : Params) (k : Hole) : Boom :=
  { x.ranged with auto := .cycle .active k, feed := ps.holdFeed, rotation := k.plan.recipe.torqueRotation }

theorem phaseSample_torquing {s : State} {b : Slot} {h : Hole} (phase : h.phase = .torquing) :
    s.phaseSample b h = s.torquingSample b h := by
  unfold State.phaseSample
  rw [phase]

/-- An ACTIVE TORQUING sample that no condition stops is on the hole with its timer running. -/
theorem torquing_sample {s : State} {b : Slot} {h : Hole} (running : (s.boom b).running = some (.active, h))
    (calm : s.stopCause b (s.activeConds b (h.sampleTimers (s.depth b) s.clock)) = none) (phase : h.phase = .torquing) :
    s.contextSample b =
      (s.setBoom b (s.boom b).ranged).torquingSample b { h with torqueStart := some (h.torqueStart.getD s.clock) } := by
  rw [contextSample_active running calm, sampleTimers_torquing phase]
  exact phaseSample_torquing phase

theorem torquing_driven {s : State} {b : Slot} {h : Hole} (phase : h.phase = .torquing) :
    (s.setBoom b (s.boom b).ranged).drivePhase b (h.torqued s.clock (s.boom b).inForce.torque) =
      s.setBoom b ((s.boom b).torquedBy s.params (h.torqued s.clock (s.boom b).inForce.torque)) := by
  rw [drivePhase_setBoom, show (h.torqued s.clock (s.boom b).inForce.torque).phase = .torquing from phase]
  rfl

/-- A TORQUING sample that fills the run ends the phase on the smallest torque of it (R100). -/
theorem torquing_sample_full {s : State} {b : Slot} {h : Hole} {final : Nat} (running : (s.boom b).running = some (.active, h))
    (calm : s.stopCause b (s.activeConds b (h.sampleTimers (s.depth b) s.clock)) = none) (phase : h.phase = .torquing)
    (full : runFinal (h.torqued s.clock (s.boom b).inForce.torque).torqueRun = some final) :
    s.contextSample b =
      (s.setBoom b ((s.boom b).torquedBy s.params (h.torqued s.clock (s.boom b).inForce.torque))).endTorquing b
        (h.torqued s.clock (s.boom b).inForce.torque) final [] := by
  have hole : ({ h with torqueStart := some (h.torqueStart.getD s.clock) } : Hole).takeTorque
      ((s.setBoom b (s.boom b).ranged).boom b).inForce.torque = h.torqued s.clock (s.boom b).inForce.torque := by
    rw [State.setBoom_boom]
    rfl
  rw [torquing_sample running calm phase]
  unfold State.torquingSample
  dsimp only
  rw [hole, torquing_driven phase, full]

/-- A TORQUING sample that leaves the run short goes on before the timeout (R102). -/
theorem torquing_sample_short {s : State} {b : Slot} {h : Hole} (running : (s.boom b).running = some (.active, h))
    (calm : s.stopCause b (s.activeConds b (h.sampleTimers (s.depth b) s.clock)) = none) (phase : h.phase = .torquing)
    (short : runFinal (h.torqued s.clock (s.boom b).inForce.torque).torqueRun = none)
    (early : 10 * ticksSince s.clock (h.torqueStart.getD s.clock) < h.plan.recipe.torqueTimeout) :
    s.contextSample b =
      s.setBoom b ((s.boom b).torquedBy s.params (h.torqued s.clock (s.boom b).inForce.torque)) := by
  have hole : ({ h with torqueStart := some (h.torqueStart.getD s.clock) } : Hole).takeTorque
      ((s.setBoom b (s.boom b).ranged).boom b).inForce.torque = h.torqued s.clock (s.boom b).inForce.torque := by
    rw [State.setBoom_boom]
    rfl
  rw [torquing_sample running calm phase]
  unfold State.torquingSample
  dsimp only
  rw [hole, torquing_driven phase, short]
  refine if_neg (fun reached => ?_)
  have late : h.plan.recipe.torqueTimeout ≤ 10 * ticksSince s.clock (h.torqueStart.getD s.clock) := of_decide_eq_true reached
  omega

theorem rangeConds_masked {x : Boom} (masked : x.newlyOut = true → CondSet.has x.enabled .sensorRange = false) :
    ∀ c ∈ x.rangeConds, CondSet.has x.enabled c = false := by
  intro c mem
  rw [mem_rangeConds mem]
  refine masked ?_
  unfold Boom.rangeConds at mem
  split at mem
  · assumption
  · cases mem

/-- Settles O14: TORQUING ends on its run or at its timeout, and the boundary stops on the highest condition posted. -/
theorem torqueTimeoutEndsOnPeak : Obligations.TorqueTimeoutEndsOnPeak := by
  refine ⟨fun b s h m fits unhurried quiet running phase short start late drive heard covered => ?_,
    fun s b h x y q running calm phase run torque target fits quiet drive heard posted => ?_,
    fun s b h run start running calm phase started torques early => ?_⟩
  · let u := s.atClock (s.clock + 1)
    obtain ⟨g, crossed⟩ := torqueTimeout_crosses (s := u) fits quiet running phase short start late drive heard
    obtain ⟨t, ran, due⟩ := timedEvent_only (f := fun v => v.torqueDue b) fits rfl crossed.only
      ((torqueDue_kept u b).waiting.trans unhurried) (crossed_busy crossed)
    obtain ⟨c, boom⟩ := due.boom
    have goesOn : ((s.boom b).raise ([.torqueTimeout] ++ tensionConds h.plan.recipe (tensionOf h.plan.recipe h.peak))).posted = 0 →
        (∃ k, (t.boom b).auto = .cycle .active k) ∧ (t.boom b).current = 0 ∧
          t.grant b = min s.params.demandReleasing s.params.pumpCapacity := by
      intro unposted
      obtain ⟨current, _, asked⟩ := crossed.enters unposted
      have demand : u.demandOf g.phase = min s.params.demandReleasing s.params.pumpCapacity := by
        rw [crossed.phase]
        rfl
      obtain ⟨auto, grant, _⟩ := asked.1 (Or.inl (by rw [demand]; exact covered))
      rw [boom, due.grant, Boom.remember_auto, Boom.remember_current]
      exact ⟨⟨g, auto⟩, current, grant.trans demand⟩
    refine ⟨t, g, congrArg Host.Outcome.next ran, ?_, crossed.phase, crossed.figures.finalTorque, crossed.figures.tension,
      crossed.figures.peak, crossed.figures.plan, ?_, fun low => ?_, fun unposted disabled => goesOn ?_,
      fun unposted timeout under excess => goesOn ?_, fun unposted enabled => ?_, due.readings, due.store, due.lists, due.others⟩
    · rw [boom, Boom.remember_auto]
      exact crossed.hole
    · rw [boom, Boom.remember_accrued, crossed.accrued, raise_accrued_has]
      simp
    · rw [boom, Boom.remember_accrued, crossed.accrued, raise_accrued_has]
      simp [mem_tensionConds, low]
    · exact raise_unposted unposted (fun d _ => by rw [disabled]; exact CondSet.has_zero d)
    · refine raise_unposted unposted (fun d mem => ?_)
      rcases List.mem_append.1 mem with single | tension
      · rw [List.mem_singleton.1 single]
        exact timeout
      · rcases mem_tensionConds.1 tension with ⟨rfl, low⟩ | ⟨rfl, enough, high⟩
        · exact under low
        · exact excess enough high
    · have top : CondSet.top ((s.boom b).raise
          ([.torqueTimeout] ++ tensionConds h.plan.recipe (tensionOf h.plan.recipe h.peak))).posted = some .torqueTimeout := by
        refine raise_top unposted (by simp) (by rw [torquing_posts (Or.inl rfl)]; exact enabled) (fun d mem _ => ?_)
        rcases List.mem_append.1 mem with single | tension
        · rw [List.mem_singleton.1 single]
        · rcases mem_tensionConds.1 tension with ⟨rfl, _⟩ | ⟨rfl, _⟩ <;> decide
      obtain ⟨f, stopped, cause, operand⟩ := crossed.stops _ top
      refine ⟨f, ?_, stopped.kind, cause, operand, stopped.raisedIn.trans phase, stopped.phase, ?_⟩
      · rw [boom, Boom.remember_auto]
        exact stopped.context
      · rw [due.grant, stopped.grant, show (h.tensioned h.peak).phase = .torquing from phase]
        exact if_pos (Or.inr (Or.inr (Or.inr rfl)))
  · have torqued : (h.torqued s.clock (s.boom b).inForce.torque).torqueRun = [x, y, q] := by
      unfold Hole.torqued nextRun
      dsimp only
      rw [torque, run]
      exact if_pos target
    have ends := torquing_sample_full running calm phase (final := min x (min y q)) (by rw [torqued]; rfl)
    rw [endTorquing_setBoom] at ends
    obtain ⟨g, crossed⟩ := cross_setBoom_either (s := s) (b := b) (p := .releasing)
      (h := (h.torqued s.clock (s.boom b).inForce.torque).tensioned (min x (min y q)))
      (y := ((s.boom b).torquedBy s.params (h.torqued s.clock (s.boom b).inForce.torque)).raise
        ([] ++ tensionConds h.plan.recipe (tensionOf h.plan.recipe (min x (min y q))))) fits
      (show h.phase.next = _ by rw [phase]; rfl) rfl (by decide) ⟨rfl, rfl, rfl, rfl, rfl⟩ (running_context running).1 quiet drive heard
    have sampled : s.contextSample b =
        (s.setBoom b (((s.boom b).torquedBy s.params (h.torqued s.clock (s.boom b).inForce.torque)).raise
          ([] ++ tensionConds h.plan.recipe (tensionOf h.plan.recipe (min x (min y q)))))).cross b
          ((h.torqued s.clock (s.boom b).inForce.torque).tensioned (min x (min y q))) := ends
    rw [← sampled] at crossed
    have sets : (((s.boom b).torquedBy s.params (h.torqued s.clock (s.boom b).inForce.torque)).raise
        ([] ++ tensionConds h.plan.recipe (tensionOf h.plan.recipe (min x (min y q))))).posted =
        ((s.boom b).markSeen.raise ((s.boom b).rangeConds ++
          tensionConds h.plan.recipe (tensionOf h.plan.recipe (min x (min y q))))).posted := by
      rw [List.nil_append, ← raise_raise]
      rfl
    have accrued : ∀ c ∈ tensionConds h.plan.recipe (tensionOf h.plan.recipe (min x (min y q))),
        CondSet.has ((s.contextSample b).boom b).accrued c = true := by
      intro c mem
      rw [crossed.accrued, raise_accrued_has]
      simp [mem]
    refine ⟨_, g, rfl, crossed.only, crossed.hole, crossed.phase, crossed.figures.plan, crossed.figures.finalTorque,
      crossed.figures.tension, ?_, fun low => accrued _ (mem_tensionConds.2 (Or.inl ⟨rfl, low⟩)),
      fun enough high => accrued _ (mem_tensionConds.2 (Or.inr ⟨rfl, enough, high⟩)), fun low enabled => ?_, fun disabled => ?_,
      fun under excess sensor => ?_⟩
    · rw [crossed.figures.peak]
      unfold Hole.torqued Hole.tensioned nextPeak
      rw [torque]
      rfl
    · have top : CondSet.top ((s.boom b).markSeen.raise ((s.boom b).rangeConds ++
          tensionConds h.plan.recipe (tensionOf h.plan.recipe (min x (min y q))))).posted = some .underTension := by
        refine raise_top posted (by simp [mem_tensionConds, low]) (by rw [torquing_posts (Or.inr (Or.inl rfl))]; exact enabled)
          (fun d mem _ => ?_)
        rcases List.mem_append.1 mem with range | tension
        · rw [mem_rangeConds range]
          decide
        · rcases mem_tensionConds.1 tension with ⟨rfl, _⟩ | ⟨rfl, _⟩ <;> decide
      rw [← sets] at top
      obtain ⟨f, stopped, cause, operand⟩ := crossed.stops _ top
      rw [show ((h.torqued s.clock (s.boom b).inForce.torque).tensioned (min x (min y q))).phase = .torquing from phase] at stopped
      exact ⟨f, stopped, cause, operand⟩
    · obtain ⟨current, _, asked⟩ := crossed.enters (sets.trans (raise_unposted posted
        (fun d _ => by rw [show (s.boom b).markSeen.enabled = 0 from disabled]; exact CondSet.has_zero d)))
      exact ⟨current, asked⟩
    · obtain ⟨current, _, asked⟩ := crossed.enters (sets.trans (raise_unposted posted (fun d mem => by
        rcases List.mem_append.1 mem with range | tension
        · exact rangeConds_masked sensor d range
        · rcases mem_tensionConds.1 tension with ⟨rfl, low⟩ | ⟨rfl, enough, high⟩
          · exact under low
          · exact excess enough high)))
      exact ⟨current, asked⟩
  · have torqued : (h.torqued s.clock (s.boom b).inForce.torque).torqueRun = run ∧ run.length < 3 := by
      unfold Hole.torqued nextRun
      rcases torques with ⟨q, torque, target, short, rfl⟩ | ⟨below, rfl⟩
      · rw [torque]
        exact ⟨if_pos target, by simp; omega⟩
      · refine ⟨?_, by simp⟩
        cases torque : (s.boom b).inForce.torque with
        | none => rfl
        | some q => exact if_neg (Nat.not_le.2 (below q torque))
    rw [started] at early
    refine ⟨_, torquing_sample_short running calm phase (by rw [torqued.1]; exact runFinal_short torqued.2) early, rfl, rfl, ?_⟩
    rw [← torqued.1, started]
    rfl

end Sys2Proof.Machine
end

section
/-! SUPPORT. MIXING and HOLDING: their samples, and the hold timer at the tick falling due (R39, R40, R93 to R95, R99). -/

namespace Sys2Proof.Machine

/-! ## An exception of a boom in any slot -/

theorem stopBoom_arbiter (s : State) (b : Slot) (h : Hole) (k : FrameKind) (c : Cond) (n : Nat) (p q : Phase) :
    (s.stopBoom b h k c n p q).arbiter = s.arbiter.reduce (.boom b) (s.stopTarget p) := by
  have params : ∀ x, (s.changeBoom b x).stopTarget p = s.stopTarget p := by
    intro x
    unfold State.stopTarget
    rw [(State.SameBooks.changeBoom s b x).store.params]
  unfold State.stopBoom State.queueStatus State.queueException
  dsimp only
  (repeat' split) <;> exact congrArg₂ (fun a m => Arbiter.reduce a (.boom b) m) (changeBoom_arbiter _ _ _) rfl

/-- An immediate exception of a boom just written, fitted or not, when no requester waits. -/
theorem stopInPhase_only {s : State} {b : Slot} {y : Boom} (quiet : s.flowQuiet) (readings : Boom.SameReadings (s.boom b) y)
    (h : Hole) (c : Cond) (n : Nat) :
    s.OnlyBoom (((s.setBoom b y).stopInPhase b h c n).evaluate) b ∧
      (((s.setBoom b y).stopInPhase b h c n).evaluate).boom b =
        y.halted ((s.setBoom b y).makeFrame b h .inPhase c n h.phase h.phase) h.stopped ∧
      (((s.setBoom b y).stopInPhase b h c n).evaluate).grant b = s.grantStopped b h.phase := by
  have none : ((s.setBoom b y).stopInPhase b h c n).flowQuiet := stopBoom_quiet (s := s.setBoom b y) quiet _ _ _ _ _ _ _
  rw [evaluate_nil none]
  have books := (State.SameBooks.stopInPhase (s.setBoom b y) b h c n).after (State.SameBooks.setBoom s b y)
  have arbiter : ((s.setBoom b y).stopInPhase b h c n).arbiter = (s.reduceBoom b (s.stopTarget h.phase)).arbiter :=
    stopBoom_arbiter _ _ _ _ _ _ _ _
  have own : ((s.setBoom b y).stopInPhase b h c n).boom b =
      y.halted ((s.setBoom b y).makeFrame b h .inPhase c n h.phase h.phase) h.stopped := by
    unfold State.stopInPhase
    rw [stopBoom_boom, State.setBoom_boom]
    rfl
  have others : ∀ k, k ≠ b → Untouched k s ((s.setBoom b y).stopInPhase b h c n) := fun k other =>
    (stopBoom_untouched other _ _ _ _ _ _).after (setBoom_untouched y other)
  refine ⟨⟨books.store, books.lists, fun k other => (others k other).boom, fun k other => (others k other).grant, ?_, ?_⟩, own, ?_⟩
  · rw [arbiter, reduceBoom_arbiter (flowQuiet_alone quiet b)]
  · rw [own]
    exact ⟨readings.raw, readings.lastGood, readings.inForce, readings.posLoss, readings.enabled⟩
  · unfold State.grant
    rw [arbiter]
    exact (reduceBoom_grant s b _).trans (stopTarget_min s b h.phase)

/-! ## HOLDING -/

/-- The hole as HOLDING ends at a tick (R99). -/
def Hole.held (h : Hole) (now : Tick) : Hole := { h with holdEnd := some now }

/-- HOLDING ends into TORQUING of a boom just written, nothing posted and the bolt in its place (R26, R27, R99). -/
theorem endHolding_enters {s : State} {b : Slot} {y : Boom} {h : Hole} (phase : h.phase = .holding)
    (chuck : h.chuckReleased = false) (still : h.moved = false) (readings : Boom.SameReadings (s.boom b) y) (level : y.level = 0)
    (unposted : y.posted = 0) (quiet : s.flowQuiet) (drive : s.drive = some true) (heard : s.link.silent = false) :
    ∃ g, s.PhaseEntered ((s.setBoom b y).endHolding b h) b (h.held s.clock) g .torquing ∧
      s.OnlyBoom ((s.setBoom b y).endHolding b h) b ∧
      (((s.setBoom b y).endHolding b h).boom b).profile = y.profile ∧
      (((s.setBoom b y).endHolding b h).boom b).accrued = y.accrued ∧
      (g = ((h.held s.clock).enter .torquing s.clock).startMotion y.depth ∨
        g = { (h.held s.clock).enter .torquing s.clock with torqueRun := [] }) := by
  have via : ((h.held s.clock).enter .torquing s.clock).viaReEngage = false := by
    show (true && (h.chuckReleased || h.moved)) = false
    rw [chuck, still]
    rfl
  obtain ⟨g, entered, only, profile, _, accrued, hole⟩ := cross_setBoom_enters (s := s) (b := b) (y := y) (h := h.held s.clock)
    (p := .torquing) (show h.phase.next = _ by rw [phase]; rfl) readings level unposted quiet drive heard via
  exact ⟨g, entered, only, profile, accrued, hole⟩

theorem holdDue_ends {s : State} {b : Slot} {h : Hole} {m : Tick} (running : (s.boom b).running = some (.active, h))
    (phase : h.phase = .holding) (start : h.mixEnd = some m) (late : h.plan.recipe.gelHold ≤ 10 * ticksSince s.clock m) :
    s.holdDue b = (s.setBoom b (s.boom b)).endHolding b h := by
  have reached : h.holdElapsed s.clock = true := by
    unfold Hole.holdElapsed
    rw [start]
    exact ticksReach_of_le late
  unfold State.holdDue
  rw [running, setBoom_self]
  exact if_pos ⟨phase, reached⟩

theorem holdTimer_enters {b : Slot} {s : State} {h : Hole} {m : Tick} (fits : s.fits b = true) (unhurried : s.unhurried)
    (quiet : s.flowQuiet) (running : (s.boom b).running = some (.active, h)) (phase : h.phase = .holding)
    (start : h.mixEnd = some m) (late : h.plan.recipe.gelHold ≤ 10 * ticksSince (s.clock + 1) m) (chuck : h.chuckReleased = false)
    (still : h.moved = false) (unposted : (s.boom b).posted = 0) (drive : s.drive = some true) (heard : s.link.silent = false) :
    ∃ v t g, exec (.holdTimerElapsed b) s = .next t ∧ s.DueOnly v t b ∧
      (s.atClock (s.clock + 1)).PhaseEntered v b (h.held (s.clock + 1)) g .torquing ∧
      (v.boom b).profile = (s.boom b).profile ∧ (v.boom b).accrued = (s.boom b).accrued ∧
      (g = ((h.held (s.clock + 1)).enter .torquing (s.clock + 1)).startMotion (s.depth b) ∨
        g = { (h.held (s.clock + 1)).enter .torquing (s.clock + 1) with torqueRun := [] }) := by
  let u := s.atClock (s.clock + 1)
  have ends : u.holdDue b = (u.setBoom b (s.boom b)).endHolding b h := holdDue_ends (s := u) running phase start late
  obtain ⟨g, entered, only, profile, accrued, hole⟩ := endHolding_enters (s := u) phase chuck still (Boom.SameReadings.refl _)
    (running_context running).1 unposted quiet drive heard
  have busy : (((u.setBoom b (s.boom b)).endHolding b h).boom b).auto ≠ .idle := by
    intro idle
    have held := FlowAsked_hole entered.asked
    rw [show (((u.setBoom b (u.boom b)).endHolding b h).boom b).auto = .idle from idle] at held
    cases held
  obtain ⟨t, ran, due⟩ := timedEvent_only (f := fun v => v.holdDue b) fits ends only
    ((congrArg (fun v : State => v.link.waiting) ends).symm.trans ((holdDue_kept u b).waiting.trans unhurried)) busy
  exact ⟨_, t, g, congrArg Host.Outcome.next ran, due, entered, profile, accrued, hole⟩

/-- The boom as a HOLDING or MIXING sample drives it (R23). -/
def Boom.drivenBy (x : Boom) (ps : Params) (k : Hole) : Boom :=
  { x.ranged with
    auto := .cycle .active k, feed := phaseFeed ps k.plan.recipe k.phase, rotation := phaseRotation k.plan.recipe k.phase }

theorem drivePhase_ranged (s : State) (b : Slot) (k : Hole) :
    (s.setBoom b (s.boom b).ranged).drivePhase b k = s.setBoom b ((s.boom b).drivenBy s.params k) := drivePhase_setBoom s b k _

theorem drivenBy_readings (x : Boom) (ps : Params) (k : Hole) : Boom.SameReadings x (x.drivenBy ps k) := ⟨rfl, rfl, rfl, rfl, rfl⟩

theorem drivenBy_posted {x : Boom} (unposted : x.posted = 0) (masked : CondSet.has x.enabled .sensorRange = false) (ps : Params)
    (k : Hole) : (x.drivenBy ps k).posted = 0 := (ranged_posted masked).trans unposted

theorem phaseSample_holding {s : State} {b : Slot} {h : Hole} (phase : h.phase = .holding) :
    s.phaseSample b h = s.holdingSample b h := by
  unfold State.phaseSample
  rw [phase]

theorem phaseSample_mixing {s : State} {b : Slot} {h : Hole} (phase : h.phase = .mixing) :
    s.phaseSample b h = s.mixingSample b h := by
  unfold State.phaseSample
  rw [phase]

theorem holding_sample {s : State} {b : Slot} {h : Hole} {m : Tick} (running : (s.boom b).running = some (.active, h))
    (calm : s.stopCause b (s.activeConds b (h.sampleTimers (s.depth b) s.clock)) = none) (phase : h.phase = .holding)
    (start : h.mixEnd = some m) :
    s.contextSample b =
      if h.plan.recipe.gelHold ≤ 10 * ticksSince s.clock m then (s.setBoom b ((s.boom b).drivenBy s.params h)).endHolding b h
      else s.setBoom b ((s.boom b).drivenBy s.params h) := by
  have plain := sampleTimers_plain (h := h) (by rw [phase]; rfl) (by unfold Hole.retracting; rw [phase])
    (by rw [phase]; decide) (by rw [phase]; decide) (s.depth b) s.clock
  have elapsed : h.holdElapsed s.clock = decide (h.plan.recipe.gelHold ≤ 10 * ticksSince s.clock m) := by
    unfold Hole.holdElapsed
    rw [start]
    rfl
  rw [contextSample_active running calm, plain, phaseSample_holding phase]
  unfold State.holdingSample
  dsimp only
  rw [drivePhase_ranged, State.setBoom_clock, elapsed]
  simp only [decide_eq_true_eq]

/-! ## MIXING -/

/-- The hole at a MIXING sample: its timers run and the speed in force is in the mix sum (R39, R93). -/
def Hole.mixed (h : Hole) (now : Tick) (speed : Option Nat) : Hole :=
  { h with
    mixSum := h.mixSum + speed.getD 0, mixStart := some (h.mixStart.getD now), resinStart := some (h.resinStart.getD now) }

/-- The hole with the timers of MIXING running (R39). -/
def Hole.mixTimed (h : Hole) (now : Tick) : Hole :=
  { h with mixStart := some (h.mixStart.getD now), resinStart := some (h.resinStart.getD now) }

theorem sampleTimers_mixing {h : Hole} (phase : h.phase = .mixing) (depth : Nat) (now : Tick) :
    h.sampleTimers depth now = h.mixTimed now := by
  unfold Hole.sampleTimers Hole.stallSample
  rw [if_neg (by rw [phase]; decide)]
  unfold Hole.retractSample
  rw [if_neg (by unfold Hole.retracting; rw [phase]; exact Bool.false_ne_true)]
  unfold Hole.startTimers Hole.mixTimed
  split
  · rfl
  · next torquing => exact absurd (phase.symm.trans torquing) (by decide)
  · next none _ => exact absurd phase none

theorem mixing_sample {s : State} {b : Slot} {h k : Hole} (running : (s.boom b).running = some (.active, h))
    (calm : s.stopCause b (s.activeConds b (h.sampleTimers (s.depth b) s.clock)) = none) (phase : h.phase = .mixing)
    (hole : k = h.mixed s.clock (s.boom b).inForce.speed) :
    s.contextSample b =
      if k.mixDone s.params (s.depth b) then (s.setBoom b ((s.boom b).drivenBy s.params k)).endMixing b k
      else if timerReaches s.clock k.mixStart k.plan.recipe.mixTimeMax then
        (s.setBoom b ((s.boom b).drivenBy s.params k)).takeMixShort b k
      else s.setBoom b ((s.boom b).drivenBy s.params k) := by
  have added : (h.mixTimed s.clock).addSpeed
      ((s.setBoom b (s.boom b).ranged).boom b).inForce.speed = k := by
    rw [State.setBoom_boom, hole]
    rfl
  have timed : (h.mixTimed s.clock).phase = .mixing := phase
  rw [contextSample_active running calm, sampleTimers_mixing phase, phaseSample_mixing timed]
  unfold State.mixingSample
  dsimp only
  rw [added, drivePhase_ranged, depth_setBoom]
  rfl

theorem mixDone_iff (h : Hole) (ps : Params) (depth : Nat) :
    h.mixDone ps depth = true ↔
      6000 * h.plan.recipe.mixRevs ≤ h.mixSum ∧ h.drilled.getD 0 - 10 * ps.seatTolerance ≤ depth := by
  unfold Hole.mixDone mixMet Hole.seatDepth
  simp

/-- MIXING ends into HOLDING of a boom just driven, nothing posted and the bolt in its place (R94). -/
theorem endMixing_enters {s : State} {b : Slot} {k : Hole} (level : (s.boom b).level = 0) (phase : k.phase = .mixing)
    (chuck : k.chuckReleased = false) (still : k.moved = false) (unposted : (s.boom b).posted = 0)
    (masked : CondSet.has (s.boom b).enabled .sensorRange = false) (quiet : s.flowQuiet) (drive : s.drive = some true)
    (heard : s.link.silent = false) :
    ∃ g, s.PhaseEntered ((s.setBoom b ((s.boom b).drivenBy s.params k)).endMixing b k) b { k with mixEnd := some s.clock } g .holding ∧
      s.OnlyBoom ((s.setBoom b ((s.boom b).drivenBy s.params k)).endMixing b k) b ∧
      (g = (({ k with mixEnd := some s.clock } : Hole).enter .holding s.clock).startMotion (s.depth b) ∨
        g = { ({ k with mixEnd := some s.clock } : Hole).enter .holding s.clock with torqueRun := [] }) := by
  have via : (({ k with mixEnd := some s.clock } : Hole).enter .holding s.clock).viaReEngage = false := by
    show (true && (k.chuckReleased || k.moved)) = false
    rw [chuck, still]
    rfl
  obtain ⟨g, entered, only, _, _, _, hole⟩ := cross_setBoom_enters (s := s) (b := b) (y := (s.boom b).drivenBy s.params k)
    (h := { k with mixEnd := some s.clock }) (p := .holding) (show k.phase.next = _ by rw [phase]; rfl) (drivenBy_readings _ _ _)
    level (drivenBy_posted unposted masked _ _) quiet drive heard via
  exact ⟨g, entered, only, hole⟩

/-- What a phase entry says of the hole that ends a phase, it says of the hole the phase was sampled with. -/
theorem PhaseEntered.of_same {s t : State} {b : Slot} {h k g : Hole} {p : Phase} (plan : k.plan = h.plan) (drilled : k.drilled = h.drilled)
    (planned : k.planned = h.planned) (exceptions : k.exceptions = h.exceptions) (entered : s.PhaseEntered t b k g p) :
    s.PhaseEntered t b h g p :=
  ⟨entered.phase, entered.plan.trans plan, entered.drilled.trans drilled, entered.planned.trans planned,
    entered.exceptions.trans exceptions, entered.current, entered.seen, entered.asked⟩

/-- Settles O13: the timers and the completion test decide between going on, the boundary and MIX_SHORT. -/
theorem holdTimerEntersTorquing : Obligations.HoldTimerEntersTorquing := by
  refine ⟨fun b s h m fits unhurried quiet running phase mixEnd late chuck still unposted drive heard => ?_,
    fun s b h sum start running calm phase total started => ⟨fun met seated chuck still quiet drive heard unposted masked => ?_,
      fun short => ⟨fun early => ?_, fun late quiet => ?_⟩⟩,
    fun s b h m running calm phase mixEnd => ⟨fun early => ?_, fun late chuck still quiet drive heard unposted masked => ?_⟩⟩
  · obtain ⟨v, t, g, ran, due, entered, profile, accrued, hole⟩ :=
      holdTimer_enters fits unhurried quiet running phase mixEnd late chuck still unposted drive heard
    obtain ⟨c, boom⟩ := due.boom
    have demand : (s.atClock (s.clock + 1)).demandOf g.phase = min s.params.demandTorquing s.params.pumpCapacity := by
      rw [entered.phase]
      rfl
    have figures : g.phase = .torquing ∧ g.holdEnd = some (s.clock + 1) ∧ g.torqueRun = [] ∧ g.peak = 0 ∧ g.finalTorque = none ∧
        g.torqueStart = none ∧ g.resinAgeAtTorque = some (h.resinAgeAtTorque.getD (h.resinAge (s.clock + 1))) ∧ g.plan = h.plan ∧
        g.loaded = h.loaded := by
      rcases hole with e | e <;> rw [e] <;> exact ⟨rfl, rfl, rfl, rfl, rfl, rfl, rfl, rfl, rfl⟩
    obtain ⟨f1, f2, f3, f4, f5, f6, f7, f8, f9⟩ := figures
    have rest : (t.boom b).current = 0 ∧ (t.boom b).accrued = (s.boom b).accrued ∧ (t.boom b).profile = (s.boom b).profile := by
      rw [boom, Boom.remember_current, Boom.remember_accrued, Boom.remember_profile]
      exact ⟨entered.current, accrued, profile⟩
    obtain ⟨r1, r2, r3⟩ := rest
    by_cases covered : s.covers b (min s.params.demandTorquing s.params.pumpCapacity)
    · obtain ⟨auto, grant, list⟩ := entered.asked.1 (by rw [demand]; exact covered)
      refine ⟨t, .active, g, ran, by rw [boom, Boom.remember_auto]; exact auto, f1, f2, f3, f4, f5, f6, f7, f8, f9, r1, r2, r3,
        due.readings, due.store, due.lists, due.others, ?_⟩
      rw [if_pos covered]
      exact ⟨rfl, due.grant.trans (grant.trans demand), by rw [due.waitList, list]; rfl⟩
    · obtain ⟨auto, grant, feed, rotation, list⟩ := entered.asked.2 (by rw [demand]; exact covered)
      refine ⟨t, .waitFlow, g, ran, by rw [boom, Boom.remember_auto]; exact auto, f1, f2, f3, f4, f5, f6, f7, f8, f9, r1, r2, r3,
        due.readings, due.store, due.lists, due.others, ?_⟩
      rw [if_neg covered]
      refine ⟨rfl, due.grant.trans grant, by rw [boom, Boom.remember_feed]; exact feed,
        by rw [boom, Boom.remember_rotation]; exact rotation, ?_⟩
      rw [due.waitList, list, demand, f1, quiet]
      rfl
  · have sampled := (mixing_sample running calm phase rfl).trans (if_pos ((mixDone_iff
      (h.mixed s.clock (s.boom b).inForce.speed) s.params (s.depth b)).2
      ⟨by show 6000 * _ ≤ h.mixSum + _; rw [← total]; exact met, seated⟩))
    obtain ⟨g, entered, only, hole⟩ := endMixing_enters (k := h.mixed s.clock (s.boom b).inForce.speed) (running_context running).1
      phase chuck still unposted masked quiet drive heard
    rw [← sampled] at entered only
    have figures : g.mixEnd = some s.clock ∧ g.mixSum = sum ∧ g.mixStart = some start ∧
        g.resinStart = some (h.resinStart.getD s.clock) := by
      rw [total, started]
      rcases hole with e | e <;> rw [e] <;> exact ⟨rfl, rfl, rfl, rfl⟩
    exact ⟨_, g, rfl, only, PhaseEntered.of_same (h := h)
      (k := { h.mixed s.clock (s.boom b).inForce.speed with mixEnd := some s.clock }) rfl rfl rfl rfl entered, figures⟩
  · have undone : ¬ (h.mixed s.clock (s.boom b).inForce.speed).mixDone s.params (s.depth b) = true := by
      rw [mixDone_iff]
      show ¬ (6000 * h.plan.recipe.mixRevs ≤ h.mixSum + _ ∧ h.drilled.getD 0 - 10 * s.params.seatTolerance ≤ s.depth b)
      rw [← total]
      omega
    have running_on : ¬ timerReaches s.clock (h.mixed s.clock (s.boom b).inForce.speed).mixStart h.plan.recipe.mixTimeMax = true := by
      intro reached
      have late : h.plan.recipe.mixTimeMax ≤ 10 * ticksSince s.clock (h.mixStart.getD s.clock) := of_decide_eq_true reached
      rw [← started] at late
      omega
    refine ⟨_, (mixing_sample running calm phase rfl).trans ((if_neg undone).trans (if_neg running_on)), ?_, ?_, ?_⟩
    · show phaseFeed s.params h.plan.recipe h.phase = _
      rw [phase]
      rfl
    · show phaseRotation h.plan.recipe h.phase = _
      rw [phase]
      rfl
    · rw [total, started]
      rfl
  · have undone : ¬ (h.mixed s.clock (s.boom b).inForce.speed).mixDone s.params (s.depth b) = true := by
      rw [mixDone_iff]
      show ¬ (6000 * h.plan.recipe.mixRevs ≤ h.mixSum + _ ∧ h.drilled.getD 0 - 10 * s.params.seatTolerance ≤ s.depth b)
      rw [← total]
      omega
    have elapsed : timerReaches s.clock (h.mixed s.clock (s.boom b).inForce.speed).mixStart h.plan.recipe.mixTimeMax = true := by
      refine decide_eq_true ?_
      rw [started] at late
      exact late
    have sampled : s.contextSample b =
        ((s.setBoom b (((s.boom b).drivenBy s.params (h.mixed s.clock (s.boom b).inForce.speed)).raise [.mixShort])).stopInPhase b
          (h.mixed s.clock (s.boom b).inForce.speed) .mixShort
          (10 * (h.mixed s.clock (s.boom b).inForce.speed).resinAge s.clock)).evaluate := by
      refine (mixing_sample running calm phase rfl).trans ((if_neg undone).trans ((if_pos elapsed).trans ?_))
      unfold State.takeMixShort State.raise
      rw [State.setBoom_boom, setBoom_setBoom]
      rfl
    obtain ⟨only, own, grant⟩ := stopInPhase_only (s := s) (b := b)
      (y := ((s.boom b).drivenBy s.params (h.mixed s.clock (s.boom b).inForce.speed)).raise [.mixShort]) quiet
      ⟨rfl, rfl, rfl, rfl, rfl⟩ (h.mixed s.clock (s.boom b).inForce.speed) .mixShort
      (10 * (h.mixed s.clock (s.boom b).inForce.speed).resinAge s.clock)
    rw [← sampled] at only own grant
    refine ⟨_, _, _, rfl, only, by rw [own]; rfl, rfl, rfl, rfl, total.symm, ?_⟩
    rw [grant, ← phase]
    rfl
  · refine ⟨_, (holding_sample running calm phase mixEnd).trans (if_neg (Nat.not_le.2 early)), rfl, ?_, ?_⟩
    · show phaseFeed s.params h.plan.recipe h.phase = _
      rw [phase]
      rfl
    · show phaseRotation h.plan.recipe h.phase = _
      rw [phase]
      rfl
  · have sampled := (holding_sample running calm phase mixEnd).trans (if_pos late)
    obtain ⟨g, entered, only, _, _, hole⟩ := endHolding_enters phase chuck still (drivenBy_readings (s.boom b) s.params h)
      (running_context running).1 (drivenBy_posted unposted masked _ _) quiet drive heard
    rw [← sampled] at entered only
    have figures : g.holdEnd = some s.clock ∧ g.torqueRun = [] ∧ g.peak = 0 := by
      rcases hole with e | e <;> rw [e] <;> exact ⟨rfl, rfl, rfl⟩
    exact ⟨_, g, rfl, only, PhaseEntered.of_same (h := h) (k := h.held s.clock) rfl rfl rfl rfl entered, figures⟩

end Sys2Proof.Machine
end

section
/-! SUPPORT. Samples of the phases that end on a depth, and the end of DRILLING (R23, R26, R84, R90). -/

namespace Sys2Proof.Machine

/-! ## A profile's condition and open interval -/

theorem addBand_keeps (p : Profile) (a : Addition) :
    (p.addBand a).cond = p.cond ∧ (p.addBand a).interval = p.interval ∧ (p.addBand a).frontier = p.frontier ∧
      (p.addBand a).anchor = p.anchor := by
  unfold Profile.addBand
  split
  · exact ⟨rfl, rfl, rfl, rfl⟩
  · split
    · exact ⟨rfl, rfl, rfl, rfl⟩
    · split <;> exact ⟨rfl, rfl, rfl, rfl⟩

theorem closeInterval_cond (g : StrataFigures) (kind : CloseKind) (iv : Interval) (p : Profile) :
    (p.closeInterval g kind iv).1.cond = p.cond := (addBand_keeps _ _).1

theorem profile_sample_cond (g : StrataFigures) (depth : Nat) (v : Quad (Option Nat)) (p : Profile) :
    (p.sample g depth v).1.cond = p.cond := by
  unfold Profile.sample
  split
  · next opened _ =>
    split
    · unfold Profile.closeTests
      split
      · exact closeInterval_cond g _ _ _
      · split
        · exact closeInterval_cond g _ _ _
        · rfl
    · rfl
  · rfl

theorem closePartial_closed (g : StrataFigures) {p : Profile} (opened : p.cond = .opened) :
    (p.closePartial g).1.cond = .closed ∧ (p.closePartial g).1.interval = none := by
  unfold Profile.closePartial
  rw [opened]
  cases interval : p.interval with
  | none => exact ⟨rfl, rfl⟩
  | some iv =>
    dsimp only
    split <;> exact ⟨rfl, rfl⟩

/-! ## The sample's own update of the boom -/

/-- The boom with a sample in its profile (R66, R67, R76). -/
def Boom.profiled (x : Boom) (g : StrataFigures) : Boom :=
  { x with profile := (x.profile.sample g x.depth x.inForce).1, wasEligible := true }.raise
    (if (x.profile.sample g x.depth x.inForce).2 then [Cond.voidStruck] else [])

theorem profileSample_profiled (s : State) (b : Slot) (h : Hole) (y : Boom) :
    (s.setBoom b y).profileSample b h = s.setBoom b (y.profiled (strataFigures s.params h.plan.recipe)) := by
  obtain ⟨z, sampled, boom⟩ := profileSample_setBoom s b h y
  rw [sampled, boom]
  rfl

theorem phaseSample_collaring {s : State} {b : Slot} {h : Hole} (phase : h.phase = .collaring) :
    s.phaseSample b h = s.collaringSample b h := by
  unfold State.phaseSample
  rw [phase]

theorem phaseSample_drilling {s : State} {b : Slot} {h : Hole} (phase : h.phase = .drilling) :
    s.phaseSample b h = s.drillingSample b h := by
  unfold State.phaseSample
  rw [phase]

theorem phaseSample_retractDrill {s : State} {b : Slot} {h : Hole} (phase : h.phase = .retractDrill) :
    s.phaseSample b h = s.retractDrillSample b h := by
  unfold State.phaseSample
  rw [phase]

theorem phaseSample_inserting {s : State} {b : Slot} {h : Hole} (phase : h.phase = .inserting) :
    s.phaseSample b h = s.insertingSample b h := by
  unfold State.phaseSample
  rw [phase]

theorem collaring_sample {s : State} {b : Slot} {h k : Hole} (running : (s.boom b).running = some (.active, h))
    (timers : k = h.sampleTimers (s.depth b) s.clock) (calm : s.stopCause b (s.activeConds b k) = none) (phase : k.phase = .collaring) :
    s.contextSample b =
      if 10 * k.plan.recipe.collarDepth ≤ s.depth b then
        (s.setBoom b (((s.boom b).drivenBy s.params k).profiled (strataFigures s.params k.plan.recipe))).cross b k
      else s.setBoom b (((s.boom b).drivenBy s.params k).profiled (strataFigures s.params k.plan.recipe)) := by
  rw [timers] at calm
  rw [contextSample_active running calm, ← timers, phaseSample_collaring phase]
  unfold State.collaringSample
  dsimp only
  rw [drivePhase_ranged, profileSample_profiled, depth_setBoom]
  rfl

theorem drilling_sample {s : State} {b : Slot} {h k : Hole} (running : (s.boom b).running = some (.active, h))
    (timers : k = h.sampleTimers (s.depth b) s.clock) (calm : s.stopCause b (s.activeConds b k) = none) (phase : k.phase = .drilling) :
    s.contextSample b =
      if k.plan.target ≤ s.depth b then
        (s.setBoom b (((s.boom b).drivenBy s.params k).profiled (strataFigures s.params k.plan.recipe))).endDrilling b k
      else s.setBoom b (((s.boom b).drivenBy s.params k).profiled (strataFigures s.params k.plan.recipe)) := by
  rw [timers] at calm
  rw [contextSample_active running calm, ← timers, phaseSample_drilling phase]
  unfold State.drillingSample
  dsimp only
  rw [drivePhase_ranged, profileSample_profiled, depth_setBoom]
  rfl

theorem retractDrill_sample {s : State} {b : Slot} {h k : Hole} (running : (s.boom b).running = some (.active, h))
    (timers : k = h.sampleTimers (s.depth b) s.clock) (calm : s.stopCause b (s.activeConds b k) = none)
    (phase : k.phase = .retractDrill) :
    s.contextSample b =
      if s.depth b ≤ 10 * s.params.homeTolerance then (s.setBoom b ((s.boom b).drivenBy s.params k)).cross b k
      else s.setBoom b ((s.boom b).drivenBy s.params k) := by
  rw [timers] at calm
  rw [contextSample_active running calm, ← timers, phaseSample_retractDrill phase]
  unfold State.retractDrillSample State.atHome
  dsimp only
  rw [drivePhase_ranged, depth_setBoom]
  simp only [decide_eq_true_eq]
  rfl

theorem inserting_sample {s : State} {b : Slot} {h k : Hole} (running : (s.boom b).running = some (.active, h))
    (timers : k = h.sampleTimers (s.depth b) s.clock) (calm : s.stopCause b (s.activeConds b k) = none)
    (phase : k.phase = .inserting) :
    s.contextSample b =
      if k.drilled.getD 0 - 10 * s.params.mixStroke ≤ s.depth b then (s.setBoom b ((s.boom b).drivenBy s.params k)).cross b k
      else s.setBoom b ((s.boom b).drivenBy s.params k) := by
  rw [timers] at calm
  rw [contextSample_active running calm, ← timers, phaseSample_inserting phase]
  unfold State.insertingSample
  dsimp only
  rw [drivePhase_ranged, depth_setBoom]
  rfl

theorem drivenBy_driven {x : Boom} {ps : Params} {k : Hole} {p : Phase} (phase : k.phase = p) :
    (x.drivenBy ps k).feed = phaseFeed ps k.plan.recipe p ∧ (x.drivenBy ps k).rotation = phaseRotation k.plan.recipe p := by
  rw [← phase]
  exact ⟨rfl, rfl⟩

/-- What conditions a VOID close of the sample raises are masked with VOID_STRUCK (R76, R131). -/
theorem profiled_posted {x : Boom} (unposted : x.posted = 0) (masked : CondSet.has x.enabled .voidStruck = false) (g : StrataFigures) :
    (x.profiled g).posted = 0 := by
  refine raise_unposted unposted (fun c mem => ?_)
  split at mem
  · rw [List.mem_singleton.1 mem]
    exact masked
  · cases mem

theorem mem_drillingConds {r : Recipe} {void : Bool} {g : Grade} {n : Nat} {c : Cond} :
    c ∈ drillingConds r void g n ↔
      (c = .voidStruck ∧ void = true) ∨ (c = .poorAnchor ∧ g = .poor) ∨ (c = .shortResin ∧ r.maxCartridges < n) := by
  unfold drillingConds
  by_cases v : void = true <;> by_cases poor : g = .poor <;> by_cases short : r.maxCartridges < n <;> simp [v, poor, short]

/-! ## The end of DRILLING -/

/-- The boom as DRILLING ends on it: the profile closed and assessed, and its conditions raised (R70, R83, R84, R90). -/
def Boom.drilledOut (x : Boom) (p : Profile) (a : Anchor) (cs : List Cond) : Boom :=
  { x with profile := { p with anchor := some a } }.raise cs

theorem endDrilling_setBoom (s : State) (b : Slot) (y : Boom) (k : Hole) {closed : Profile × Bool}
    (closing : closed = y.profile.closePartial (strataFigures s.params k.plan.recipe)) {a : Anchor}
    (assessed : a = closed.1.assess s.params k.plan.recipe.encapsulation) {n : Nat}
    (counted : n = computedCount k.plan.recipe a.grade (!CondSet.has y.enabled .poorAnchor)) :
    (s.setBoom b y).endDrilling b k =
      (s.setBoom b (y.drilledOut closed.1 a (drillingConds k.plan.recipe closed.2 a.grade n))).cross b
        (k.drillingFigures closed.1.frontier n) := by
  subst counted assessed closing
  unfold State.endDrilling
  dsimp only
  rw [State.setBoom_boom, setBoom_setBoom]
  rfl

theorem drillingFigures_phase (h : Hole) (frontier n : Nat) : (h.drillingFigures frontier n).phase = h.phase := rfl

theorem computedCount_eq (r : Recipe) (g : Grade) (enabled : Bool) :
    computedCount r g (!enabled) = baseCount r + (if g = .fair ∨ (g = .poor ∧ enabled = false) then 1 else 0) := by
  cases g <;> cases enabled <;> rfl

/-- The conditions raised from a DRILLING sample to the end of DRILLING, on the boom as it was sampled. -/
theorem drilledOut_posted (x : Boom) (ps : Params) (k : Hole) (g : StrataFigures) (p : Profile) (a : Anchor) (cs : List Cond) :
    (((x.drivenBy ps k).profiled g).drilledOut p a cs).posted =
      (x.markSeen.raise (x.rangeConds ++ (if (x.profile.sample g x.depth x.inForce).2 then [Cond.voidStruck] else []) ++ cs)).posted := by
  rw [← raise_raise, ← raise_raise]
  rfl

theorem drilling_posts {c : Cond} (h : c = .voidStruck ∨ c = .poorAnchor ∨ c = .shortResin ∨ c = .sensorRange) (e : CondSet) :
    c.posts e = CondSet.has e c := by
  rcases h with rfl | rfl | rfl | rfl <;> rfl

theorem mem_drilledOut_conds {x : Boom} {g : StrataFigures} {r : Recipe} {void : Bool} {grade : Grade} {n : Nat} {c : Cond}
    (mem : c ∈ x.rangeConds ++ (if (x.profile.sample g x.depth x.inForce).2 then [Cond.voidStruck] else []) ++
      drillingConds r void grade n) :
    (c = .sensorRange ∧ x.newlyOut = true) ∨
      (c = .voidStruck ∧ ((x.profile.sample g x.depth x.inForce).2 = true ∨ void = true)) ∨ (c = .poorAnchor ∧ grade = .poor) ∨
        (c = .shortResin ∧ r.maxCartridges < n) := by
  unfold Boom.rangeConds at mem
  rcases List.mem_append.1 mem with early | ending
  · rcases List.mem_append.1 early with range | void
    · split at range
      · next out => exact Or.inl ⟨List.mem_singleton.1 range, out⟩
      · cases range
    · split at void
      · next struck => exact Or.inr (Or.inl ⟨List.mem_singleton.1 void, Or.inl struck⟩)
      · cases void
  · rcases mem_drillingConds.1 ending with ⟨e, v⟩ | rest
    · exact Or.inr (Or.inl ⟨e, Or.inr v⟩)
    · exact Or.inr (Or.inr rest)

/-- The end of DRILLING leaves the boom's readings and its level (R25). -/
theorem drilledOut_readings (x : Boom) (ps : Params) (k : Hole) (g : StrataFigures) (p : Profile) (a : Anchor) (cs : List Cond) :
    Boom.SameReadings x (((x.drivenBy ps k).profiled g).drilledOut p a cs) ∧
      (((x.drivenBy ps k).profiled g).drilledOut p a cs).level = x.level :=
  ⟨⟨rfl, rfl, rfl, rfl, rfl⟩, rfl⟩

/-- A DRILLING sample at the target that no condition stops crosses the boundary after DRILLING (R26). -/
theorem drillingEnd_crosses {s : State} {b : Slot} {h k : Hole} {closed : Profile × Bool} {a : Anchor} {n : Nat}
    (running : (s.boom b).running = some (.active, h)) (timers : k = h.sampleTimers (s.depth b) s.clock)
    (calm : s.stopCause b (s.activeConds b k) = none) (phase : k.phase = .drilling) (target : k.plan.target ≤ s.depth b)
    (fits : s.fits b = true) (quiet : s.flowQuiet) (drive : s.drive = some true) (heard : s.link.silent = false)
    (closing : closed = (((s.boom b).profile.sample (strataFigures s.params k.plan.recipe) (s.depth b) (s.boom b).inForce).1).closePartial
      (strataFigures s.params k.plan.recipe))
    (assessed : a = closed.1.assess s.params k.plan.recipe.encapsulation)
    (counted : n = computedCount k.plan.recipe a.grade (!CondSet.has (s.boom b).enabled .poorAnchor)) :
    ∃ g, s.Crossed (s.contextSample b) b
      ((((s.boom b).drivenBy s.params k).profiled (strataFigures s.params k.plan.recipe)).drilledOut closed.1 a
        (drillingConds k.plan.recipe closed.2 a.grade n)) (k.drillingFigures closed.1.frontier n) g .retractDrill := by
  have next : (k.drillingFigures closed.1.frontier n).phase.next = some .retractDrill := by
    rw [drillingFigures_phase, phase]
    rfl
  obtain ⟨readings, level⟩ := drilledOut_readings (s.boom b) s.params k (strataFigures s.params k.plan.recipe) closed.1 a
    (drillingConds k.plan.recipe closed.2 a.grade n)
  rw [drilling_sample running timers calm phase, if_pos target,
    endDrilling_setBoom s b (((s.boom b).drivenBy s.params k).profiled (strataFigures s.params k.plan.recipe)) k closing assessed
      counted]
  exact cross_setBoom_either fits next rfl (by decide) readings (level.trans (running_context running).1) quiet drive heard

/-- Settles O6: below its depth a phase drives on; at it, the boundary is crossed with what the sample has raised. -/
theorem drillingSampleGoesOn : Obligations.DrillingSampleGoesOn := by
  refine ⟨fun s b h running phase calm short => ?_, fun s b h feed rotation running calm phases => ?_,
    fun s b h running calm quiet drive heard unposted void sensor => ?_,
    fun s b h p a n running calm phase target fits quiet drive heard unposted opened closed assessed counted => ?_⟩
  all_goals
    obtain ⟨k, timers⟩ : ∃ k, k = h.sampleTimers (s.depth b) s.clock := ⟨_, rfl⟩
    have same : Hole.SameWork h k := timers ▸ sampleTimers_sameWork h (s.depth b) s.clock
    rw [← timers] at calm
  · refine ⟨((s.boom b).drivenBy s.params k).profiled (strataFigures s.params k.plan.recipe), ?_, ?_, ?_, ?_, ?_, rfl, rfl,
      ⟨rfl, rfl, rfl, rfl, rfl⟩⟩
    · rw [drilling_sample running timers calm (same.phase.trans phase), if_neg (by rw [same.plan]; omega)]
    · rw [← timers]
      rfl
    · rw [← same.plan]
      exact (drivenBy_driven (x := s.boom b) (ps := s.params) (same.phase.trans phase)).1
    · rw [← same.plan]
      exact (drivenBy_driven (x := s.boom b) (ps := s.params) (same.phase.trans phase)).2
    · rw [← same.plan]
      rfl
  · rw [← timers]
    rcases phases with ⟨phase, short, rfl, rfl⟩ | ⟨phase, short, rfl, rfl⟩ | ⟨phase, short, rfl, rfl⟩
    · have driven := drivenBy_driven (x := s.boom b) (ps := s.params) (same.phase.trans phase)
      rw [same.plan] at driven
      refine ⟨((s.boom b).drivenBy s.params k).profiled (strataFigures s.params k.plan.recipe), ?_, rfl, driven.1, driven.2, rfl,
        rfl, ⟨rfl, rfl, rfl, rfl, rfl⟩⟩
      rw [collaring_sample running timers calm (same.phase.trans phase), if_neg (by rw [same.plan]; omega)]
    · have driven := drivenBy_driven (x := s.boom b) (ps := s.params) (same.phase.trans phase)
      refine ⟨(s.boom b).drivenBy s.params k, ?_, rfl, driven.1, driven.2, rfl, rfl, ⟨rfl, rfl, rfl, rfl, rfl⟩⟩
      rw [retractDrill_sample running timers calm (same.phase.trans phase), if_neg (by omega)]
    · have driven := drivenBy_driven (x := s.boom b) (ps := s.params) (same.phase.trans phase)
      rw [same.plan] at driven
      refine ⟨(s.boom b).drivenBy s.params k, ?_, rfl, driven.1, driven.2, rfl, rfl, ⟨rfl, rfl, rfl, rfl, rfl⟩⟩
      rw [inserting_sample running timers calm (same.phase.trans phase), if_neg (by rw [same.drilled]; omega)]
  · have ranged : ((s.boom b).drivenBy s.params k).posted = 0 := drivenBy_posted unposted sensor _ _
    have level := (running_context running).1
    refine ⟨fun phase reached => ?_, fun phase reached => ?_, fun phase reached => ?_⟩
    · have sampled := (collaring_sample running timers calm (same.phase.trans phase)).trans (if_pos (by rw [same.plan]; exact reached))
      obtain ⟨g, entered, only, profile, _⟩ := cross_setBoom_enters (s := s) (b := b) (h := k) (p := .drilling)
        (y := ((s.boom b).drivenBy s.params k).profiled (strataFigures s.params k.plan.recipe))
        (by rw [same.phase, phase]; rfl) ⟨rfl, rfl, rfl, rfl, rfl⟩ level (profiled_posted ranged void _) quiet drive heard
        (enter_direct rfl k s.clock)
      rw [← sampled] at entered only profile
      refine ⟨_, g, rfl, only, PhaseEntered.of_same same.plan same.drilled same.planned same.exceptions entered, ?_⟩
      rw [profile, ← same.plan]
      rfl
    · have sampled := (retractDrill_sample running timers calm (same.phase.trans phase)).trans (if_pos reached)
      obtain ⟨g, entered, only, _, _, _, hole⟩ := cross_setBoom_enters (s := s) (b := b) (h := k) (p := .resinLoad)
        (by rw [same.phase, phase]; rfl) (drivenBy_readings (s.boom b) s.params k) level ranged quiet drive heard
        (enter_direct rfl k s.clock)
      rw [← sampled] at entered only
      refine ⟨_, g, rfl, only, PhaseEntered.of_same same.plan same.drilled same.planned same.exceptions entered, ?_⟩
      rcases hole with e | e <;> rw [e] <;> exact ⟨rfl, rfl⟩
    · have sampled := (inserting_sample running timers calm (same.phase.trans phase)).trans
        (if_pos (by rw [same.drilled]; exact reached))
      obtain ⟨g, entered, only, _, _, _, hole⟩ := cross_setBoom_enters (s := s) (b := b) (h := k) (p := .mixing)
        (by rw [same.phase, phase]; rfl) (drivenBy_readings (s.boom b) s.params k) level ranged quiet drive heard
        (enter_direct rfl k s.clock)
      rw [← sampled] at entered only
      refine ⟨_, g, rfl, only, PhaseEntered.of_same same.plan same.drilled same.planned same.exceptions entered, ?_⟩
      rcases hole with e | e <;> rw [e] <;> exact ⟨rfl, rfl⟩
  · rw [← same.plan] at closed assessed counted target ⊢
    obtain ⟨out, closing⟩ : ∃ out, out =
      (((s.boom b).profile.sample (strataFigures s.params k.plan.recipe) (s.depth b) (s.boom b).inForce).1).closePartial
        (strataFigures s.params k.plan.recipe) := ⟨_, rfl⟩
    have shut : p = out.1 := closed.trans (congrArg Prod.fst closing.symm)
    rw [shut] at assessed
    obtain ⟨g, crossed⟩ := drillingEnd_crosses running timers calm (same.phase.trans phase) target fits quiet drive heard closing
      assessed (counted.trans (computedCount_eq _ _ _).symm)
    rw [← shut] at crossed
    have sets := drilledOut_posted (s.boom b) s.params k (strataFigures s.params k.plan.recipe) p a
      (drillingConds k.plan.recipe out.2 a.grade n)
    have drilling : (k.drillingFigures p.frontier n).phase = .drilling :=
      (drillingFigures_phase k _ _).trans (same.phase.trans phase)
    have stops := crossed.stops
    rw [drilling, sets] at stops
    have poorPosts := drilling_posts (c := .poorAnchor) (Or.inr (Or.inl rfl)) (s.boom b).enabled
    have shortPosts := drilling_posts (c := .shortResin) (Or.inr (Or.inr (Or.inl rfl))) (s.boom b).enabled
    have goesOn : (∀ c ∈ (s.boom b).rangeConds ++
        (if ((s.boom b).profile.sample (strataFigures s.params k.plan.recipe) (s.boom b).depth (s.boom b).inForce).2 then
          [Cond.voidStruck] else []) ++ drillingConds k.plan.recipe out.2 a.grade n, CondSet.has (s.boom b).enabled c = false) →
        g.phase = .retractDrill ∧ ((s.contextSample b).boom b).current = 0 ∧
          ((s.contextSample b).boom b).seen = Quad.fill false ∧ s.FlowAsked (s.contextSample b) b g := fun masked =>
      ⟨crossed.phase, crossed.enters (sets.trans (raise_unposted unposted masked))⟩
    have shutProfile := closePartial_closed (strataFigures s.params k.plan.recipe)
      ((profile_sample_cond (strataFigures s.params k.plan.recipe) (s.depth b) (s.boom b).inForce (s.boom b).profile).trans opened)
    rw [← closed] at shutProfile
    refine ⟨_, g, rfl, crossed.only, crossed.hole, shutProfile.1, shutProfile.2, crossed.profile, crossed.figures.plan,
      crossed.figures.drilled, crossed.figures.computed, crossed.figures.planned, fun poor => ?_, fun short => ?_,
      fun poor enabled => ?_, fun rich short enabled => ?_, fun disabled => ?_, fun poor short sensor void => goesOn ?_⟩
    · rw [crossed.accrued]
      unfold Boom.drilledOut
      rw [raise_accrued_has, decide_eq_true (mem_drillingConds.2 (Or.inr (Or.inl ⟨rfl, poor⟩))), Bool.or_true]
    · rw [crossed.accrued]
      unfold Boom.drilledOut
      rw [raise_accrued_has, decide_eq_true (mem_drillingConds.2 (Or.inr (Or.inr ⟨rfl, short⟩))), Bool.or_true]
    · obtain ⟨f, stopped, cause, operand⟩ := stops _ (raise_top unposted
        (List.mem_append_right _ (mem_drillingConds.2 (Or.inr (Or.inl ⟨rfl, poor⟩)))) (poorPosts.trans enabled) (fun d mem _ => by
          rcases mem_drilledOut_conds mem with ⟨rfl, _⟩ | ⟨rfl, _⟩ | ⟨rfl, _⟩ | ⟨rfl, _⟩ <;> decide))
      exact ⟨f, stopped, cause, operand⟩
    · obtain ⟨f, stopped, cause, operand⟩ := stops _ (raise_top unposted
        (List.mem_append_right _ (mem_drillingConds.2 (Or.inr (Or.inr ⟨rfl, short⟩)))) (shortPosts.trans enabled)
        (fun d mem posts => by
          rcases mem_drilledOut_conds mem with ⟨rfl, _⟩ | ⟨rfl, _⟩ | ⟨rfl, poor⟩ | ⟨rfl, _⟩
          · decide
          · decide
          · exact absurd ⟨poor, poorPosts.symm.trans posts⟩ rich
          · decide))
      exact ⟨f, stopped, cause, operand⟩
    · obtain ⟨g1, g2, _, g4⟩ := goesOn (fun c _ => by rw [disabled]; exact CondSet.has_zero c)
      exact ⟨g1, g2, g4⟩
    · intro c mem
      rcases mem_drilledOut_conds mem with ⟨rfl, new⟩ | ⟨rfl, struck⟩ | ⟨rfl, low⟩ | ⟨rfl, few⟩
      · exact sensor new
      · refine void (struck.imp_right (fun closing_void => ?_))
        rw [closing] at closing_void
        exact closing_void
      · exact poor low
      · exact short few

end Sys2Proof.Machine
end

section
/-! SUPPORT. How samples enter a profile and how its intervals close (R65 to R83). -/

namespace Sys2Proof.Machine

/-! ## The sets only grow by a raise -/

theorem put_toNat_le (s : CondSet) (c : Cond) : s.toNat ≤ (CondSet.put s c).toNat := by
  unfold CondSet.put
  rw [BitVec.toNat_or]
  exact Nat.left_le_or

theorem putAll_toNat_le (cs : List Cond) : ∀ s : CondSet, s.toNat ≤ (CondSet.putAll s cs).toNat := by
  induction cs with
  | nil => exact fun s => Nat.le_refl _
  | cons c cs ih => exact fun s => (put_toNat_le s c).trans (ih (CondSet.put s c))

/-! ## The band an addition ends in -/

theorem takeEnergy_marks (x : Band) (se : Option Nat) : (x.takeEnergy se).isForced = x.isForced ∧ (x.takeEnergy se).bottom = x.bottom := by
  cases se <;> exact ⟨rfl, rfl⟩

theorem extend_marks (x : Band) (a : Addition) : (x.extend a).isForced = (x.isForced || a.isForced) ∧ (x.extend a).bottom = a.bottom :=
  takeEnergy_marks _ _

/-- The last band has its bottom at the addition's, and the mark of a FORCED one (R78, R80). -/
theorem addBand_last (p : Profile) (a : Addition) :
    ∃ last, (p.addBand a).bands.getLast? = some last ∧ (a.isForced = true → last.isForced = true) ∧ last.bottom = a.bottom := by
  have marked : ∀ x : Band, (a.isForced = true → (x.extend a).isForced = true) ∧ (x.extend a).bottom = a.bottom := by
    intro x
    obtain ⟨forced, bottom⟩ := extend_marks x a
    exact ⟨fun set => by rw [forced, set, Bool.or_true], bottom⟩
  unfold Profile.addBand
  split
  · exact ⟨_, rfl, marked _⟩
  · next last _ =>
    split
    · exact ⟨_, List.getLast?_concat, marked last⟩
    · split
      · exact ⟨_, List.getLast?_concat, marked _⟩
      · exact ⟨_, List.getLast?_concat, marked last⟩

/-! ## A sample that meets its interval -/

/-- A FORCED close of an open interval at the frontier, and the interval after it (R69). -/
def Profile.forced (g : StrataFigures) (iv : Interval) (p : Profile) : Profile × Bool :=
  ({ (p.closeInterval g .forced iv).1 with interval := some (Interval.at p.frontier) }, (p.closeInterval g .forced iv).2)

theorem closeTests_forced {g : StrataFigures} {iv : Interval} {p : Profile} (full : 4095 ≤ iv.samples)
    (short : p.frontier < iv.start + 10 * g.interval) : p.closeTests g iv = p.forced g iv := by
  unfold Profile.closeTests
  rw [if_neg (Nat.not_le.2 short)]
  exact if_pos full

theorem forced_profile (g : StrataFigures) (iv : Interval) (p : Profile) :
    (p.forced g iv).1.cond = p.cond ∧ (p.forced g iv).1.frontier = p.frontier ∧
      (p.forced g iv).1.interval = some (Interval.opensAt p.frontier) ∧
      ∃ last, (p.forced g iv).1.bands.getLast? = some last ∧ last.isForced = true ∧ last.bottom = p.frontier := by
  refine ⟨(addBand_keeps _ _).1, (addBand_keeps _ _).2.2.1, rfl, ?_⟩
  obtain ⟨last, found, marked, bottom⟩ := addBand_last
    { p with
      lastSE := (iv.energy g.bit (p.frontier - iv.start)).getD p.lastSE
      refSE :=
        match classify g p.collarLimit p.refSE iv (iv.energy g.bit (p.frontier - iv.start)), iv.energy g.bit (p.frontier - iv.start) with
        | .competent, some e => nextReference p.refSE e
        | _, _ => p.refSE }
    { cls := classify g p.collarLimit p.refSE iv (iv.energy g.bit (p.frontier - iv.start)), top := iv.start, bottom := p.frontier,
      counts := true, se := iv.energy g.bit (p.frontier - iv.start), isPartial := decide (CloseKind.forced = .partialClose),
      isForced := decide (CloseKind.forced = .forced),
      isSuspect := markedSuspect p.collarLimit iv (iv.energy g.bit (p.frontier - iv.start)) }
  exact ⟨last, found, marked rfl, bottom⟩

theorem sample_contributes {g : StrataFigures} {depth : Nat} {v : Quad (Option Nat)} {p : Profile} {iv : Interval}
    (opened : p.cond = .opened) (interval : p.interval = some iv) (near : p.frontier ≤ depth + 10) :
    p.sample g depth v =
      ({ p with frontier := max p.frontier depth } : Profile).closeTests g (iv.withSample v.thrust v.torque v.speed) := by
  unfold Profile.sample
  rw [opened, interval]
  dsimp only
  rw [if_pos near, Interval.take_eq_withSample]

theorem sample_behind {g : StrataFigures} {depth : Nat} {v : Quad (Option Nat)} {p : Profile} {iv : Interval}
    (opened : p.cond = .opened) (interval : p.interval = some iv) (behind : depth + 10 < p.frontier) :
    p.sample g depth v = (p, false) := by
  unfold Profile.sample
  rw [opened, interval]
  exact if_neg (by omega)

/-- A sample that fills an interval short of its length closes it as FORCED (R69). -/
theorem sample_forced {g : StrataFigures} {depth : Nat} {v : Quad (Option Nat)} {p : Profile} {iv : Interval}
    (opened : p.cond = .opened) (interval : p.interval = some iv) (samples : iv.samples = 4094) (near : p.frontier ≤ depth + 10)
    (short : max p.frontier depth < iv.start + 10 * g.interval) :
    (p.sample g depth v).1.cond = .opened ∧ (p.sample g depth v).1.frontier = max p.frontier depth ∧
      (p.sample g depth v).1.interval = some (Interval.opensAt (max p.frontier depth)) ∧
      ∃ last, (p.sample g depth v).1.bands.getLast? = some last ∧ last.isForced = true ∧ last.bottom = max p.frontier depth := by
  rw [sample_contributes opened interval near,
    closeTests_forced (show 4095 ≤ iv.samples + 1 by omega) (show _ < (iv.withSample _ _ _).start + _ from short)]
  obtain ⟨cond, rest⟩ := forced_profile g (iv.withSample v.thrust v.torque v.speed) { p with frontier := max p.frontier depth }
  exact ⟨cond.trans opened, rest⟩

/-! ## The rules said of every profile -/

theorem closePartial_long {g : StrataFigures} {p : Profile} {iv : Interval} (opened : p.cond = .opened) (interval : p.interval = some iv)
    (long : iv.start + 10 ≤ p.frontier) :
    p.closePartial g =
      ({ (p.closeInterval g .partialClose iv).1 with interval := none, cond := .closed }, (p.closeInterval g .partialClose iv).2) := by
  unfold Profile.closePartial
  rw [opened, interval]
  exact if_pos (by omega)

theorem closePartial_short {g : StrataFigures} {p : Profile} {iv : Interval} (opened : p.cond = .opened) (interval : p.interval = some iv)
    (short : p.frontier < iv.start + 10) : p.closePartial g = ({ p with interval := none, cond := .closed }, false) := by
  unfold Profile.closePartial
  rw [opened, interval]
  exact if_neg (by omega)

theorem unopened_stands {p : Profile} (shut : p.cond ≠ .opened) (g : StrataFigures) (depth : Nat) (v : Quad (Option Nat)) :
    p.sample g depth v = (p, false) ∧ p.closePartial g = (p, false) ∧ p.gapTest depth = p := by
  unfold Profile.sample Profile.closePartial Profile.gapTest
  refine ⟨?_, ?_, ?_⟩
  · split
    · next opened _ => exact absurd opened shut
    · rfl
  · split
    · next opened _ => exact absurd opened shut
    · next opened _ => exact absurd opened shut
    · rfl
  · split
    · next opened _ => exact absurd opened shut
    · rfl

/-! ## The anchor assessment -/

theorem soundLength_eq (p : Profile) (z : Nat) :
    p.soundLength z =
      ((p.bands.filter (fun b => decide (b.cls = .competent ∨ b.cls = .hard))).map (fun b => min b.bottom p.frontier - max b.top z)).sum := by
  have sound : ∀ b : Band, b.sound = decide (b.cls = .competent ∨ b.cls = .hard) := by
    intro b
    unfold Band.sound
    cases b.cls <;> rfl
  rw [← funext sound]
  unfold Profile.soundLength Band.inside
  induction p.bands with
  | nil => rfl
  | cons b bs ih =>
    rw [List.map_cons, List.sum_cons, ih, List.filter_cons]
    split
    · rw [List.map_cons, List.sum_cons]
    · exact Nat.zero_add _

theorem thickVoid_iff (p : Profile) (z voidLimit : Nat) :
    p.thickVoid z voidLimit = true ↔
      ∃ b ∈ p.bands, b.cls = .void ∧ max b.top z < min b.bottom p.frontier ∧ 10 * voidLimit < b.bottom - b.top := by
  unfold Profile.thickVoid Band.inside
  rw [List.any_eq_true]
  simp only [Bool.and_eq_true, decide_eq_true_eq, and_assoc, Nat.sub_pos_iff_lt]

theorem competentPercent_eq (p : Profile) (encapsulation : Nat) :
    p.competentPercent encapsulation =
      if p.zoneTop encapsulation < p.frontier then
        100 * p.soundLength (p.zoneTop encapsulation) / (p.frontier - p.zoneTop encapsulation) else 0 := by
  unfold Profile.competentPercent
  by_cases zone : p.zoneTop encapsulation < p.frontier
  · rw [if_pos zone]
    exact if_neg (Nat.not_le.2 zone)
  · rw [if_neg zone]
    exact if_pos (Nat.le_of_not_lt zone)

/-- What makes an anchor POOR: no zone, too little sound rock in it, or a thick VOID (R83). -/
def Profile.poorZone (ps : Params) (encapsulation : Nat) (p : Profile) : Prop :=
  p.frontier ≤ p.zoneTop encapsulation ∨ p.competentPercent encapsulation < ps.anchorFairPct ∨
    p.thickVoid (p.zoneTop encapsulation) ps.voidLimit = true

theorem assess_grade (ps : Params) (encapsulation : Nat) (p : Profile) :
    ((p.assess ps encapsulation).grade = .poor ↔ p.poorZone ps encapsulation) ∧
      ((p.assess ps encapsulation).grade ≠ .poor →
        (p.assess ps encapsulation).grade = if p.competentPercent encapsulation < ps.anchorGoodPct then .fair else .good) := by
  unfold Profile.assess Profile.poorZone
  dsimp only
  by_cases poor : p.poorZone ps encapsulation <;> unfold Profile.poorZone at poor
  · rw [if_pos poor]
    exact ⟨⟨fun _ => poor, fun _ => rfl⟩, fun other => absurd rfl other⟩
  · rw [if_neg poor]
    refine ⟨⟨fun same => ?_, fun low => absurd low poor⟩, fun _ => rfl⟩
    split at same <;> cases same

/-! ## The boom's own samples -/

theorem raise_posted_ge (x : Boom) (cs : List Cond) : x.posted.toNat ≤ (x.raise cs).posted.toNat := putAll_toNat_le _ _

theorem forcedClose_forced {g : StrataFigures} {p : Profile} {iv : Interval} (opened : p.cond = .opened)
    (interval : p.interval = some iv) (full : 4095 ≤ iv.samples) (short : p.frontier < iv.start + 10 * g.interval) :
    p.forcedClose g = p.forced g iv := by
  have due : p.forcedDue g = true := by
    unfold Profile.forcedDue
    rw [opened, interval]
    exact Bool.and_eq_true_iff.2 ⟨decide_eq_true full, decide_eq_true short⟩
  unfold Profile.forcedClose
  rw [interval]
  dsimp only
  rw [if_pos due, closeTests_forced full short]

/-- The boom with its full interval closed by the event of its own (R69, R76). -/
def Boom.intervalForced (x : Boom) (g : StrataFigures) (iv : Interval) : Boom :=
  { x with profile := (x.profile.forced g iv).1 }.raise (if (x.profile.forced g iv).2 then [Cond.voidStruck] else [])

theorem intervalDue_forced {s : State} {b : Slot} {h : Hole} {iv : Interval} (running : (s.boom b).running = some (.active, h))
    (drills : h.phase.drills = true) (opened : (s.boom b).profile.cond = .opened) (interval : (s.boom b).profile.interval = some iv)
    (full : 4095 ≤ iv.samples) (short : (s.boom b).profile.frontier < iv.start + 10 * s.params.profileInterval) :
    s.intervalDue b = s.setBoom b ((s.boom b).intervalForced (strataFigures s.params h.plan.recipe) iv) := by
  obtain ⟨level, auto⟩ := running_context running
  unfold State.intervalDue
  rw [level, auto]
  refine (if_pos drills).trans ?_
  rw [forcedClose_forced (g := strataFigures s.params h.plan.recipe) opened interval full short]
  rfl

theorem drills_of_phase {p : Phase} (drilling : p = .collaring ∨ p = .drilling) : p.drills = true := by
  rcases drilling with rfl | rfl <;> rfl

/-- The boom with an eligible sample of an observed hole in its profile (R66, R182). -/
def Boom.observed (x : Boom) (g : StrataFigures) : Boom :=
  { x.markSeen with
    accrued := CondSet.putAll x.accrued x.rangeConds, wasEligible := true, profile := (x.profile.sample g x.depth x.inForce).1 }

theorem observeSample_observed {x : Boom} {ps : Params} {p : Plan} (turning : 0 < x.inForce.speed.getD 0) (before : x.wasEligible = true) :
    x.observeSample ps p = x.observed (strataFigures ps p.recipe) := by
  have turns : x.turning = true := decide_eq_true turning
  unfold Boom.observeSample Boom.observed
  dsimp only
  rw [if_pos turns, if_pos before, turns]

theorem contextSample_observing {s : State} {b : Slot} {p : Plan} (level : (s.boom b).level = 0) (auto : (s.boom b).auto = .observing p) :
    s.contextSample b = s.setBoom b ((s.boom b).observeSample s.params p) := by
  obtain ⟨retract, manual⟩ := level_zero level
  unfold State.contextSample
  rw [retract, manual, auto]

/-- A sample of COLLARING or DRILLING short of its depth, with no condition to stop it, enters the profile (R66). -/
theorem profiling_sample {s : State} {b : Slot} {h k : Hole} (running : (s.boom b).running = some (.active, h))
    (timers : k = h.sampleTimers (s.depth b) s.clock) (calm : s.stopCause b (s.activeConds b k) = none)
    (short : (k.phase = .collaring ∧ s.depth b < 10 * k.plan.recipe.collarDepth) ∨ (k.phase = .drilling ∧ s.depth b < k.plan.target)) :
    s.contextSample b = s.setBoom b (((s.boom b).drivenBy s.params k).profiled (strataFigures s.params k.plan.recipe)) := by
  rcases short with ⟨phase, short⟩ | ⟨phase, short⟩
  · rw [collaring_sample running timers calm phase, if_neg (Nat.not_le.2 short)]
  · rw [drilling_sample running timers calm phase, if_neg (Nat.not_le.2 short)]

/-- Settles O17: the event and the samples close a full interval as FORCED, and the rules of a profile said one by one. -/
theorem forcedCloseStartsAfresh : Obligations.ForcedCloseStartsAfresh := by
  refine ⟨fun b s h iv fits unhurried running phase opened interval full short => ?_,
    fun b s h iv running phase calm opened interval samples near short => ?_,
    fun b s p iv level auto turning before opened interval samples near short => ?_,
    fun g depth v p q iv jv opened interval frontier sampled => ⟨fun behind => ?_, fun near long => ?_, fun near short full => ?_,
      fun near short few => ?_⟩,
    fun g p iv opened interval => ⟨closePartial_short opened interval, fun long =>
      ⟨_, _, Profile.closeInterval_closed g .partialClose iv p, closePartial_long opened interval long⟩⟩,
    fun depth p iv opened interval => ⟨fun near => ?_, fun far => ?_⟩,
    fun g depth v p shut => unopened_stands shut g depth v,
    fun ps encapsulation p z c pc zone sound percent => ?_⟩
  · let x := (s.boom b).intervalForced (strataFigures s.params h.plan.recipe) iv
    have due : (s.atClock (s.clock + 1)).intervalDue b = (s.atClock (s.clock + 1)).setBoom b x :=
      intervalDue_forced (s := s.atClock (s.clock + 1)) running (drills_of_phase phase) opened interval full short
    have busy : ((s.setBoom b x).boom b).auto ≠ .idle := by
      rw [State.setBoom_boom, show x.auto = (s.boom b).auto from rfl, (running_context running).2]
      nofun
    obtain ⟨_, frontier, afresh, last, found, marked, bottom⟩ :=
      forced_profile (strataFigures s.params h.plan.recipe) iv (s.boom b).profile
    exact ⟨_, x, last, congrArg Host.Outcome.next (timedEvent_setBoom fits due unhurried (settled_of_busy (s := s.setBoom b x) fits busy)),
      rfl, rfl, frontier, by rw [show x.profile.frontier = _ from frontier]; exact afresh, found, marked, by rw [bottom]; exact frontier.symm, rfl, rfl, rfl,
      raise_posted_ge _ _, ⟨rfl, rfl, rfl, rfl, rfl⟩⟩
  · obtain ⟨k, timers⟩ : ∃ k, k = h.sampleTimers (s.depth b) s.clock := ⟨_, rfl⟩
    have same : Hole.SameWork h k := timers ▸ sampleTimers_sameWork h (s.depth b) s.clock
    rw [← timers] at calm ⊢
    rw [← same.phase, ← same.plan] at phase
    obtain ⟨cond, frontier, afresh, last, found, marked, bottom⟩ :=
      sample_forced (g := strataFigures s.params k.plan.recipe) (v := (s.boom b).inForce) opened interval samples near short
    exact ⟨_, last, profiling_sample running timers calm phase, rfl, cond, frontier, afresh.trans (by rw [← frontier]; rfl), found, marked,
      bottom.trans frontier.symm, ⟨rfl, rfl, rfl, rfl, rfl⟩⟩
  · obtain ⟨cond, frontier, afresh, last, found, marked, bottom⟩ :=
      sample_forced (g := strataFigures s.params p.recipe) (v := (s.boom b).inForce) opened interval samples near short
    refine ⟨(s.boom b).observed (strataFigures s.params p.recipe), last, ?_, auto, cond, frontier, afresh.trans (by rw [← frontier]; rfl),
      found, marked, bottom.trans frontier.symm, rfl, rfl, ⟨rfl, rfl, rfl, rfl, rfl⟩⟩
    rw [contextSample_observing level auto, observeSample_observed turning before]
  · exact sample_behind opened interval behind
  · rw [sample_contributes opened interval near, ← frontier, ← sampled]
    refine ⟨_, _, Profile.closeInterval_closed g .normal jv q, ?_⟩
    rw [← show jv.start = iv.start by rw [sampled]; rfl] at long
    unfold Profile.closeTests
    exact if_pos long
  · rw [sample_contributes opened interval near, ← frontier, ← sampled]
    refine ⟨_, _, Profile.closeInterval_closed g .forced jv q, ?_⟩
    rw [← show jv.start = iv.start by rw [sampled]; rfl] at short
    exact closeTests_forced full short
  · rw [sample_contributes opened interval near, ← frontier, ← sampled]
    rw [← show jv.start = iv.start by rw [sampled]; rfl] at short
    unfold Profile.closeTests
    rw [if_neg (Nat.not_le.2 short)]
    exact if_neg (Nat.not_le.2 few)
  · unfold Profile.gapTest
    rw [opened, interval]
    exact if_neg (Nat.not_lt.2 near)
  · refine ⟨_, Profile.addBand_added p _ (fun e none => ?_), ?_⟩
    · cases none
    · unfold Profile.gapTest
      rw [opened, interval]
      exact if_pos far
  · have anchor : (p.assess ps encapsulation).percent = pc := by
      show p.competentPercent encapsulation = pc
      rw [competentPercent_eq, soundLength_eq, percent, sound, zone]
      rfl
    obtain ⟨poor, other⟩ := assess_grade ps encapsulation p
    rw [show p.competentPercent encapsulation = pc from anchor] at other
    refine ⟨anchor, poor.trans ?_, other⟩
    unfold Profile.poorZone
    rw [thickVoid_iff, show p.competentPercent encapsulation = pc from anchor, zone]
    rfl

end Sys2Proof.Machine
end

section
/-! SUPPORT. Fields laid out one behind the other, and the transmitter's choice slot by slot (R192, R193, R196). -/

namespace Sys2Proof.Machine

/-! ## Layouts -/

/-- The fields that chunks of bytes make, one behind the other from an offset. -/
def chunkFields : Nat → List (List Byte) → List (Nat × Nat × List Byte)
  | _, [] => []
  | o, c :: cs => (o, c.length, c) :: chunkFields (o + c.length) cs

theorem take_drop_between (before mid after : List Byte) :
    ((before ++ (mid ++ after)).drop before.length).take mid.length = mid := by
  rw [List.drop_left, List.take_left]

/-- Each chunk stands behind the ones before it. -/
theorem chunkFields_stand (cs : List (List Byte)) : ∀ (before : List Byte), ∀ f ∈ chunkFields before.length cs,
    f.2.2.length = f.2.1 ∧ ((before ++ cs.flatten).drop f.1).take f.2.1 = f.2.2 := by
  induction cs with
  | nil => exact fun before f mem => absurd mem List.not_mem_nil
  | cons c cs ih =>
    intro before f mem
    rw [List.flatten_cons]
    rcases List.mem_cons.1 mem with rfl | later
    · exact ⟨rfl, take_drop_between before c cs.flatten⟩
    · rw [← List.append_assoc]
      refine ih (before ++ c) f ?_
      rw [List.length_append]
      exact later

/-- Bytes made of chunks are laid out as the chunks' fields (R196). -/
theorem laidOut_of_chunks {l : List Byte} {n : Nat} {fields : List (Nat × Nat × List Byte)} (cs : List (List Byte))
    (bytes : l = cs.flatten) (length : l.length = n) (among : ∀ f ∈ fields, f ∈ chunkFields 0 cs) : LaidOut l n fields := by
  refine ⟨length, fun f mem => ?_⟩
  rw [bytes]
  exact chunkFields_stand cs [] f (among f mem)

theorem view_bytes_flatten (s : State) (b : Slot) :
    s.statusBytes b =
      [le1 (slotNum b), le1 (s.boom b).view.state, le1 (s.boom b).view.phase, le1 (s.boom b).view.sub, le1 (s.boom b).view.level,
        le2 (s.grant b), le2 ((s.boom b).auto.holeId.getD 0), le2 ((s.boom b).lastGood.position - (s.boom b).p0),
        le1 (flagBit (s.boom b).overdueShown 0)].flatten := rfl

/-! ## The transmitter's end -/

@[simp] theorem startNext_restarting (s : State) : s.startNext.link.restarting = s.link.restarting := by
  rw [startNext_eq]
  unfold State.withLink Link.chosen
  dsimp only
  (repeat' split) <;> rfl

/-- With no RESTART taken and no request waiting, the end of a frame is followed by the next choice (R193). -/
theorem transmitEnd_next {s : State} {f : Frame} (sending : s.startNext.link.sending = some f) (kept : s.link.restarting = false)
    (unhurried : s.unhurried) : s.transmitEnd = s.startNext.sent.startNext := by
  have calm : s.startNext.link.restartDue = false := by
    unfold Link.restartDue
    rw [startNext_restarting, kept]
    rfl
  rw [← transmitEnd_startNext, transmitEnd_busy sending, calm]
  exact serve_unhurried ((startNext_waiting s).trans unhurried)

/-! ## The slots in their order -/

theorem nextException_first {l : Link} {b : Slot} {e : ExFrame} (full : l.exceptionReport.get b = some e)
    (first : ∀ c, slotNum c < slotNum b → l.exceptionReport.get c = none) : l.nextException = some (b, e) := by
  unfold Link.nextException Slot.all
  cases b with
  | s1 => simp [full]
  | s2 => simp [full, first .s1 (by decide)]
  | s3 => simp [full, first .s1 (by decide), first .s2 (by decide)]
  | s4 => simp [full, first .s1 (by decide), first .s2 (by decide), first .s3 (by decide)]

theorem nextException_none {l : Link} (empty : ∀ b, l.exceptionReport.get b = none) : l.nextException = none := by
  unfold Link.nextException
  rw [List.findSome?_eq_none_iff]
  intro b _
  rw [empty b]
  rfl

theorem nextStatus_first {l : Link} {b : Slot} (full : l.boomStatus.get b = true)
    (first : ∀ c, slotNum c < slotNum b → l.boomStatus.get c = false) : l.nextStatus = some b := by
  unfold Link.nextStatus Slot.all
  cases b with
  | s1 => simp [full]
  | s2 => simp [full, first .s1 (by decide)]
  | s3 => simp [full, first .s1 (by decide), first .s2 (by decide)]
  | s4 => simp [full, first .s1 (by decide), first .s2 (by decide), first .s3 (by decide)]

theorem nextStatus_none {l : Link} (empty : ∀ b, l.boomStatus.get b = false) : l.nextStatus = none := by
  unfold Link.nextStatus
  rw [List.find?_eq_none]
  intro b _
  rw [empty b]
  exact Bool.false_ne_true

section Choice
variable {l : Link} {mode reserve records : List Byte} {status : Slot → List Byte}

theorem chosen_reply {r : Frame} (idle : l.sending = none) (reply : l.reply = some r) :
    l.chosen mode reserve records status = { l with reply := none, sending := some r } := by
  unfold Link.chosen
  rw [idle, reply]

theorem chosen_exception {b : Slot} {e : ExFrame} (idle : l.sending = none) (reply : l.reply = none)
    (exception : l.nextException = some (b, e)) :
    l.chosen mode reserve records status =
      { l with exceptionReport := l.exceptionReport.set b none, sending := some (reportFrame 0x71 e.bytes) } := by
  unfold Link.chosen
  rw [idle, reply, exception]

theorem chosen_mode {c : ModeCause} (idle : l.sending = none) (reply : l.reply = none) (exception : l.nextException = none)
    (report : l.modeReport = some c) :
    l.chosen mode reserve records status =
      { l with modeReport := none, sending := some (reportFrame 0x72 (le1 c.code ++ mode)) } := by
  unfold Link.chosen
  rw [idle, reply, exception, report]

theorem chosen_flow (idle : l.sending = none) (reply : l.reply = none) (exception : l.nextException = none)
    (report : l.modeReport = none) (granted : l.flowGranted = true) :
    l.chosen mode reserve records status = { l with flowGranted := false, sending := some (reportFrame 0x73 reserve) } := by
  unfold Link.chosen
  rw [idle, reply, exception, report]
  exact if_pos granted

theorem chosen_record (idle : l.sending = none) (reply : l.reply = none) (exception : l.nextException = none)
    (report : l.modeReport = none) (ungranted : l.flowGranted = false) (ready : l.recordReady = true) :
    l.chosen mode reserve records status = { l with recordReady := false, sending := some (reportFrame 0x74 records) } := by
  unfold Link.chosen
  rw [idle, reply, exception, report, ungranted]
  exact if_pos ready

theorem chosen_status {b : Slot} (idle : l.sending = none) (reply : l.reply = none) (exception : l.nextException = none)
    (report : l.modeReport = none) (ungranted : l.flowGranted = false) (unready : l.recordReady = false)
    (next : l.nextStatus = some b) :
    l.chosen mode reserve records status =
      { l with boomStatus := l.boomStatus.set b false, sending := some (reportFrame 0x70 (status b)) } := by
  unfold Link.chosen
  rw [idle, reply, exception, report, ungranted, unready, next]
  rfl

theorem chosen_nothing (idle : l.sending = none) (reply : l.reply = none) (exception : l.nextException = none)
    (report : l.modeReport = none) (ungranted : l.flowGranted = false) (unready : l.recordReady = false)
    (next : l.nextStatus = none) : l.chosen mode reserve records status = l := by
  unfold Link.chosen
  rw [idle, reply, exception, report, ungranted, unready, next]
  rfl

end Choice

/-- The link with the frame being transmitted out, as `State.sent` leaves it (R193). -/
structure Link.SentOut (l k : Link) : Prop where
  idle : k.sending = none
  reply : k.reply = l.reply
  exceptionReport : k.exceptionReport = l.exceptionReport
  modeReport : k.modeReport = l.modeReport
  flowGranted : k.flowGranted = l.flowGranted
  recordReady : k.recordReady = l.recordReady
  boomStatus : k.boomStatus = l.boomStatus

theorem frameEnd_chooses {s : State} {f : Frame} (sending : s.link.sending = some f) (kept : s.link.restarting = false)
    (unhurried : s.unhurried) :
    ∃ k, Link.SentOut s.link k ∧
      exec .frameTransmitEnd s =
        .next (s.withLink (k.chosen s.modeBytes s.reserveBytes (le1 s.log.length) s.statusBytes)) := by
  refine ⟨{ s.link with sending := none }, ⟨rfl, rfl, rfl, rfl, rfl, rfl, rfl⟩, congrArg Host.Outcome.next ?_⟩
  rw [transmitEnd_next (by rw [startNext_busy sending]; exact sending) kept unhurried, startNext_busy sending, startNext_eq]
  rfl

/-- What a boom shows by its contexts, level by level (R192). -/
theorem view_retract {x : Boom} {r : RetractCtx} (retract : x.retract = some r) :
    x.view = { state := 7, phase := 0, sub := r.sub.code, level := 2 } ∧ x.overdueShown = r.overdue := by
  unfold Boom.view Boom.overdueShown
  rw [retract]
  exact ⟨rfl, rfl⟩

theorem view_manual {x : Boom} {m : ManualCtx} (retract : x.retract = none) (manual : x.manual = some m) :
    x.view = { state := 6, phase := 0, sub := m.sub.code, level := 1 } ∧ x.overdueShown = false := by
  unfold Boom.view Boom.overdueShown
  rw [retract, manual]
  exact ⟨rfl, rfl⟩

theorem view_auto {x : Boom} (retract : x.retract = none) (manual : x.manual = none) : x.view = x.auto.view := by
  unfold Boom.view
  rw [retract, manual]

/-- Settles O23: the end of a frame is the next choice, and the choice is read off its closed form. -/
theorem transmitterChoosesInOrder : Obligations.TransmitterChoosesInOrder := by
  refine ⟨fun s idle unhurried => ⟨fun still => ?_, fun f sending kept => ?_⟩, fun s b => ⟨?_, ?_, ?_, rfl, rfl, rfl⟩,
    fun x => ⟨fun r retract => ?_, fun m retract manual => ?_, fun retract manual => ⟨fun auto => ?_, fun c h auto => ?_,
      fun f h auto => ?_, fun c h auto => ⟨?_, ?_⟩, fun r auto => ?_, fun p auto => ?_⟩⟩, ?_,
    fun s f sending kept unhurried => ?_⟩
  · refine congrArg Host.Outcome.next ?_
    rw [transmitEnd_idle still idle, serve_unhurried unhurried, still]
  · exact congrArg Host.Outcome.next (transmitEnd_next sending kept unhurried)
  · exact laidOut_of_chunks _ (view_bytes_flatten s b) rfl (fun f mem => mem)
  · refine laidOut_of_chunks [le1 (match s.mode with | .config => 0 | .run => 1 | .observe => 2),
      le1 (match s.requested with | none => 0xFF | some .config => 0 | some .run => 1 | some .observe => 2)] ?_ rfl
      (fun f mem => mem)
    unfold State.modeBytes
    rcases s.requested with _ | _ | _ | _ <;> cases s.mode <;> rfl
  · refine laidOut_of_chunks [le2 s.arbiter.reserve,
      le2 (match s.arbiter.waitList.find? (fun e => e.requester = .reserve) with | none => 0 | some e => e.demand)] ?_ rfl
      (fun f mem => mem)
    unfold State.reserveBytes Arbiter.entryDemand Arbiter.entryOf
    cases s.arbiter.waitList.find? (fun e => decide (e.requester = .reserve)) <;> rfl
  · exact view_retract retract
  · exact view_manual retract manual
  · rw [view_auto retract manual, auto]
    rfl
  · rw [view_auto retract manual, auto]
    rfl
  · rw [view_auto retract manual, auto]
    rfl
  · rw [view_auto retract manual, auto]
    rfl
  · unfold Boom.overdueShown
    rw [retract, manual, auto]
  · rw [view_auto retract manual, auto]
    exact ⟨rfl, rfl, rfl⟩
  · rw [view_auto retract manual, auto]
    exact ⟨rfl, rfl, rfl⟩
  · rfl
  · obtain ⟨k, out, ends⟩ := frameEnd_chooses sending kept unhurried
    refine ⟨_, ends, fun r reply => ?_, fun noReply => ⟨fun b e full first => ?_, fun quiet => ⟨fun c mode => ?_, fun noMode =>
      ⟨fun granted => ?_, fun ungranted => ⟨fun ready => ?_, fun unready => ⟨fun b full first => ?_, fun empty => ?_⟩⟩⟩⟩⟩⟩
    · rw [chosen_reply out.idle (out.reply.trans reply)]
      exact ⟨rfl, rfl, out.exceptionReport, out.modeReport⟩
    · rw [← out.exceptionReport] at full first ⊢
      rw [chosen_exception out.idle (out.reply.trans noReply) (nextException_first full first)]
      exact ⟨rfl, rfl⟩
    all_goals
      rw [← out.reply] at noReply
      rw [← out.exceptionReport] at quiet
    · rw [chosen_mode out.idle noReply (nextException_none quiet) (out.modeReport.trans mode)]
      exact ⟨rfl, rfl⟩
    · rw [chosen_flow out.idle noReply (nextException_none quiet) (out.modeReport.trans noMode) (out.flowGranted.trans granted)]
      exact ⟨rfl, rfl⟩
    · rw [chosen_record out.idle noReply (nextException_none quiet) (out.modeReport.trans noMode)
        (out.flowGranted.trans ungranted) (out.recordReady.trans ready)]
      exact ⟨rfl, rfl⟩
    · rw [← out.boomStatus] at full first ⊢
      rw [chosen_status out.idle noReply (nextException_none quiet) (out.modeReport.trans noMode)
        (out.flowGranted.trans ungranted) (out.recordReady.trans unready) (nextStatus_first full first)]
      exact ⟨rfl, rfl⟩
    · rw [← out.boomStatus] at empty
      rw [chosen_nothing out.idle noReply (nextException_none quiet) (out.modeReport.trans noMode)
        (out.flowGranted.trans ungranted) (out.recordReady.trans unready) (nextStatus_none empty)]
      exact out.idle

end Sys2Proof.Machine
end

section
/-! SUPPORT. The reads, which change nothing, and the layouts of what they carry (R196, R201 to R204). -/

namespace Sys2Proof.Machine

/-! ## Layouts with entries -/

theorem chunkFields_append (cs ds : List (List Byte)) : ∀ o, ∀ f ∈ chunkFields o cs, f ∈ chunkFields o (cs ++ ds) := by
  induction cs with
  | nil => exact fun o f mem => absurd mem List.not_mem_nil
  | cons c cs ih =>
    intro o f mem
    rcases List.mem_cons.1 mem with rfl | later
    · exact List.mem_cons_self
    · exact List.mem_cons_of_mem _ (ih _ f later)

/-- A chunk that a list of entries keeps from the ones before it stands behind them. -/
theorem laidOut_past {l mid c rest : List Byte} {n o : Nat} {fields : List (Nat × Nat × List Byte)} (cs : List (List Byte))
    (bytes : l = cs.flatten ++ (mid ++ (c ++ rest))) (length : l.length = n) (offset : o = cs.flatten.length + mid.length)
    (form : fields = chunkFields 0 cs ++ [(o, c.length, c)]) : LaidOut l n fields := by
  refine ⟨length, fun f mem => ?_⟩
  rw [form] at mem
  rcases List.mem_append.1 mem with early | last
  · obtain ⟨size, stands⟩ := chunkFields_stand (cs ++ [mid ++ (c ++ rest)]) [] f (chunkFields_append cs _ 0 f early)
    refine ⟨size, ?_⟩
    rw [bytes]
    simpa using stands
  · rw [List.mem_singleton.1 last]
    refine ⟨rfl, ?_⟩
    have stands := take_drop_between (cs.flatten ++ mid) c rest
    rw [List.length_append, ← offset, List.append_assoc] at stands
    rw [bytes]
    exact stands

/-- Entry `i` of a list of entries of one size stands behind what comes before the list. -/
theorem entry_between {α : Type} {f : α → List Byte} {k : Nat} (size : ∀ a, (f a).length = k) {L : List α} {i : Nat} {a : α}
    (entry : L[i]? = some a) (before after : List Byte) {o : Nat} (offset : o = before.length) :
    ((before ++ (L.flatMap f ++ after)).drop (o + k * i)).take k = f a := by
  obtain ⟨inside, rfl⟩ := List.getElem?_eq_some_iff.1 entry
  have parts : before ++ (L.flatMap f ++ after) =
      (before ++ (L.take i).flatMap f) ++ (f L[i] ++ ((L.drop (i + 1)).flatMap f ++ after)) := by
    conv_lhs => rw [← List.take_append_drop i L, List.drop_eq_getElem_cons inside]
    simp only [List.flatMap_append, List.flatMap_cons, List.append_assoc]
  have length : (before ++ (L.take i).flatMap f).length = o + k * i := by
    rw [List.length_append, flatMap_length size, List.length_take_of_le (Nat.le_of_lt inside), offset]
  have stands := take_drop_between (before ++ (L.take i).flatMap f) (f L[i]) ((L.drop (i + 1)).flatMap f ++ after)
  rw [length, size, ← parts] at stands
  exact stands

/-! ## Requests that read -/

/-- A request that only reads is answered with its figures. -/
theorem read_answered {s : State} {c : Instr} {r : Request} {figures : List Byte} {kind tag : Byte} (ready : s.ready)
    (settled : s.settled) (decided : handleRequest r s.heard = s.heard.doneWith figures)
    (carries : c.carries tag r := by exact ⟨rfl, rfl⟩) (wf : r.wellFormed = true := by rfl)
    (replyKind : r.kind ||| 0x80#8 = kind := by simp [Request.kind]) :
    exec c s = .next (s.heard.noted.answered kind tag (le1 0 ++ figures)) :=
  request_answered (st := .ok) ready decided (heard_settled settled) (by decide) carries wf replyKind

theorem heard_deviceStatus (s : State) : s.heard.deviceStatus = s.deviceStatus := by
  obtain ⟨l, h⟩ := heard_link s; rw [h]; rfl

theorem heard_flowBytes (s : State) : s.heard.flowBytes = s.flowBytes := by
  obtain ⟨l, h⟩ := heard_link s; rw [h]; rfl

/-! ## Figures of one size -/

theorem boomBlock_length (s : State) (b : Slot) : (s.boomBlock b).length = 20 := rfl

theorem waitBytes_length (s : State) (e : WaitEntry) : (s.waitBytes e).length = 11 := rfl

theorem band_bytes_length (b : Band) : b.bytes.length = 26 := rfl

/-- The fixed part of the GET_STATUS reply, ahead of the boom blocks (R204). -/
def State.statusHead (s : State) : List (List Byte) :=
  [le1 (match s.mode with | .config => 0 | .run => 1 | .observe => 2),
   le1 (match s.requested with | none => 0xFF | some .config => 0 | some .run => 1 | some .observe => 2),
   le1 (match s.restartCause with | .power => 0 | .restart => 1 | .change => 2), le4 s.clock.toNat,
   le1 ((if s.drive = some true then 1 else 0) + (if s.retractLine = some true then 2 else 0)), le1 s.log.length,
   le1 s.writers.length, le1 s.fittedSlots.length]

theorem deviceStatus_eq (s : State) : s.deviceStatus = s.statusHead.flatten ++ s.fittedSlots.flatMap (fun b => s.boomBlock b) := by
  have lines : flagBit s.driveOn 0 + flagBit s.lineOn 1 =
      (if s.drive = some true then 1 else 0) + (if s.retractLine = some true then 2 else 0) := by
    unfold flagBit State.driveOn State.lineOn
    rcases s.drive with _ | _ | _ <;> rcases s.retractLine with _ | _ | _ <;> rfl
  unfold State.deviceStatus State.statusHead listSection
  rw [lines]
  rcases s.requested with _ | _ | _ | _ <;> cases s.mode <;> cases s.restartCause <;> rfl

/-- The channels out of range, as the last byte of a boom block shows them (R204). -/
theorem outNow_eq {x : Boom} {o : Quad Bool}
    (latest : ∀ r, x.raw = some r →
      o = { thrust := decide (r.thrust = .low ∨ r.thrust = .high), torque := decide (r.torque = .low ∨ r.torque = .high),
            speed := decide (r.speed = .low ∨ r.speed = .high), position := decide (r.position = .low ∨ r.position = .high) })
    (before : x.raw = none → o = Quad.fill false) : x.outNow = o := by
  have out : ∀ r : Reading, isOut r = decide (r = .low ∨ r = .high) := fun r => by cases r <;> rfl
  unfold Boom.outNow
  cases raw : x.raw with
  | none => exact (before raw).symm
  | some r => rw [latest r raw, ← out, ← out, ← out, ← out]

/-- The GET_FLOW reply's chunks up to the wait list's count (R204). -/
def State.flowHead (s : State) : List (List Byte) :=
  [le2 s.params.pumpCapacity,
   le2 (s.params.pumpCapacity - (s.grant .s1 + s.grant .s2 + s.grant .s3 + s.grant .s4 + s.arbiter.reserve)),
   le2 (if s.fits .s1 then s.grant .s1 else 0), le2 (if s.fits .s2 then s.grant .s2 else 0),
   le2 (if s.fits .s3 then s.grant .s3 else 0), le2 (if s.fits .s4 then s.grant .s4 else 0), le2 s.arbiter.reserve,
   le1 s.arbiter.grantList.length]

theorem flowBytes_eq (s : State) :
    s.flowBytes =
      s.flowHead.flatten ++ (s.arbiter.grantList.flatMap (fun r => le1 r.num) ++
        (le1 s.arbiter.waitList.length ++ s.arbiter.waitList.flatMap (fun e => s.waitBytes e))) := by
  unfold State.flowBytes listSection
  simp only [List.append_assoc]
  rfl

/-- Settles O27: each read is decided by its row, and its figures are its chunks one behind the other. -/
theorem deviceAndPlanReads : Obligations.DeviceAndPlanReads := by
  refine ⟨fun s tag a ready settled => ⟨?_, ?_, ?_, ?_, ?_⟩, fun s n count => ⟨rfl, ?_, fun k b entry => ?_⟩,
    fun s b o latest before => ?_, fun s g w grants waits => ⟨?_, fun k r entry => ?_, fun k e entry => ⟨?_, ?_⟩⟩,
    fun r => ⟨rfl, fun i v field => ?_⟩, fun e => ⟨fun standard => ?_, fun d override => ?_⟩⟩
  · rw [← heard_deviceStatus]
    exact read_answered (r := .getStatus) ready settled rfl
  · rw [← heard_flowBytes]
    exact read_answered (r := .getFlow) ready settled rfl
  · have row : handleRequest (.getParam a) s.heard = reqGetParam a s.heard := rfl
    unfold reqGetParam at row
    cases id : ParamId.ofCode a.toNat with
    | none =>
      rw [id] at row
      exact request_refused (r := .getParam a) ready settled row
    | some p =>
      rw [id, heard_params] at row
      exact read_answered (r := .getParam a) ready settled row
  · have row : handleRequest (.getRecipe a) s.heard = reqGetRecipe a s.heard := rfl
    unfold reqGetRecipe at row
    cases index : recipeIndex a with
    | none =>
      rw [index] at row
      exact request_refused (r := .getRecipe a) ready settled row
    | some i =>
      rw [index] at row
      dsimp only at row ⊢
      rw [heard_recipeAt] at row
      cases stored : s.recipeAt i with
      | none =>
        rw [stored] at row
        exact request_refused (r := .getRecipe a) ready settled row
      | some r =>
        rw [stored] at row
        exact read_answered (r := .getRecipe a) ready settled row
  · have row : handleRequest (.getQueue a) s.heard = reqGetQueue a s.heard := rfl
    unfold reqGetQueue at row
    rw [heard_slotOf] at row
    cases named : s.slotOf a with
    | none =>
      rw [named] at row
      exact request_refused (r := .getQueue a) ready settled row
    | some b =>
      rw [named, heard_queues] at row
      exact read_answered (r := .getQueue a) ready settled row
  · subst count
    refine laidOut_of_chunks (s.statusHead ++ [s.fittedSlots.flatMap (fun b => s.boomBlock b)]) ?_ ?_
      (fun f mem => List.mem_append_left [(11, _, _)] mem)
    · rw [deviceStatus_eq]
      simp
    · rw [deviceStatus_eq, List.length_append, flatMap_length (boomBlock_length s)]
      rfl
  · rw [deviceStatus_eq]
    have stands := entry_between (boomBlock_length s) entry s.statusHead.flatten [] (o := 11) rfl
    rw [List.append_nil] at stands
    exact stands
  · refine laidOut_of_chunks [le1 (slotNum b), le1 (s.boom b).view.state, le1 (s.boom b).view.phase, le1 (s.boom b).view.sub,
      le1 (s.boom b).view.level, le2 (s.grant b), le2 ((s.boom b).auto.holeId.getD 0),
      le2 ((s.boom b).lastGood.position - (s.boom b).p0), le2 ((s.boom b).inForce.thrust.getD (s.boom b).lastGood.thrust),
      le2 ((s.boom b).inForce.torque.getD (s.boom b).lastGood.torque),
      le2 ((s.boom b).inForce.speed.getD (s.boom b).lastGood.speed),
      le2 ((s.boom b).inForce.position.getD (s.boom b).lastGood.position),
      le1 ((if o.thrust then 1 else 0) + (if o.torque then 2 else 0) + (if o.speed then 4 else 0) +
        (if o.position then 8 else 0) + (if (s.boom b).overdueShown then 16 else 0))] ?_ rfl (fun f mem => mem)
    unfold State.boomBlock
    dsimp only
    rw [outNow_eq latest before]
    rfl
  · subst grants waits
    refine laidOut_past s.flowHead (flowBytes_eq s) ?_ ?_ rfl
    · rw [flowBytes_eq]
      simp only [List.length_append, flatMap_length (waitBytes_length s),
        flatMap_length (k := 1) (f := fun r : Requester => le1 r.num) (fun _ => rfl),
        show s.flowHead.flatten.length = 15 from rfl, show (le1 s.arbiter.waitList.length).length = 1 from rfl]
      omega
    · rw [flatMap_length (k := 1) (fun _ => rfl), Nat.one_mul]
      rfl
  · rw [flowBytes_eq]
    have stands := entry_between (f := fun r : Requester => le1 r.num) (k := 1) (fun _ => rfl) entry s.flowHead.flatten
      (le1 s.arbiter.waitList.length ++ s.arbiter.waitList.flatMap (fun e => s.waitBytes e)) (o := 15) rfl
    rw [Nat.one_mul] at stands
    exact stands
  · subst grants
    rw [flowBytes_eq, ← List.append_assoc, ← List.append_assoc]
    have stands := entry_between (waitBytes_length s) entry
      ((s.flowHead.flatten ++ s.arbiter.grantList.flatMap (fun r => le1 r.num)) ++ le1 s.arbiter.waitList.length) []
      (o := 16 + s.arbiter.grantList.length) (by
        rw [List.length_append, List.length_append, flatMap_length (k := 1) (fun _ => rfl), Nat.one_mul]
        show _ = 15 + _ + 1
        omega)
    rw [List.append_nil] at stands
    exact stands
  · refine laidOut_of_chunks [le1 (match e.requester with | .boom b => slotNum b | .reserve => 5),
      le1 (match e.cls with | .urgent => 0 | .curing => 1 | .normal => 2), le2 e.demand,
      le2 (match e.requester with | .boom b => s.grant b | .reserve => s.arbiter.reserve),
      le4 (min (10 * (if e.waitAhead then 0 else ticksSince s.clock e.waitStart)) 4294967295),
      le1 (if e.backedOff then 1 else 0)] ?_ rfl (fun f mem => mem)
    unfold State.waitBytes
    cases e.requester <;> cases e.cls <;> rfl
  · have stands := entry_between (f := le2) (k := 2) (fun _ => rfl) (L := r.toList) field [] [] (o := 0) rfl
    rw [List.append_nil, List.nil_append, Nat.zero_add] at stands
    exact stands
  · refine laidOut_of_chunks [le2 e.holeId, le1 e.recipeSlot, le2 e.posTag, le1 0] ?_ ?_ (fun f mem => mem)
    all_goals
      unfold QueueEntry.bytes
      rw [standard]
      rfl
  · refine laidOut_of_chunks [le2 e.holeId, le1 e.recipeSlot, le2 e.posTag, le1 1, le2 d] ?_ ?_ (fun f mem => mem)
    all_goals
      unfold QueueEntry.bytes
      rw [override]
      rfl

/-! ## The reads of a hole -/

/-- The chunks of a profile up to its band list (R204). -/
def Profile.head (p : Profile) : List (List Byte) :=
  [le1 (match p.cond with | .empty => 0 | .opened => 1 | .closed => 2), le2 p.frontier, le2 p.refSE, le2 p.lastSE,
   le1 (if p.truncated then 1 else 0),
   match p.interval with | none => le1 0 | some iv => le1 1 ++ le2 iv.start ++ le2 iv.samples ++ le2 iv.drops,
   match p.anchor with | none => le1 0 | some a => le1 1 ++ a.bytes, le1 p.bands.length]

theorem profile_bytes_eq (p : Profile) : p.bytes = p.head.flatten ++ p.bands.flatMap Band.bytes := by
  unfold Profile.bytes Profile.head
  cases p.cond <;> cases p.interval <;> cases p.anchor <;> rfl

/-- The chunks of a record up to its resolve list (R203). -/
def BoltRecord.head (r : BoltRecord) : List (List Byte) :=
  [le4 r.seq, le4 r.holeId, le1 (slotNum r.slot), le1 r.recipeSlot, le4 r.posTag,
   le1 (match r.verdict with | .accepted => 0 | .flagged => 1 | .rejected => 2 | .logged => 3), le4 r.start.toNat,
   le4 r.finish.toNat, le1 (match r.endPhase with | none => 0 | some p => p.num), le4 r.target, le4 r.drilled,
   le1 (if r.truncated then 1 else 0), le4 r.accrued.toNat, le4 r.exceptions, le4 r.resolveCount, le4 r.takeovers,
   le4 r.retracts, le4 r.movedDistance, le4 r.starves, le4 r.outOfRange.thrust, le4 r.outOfRange.torque,
   le4 r.outOfRange.speed, le4 r.outOfRange.position,
   match r.anchor with | none => le1 0 | some a => le1 1 ++ a.bytes,
   match r.resin with
   | none => le1 0
   | some x => le1 1 ++ le1 x.planned ++ le1 x.loaded ++ le4 x.mixRevs ++ le4 (min x.mixTime 4294967295) ++
       le4 (min x.holdTime 4294967295) ++ le4 (min x.ageAtTorque 4294967295),
   match r.tension with
   | none => le1 0
   | some x => le1 1 ++ le4 x.peak ++ le4 x.final ++ le4 x.tension ++ le1 x.retorques,
   le1 r.resolves.length]

theorem record_bytes_eq (r : BoltRecord) :
    r.bytes =
      r.head.flatten ++ (r.resolves.flatMap resolveBytes ++ (le1 r.bands.length ++ r.bands.flatMap Band.bytes)) := by
  unfold BoltRecord.bytes BoltRecord.head listSection quadBytes
  simp only [List.append_assoc]
  cases r.verdict <;> cases r.endPhase <;> cases r.anchor <;> cases r.resin <;> cases r.tension <;> rfl

/-- The chunks of an exception frame (R202). -/
def ExFrame.chunks (f : ExFrame) : List (List Byte) :=
  [le1 (slotNum f.slot), le2 f.holeId, le1 (match f.kind with | .inPhase => 0 | .prePhase => 1), le1 f.cause.priority,
   le4 f.current.toNat, le4 f.posted.toNat, le1 f.raisedIn.num, le1 f.phase.num, le2 f.depth, le2 f.thrust, le2 f.torque,
   le2 f.speed, le2 f.lastSE, le2 f.refSE, le4 f.time.toNat, le4 (min f.operand 4294967295)]

theorem frame_bytes_eq (f : ExFrame) : f.bytes = f.chunks.flatten := by
  have kind : f.kind.code = (match f.kind with | .inPhase => 0 | .prePhase => 1) := by cases f.kind <;> rfl
  unfold ExFrame.bytes ExFrame.chunks le4Saturating
  simp only [List.append_assoc, List.flatten_cons, List.flatten_nil, List.append_nil, kind]

/-- The chunks of a band entry (R203). -/
def Band.chunks (b : Band) : List (List Byte) :=
  [le1 (match b.cls with
      | .collar => 0 | .void => 1 | .soft => 2 | .competent => 3 | .hard => 4 | .unknown => 5 | .unlogged => 6),
   le1 ((if b.isPartial then 1 else 0) + (if b.isForced then 2 else 0) + (if b.isSuspect then 4 else 0) +
     (if b.isMerged then 8 else 0) + (if b.seMin = none then 0 else 16)), le4 b.top, le4 b.bottom, le4 b.count,
   le4 (b.seMin.getD 0), le4 (b.seMax.getD 0), le4 (if b.seMin = none then 0 else b.seSum / b.seCount)]

theorem band_bytes_eq (b : Band) : b.bytes = b.chunks.flatten := by
  have cls : b.cls.code = (match b.cls with
      | .collar => 0 | .void => 1 | .soft => 2 | .competent => 3 | .hard => 4 | .unknown => 5 | .unlogged => 6) := by
    cases b.cls <;> rfl
  unfold Band.bytes Band.chunks flagBit Band.mean
  simp only [List.append_assoc, List.flatten_cons, List.flatten_nil, List.append_nil, cls]
  cases b.seMin <;> rfl

/-- How long the optional parts of a profile's reply are (R204). -/
theorem profile_parts_length {p : Profile} {k m : Nat} (interval : k = if p.interval = none then 1 else 7)
    (anchor : m = if p.anchor = none then 1 else 3) :
    k = (match p.interval with
      | none => le1 0 | some iv => le1 1 ++ le2 iv.start ++ le2 iv.samples ++ le2 iv.drops : List Byte).length ∧
    m = (match p.anchor with | none => le1 0 | some a => le1 1 ++ a.bytes : List Byte).length ∧
    p.head.flatten.length = 9 + k + m := by
  subst interval anchor
  unfold Profile.head
  cases p.interval <;> cases p.anchor <;> simp [le1, le2, Anchor.bytes]

/-- The GET_PROFILE reply's figures, field by field (R204). -/
theorem profile_laidOut (p : Profile) {k m : Nat} (interval : k = if p.interval = none then 1 else 7)
    (anchor : m = if p.anchor = none then 1 else 3) :
    LaidOut p.bytes (9 + k + m + 26 * p.bands.length) (chunkFields 0 p.head) := by
  refine laidOut_of_chunks (p.head ++ [p.bands.flatMap Band.bytes]) ?_ ?_ (fun f mem => chunkFields_append _ _ 0 f mem)
  · rw [profile_bytes_eq]
    simp
  · rw [profile_bytes_eq, List.length_append, flatMap_length band_bytes_length, (profile_parts_length interval anchor).2.2]

/-- How long the optional parts of a record are (R203). -/
theorem record_parts_length {r : BoltRecord} {k m q : Nat} (anchor : k = if r.anchor = none then 1 else 3)
    (resin : m = if r.resin = none then 1 else 19) (tension : q = if r.tension = none then 1 else 14) :
    k = (match r.anchor with | none => le1 0 | some a => le1 1 ++ a.bytes : List Byte).length ∧
    m = (match r.resin with
      | none => le1 0
      | some x => le1 1 ++ le1 x.planned ++ le1 x.loaded ++ le4 x.mixRevs ++ le4 (min x.mixTime 4294967295) ++
          le4 (min x.holdTime 4294967295) ++ le4 (min x.ageAtTorque 4294967295) : List Byte).length ∧
    q = (match r.tension with
      | none => le1 0
      | some x => le1 1 ++ le4 x.peak ++ le4 x.final ++ le4 x.tension ++ le1 x.retorques : List Byte).length ∧
    r.head.flatten.length = 78 + k + m + q := by
  subst anchor resin tension
  unfold BoltRecord.head
  cases r.anchor <;> cases r.resin <;> cases r.tension <;> simp [le1, le4, Anchor.bytes]

theorem resolveBytes_length (e : Cond × Action) : (resolveBytes e).length = 2 := rfl

/-- A record's fields (R203). -/
theorem record_laidOut (r : BoltRecord) {k m q : Nat} (anchor : k = if r.anchor = none then 1 else 3)
    (resin : m = if r.resin = none then 1 else 19) (tension : q = if r.tension = none then 1 else 14) :
    LaidOut r.bytes (77 + k + m + q + (1 + 2 * r.resolves.length) + (1 + 26 * r.bands.length))
      (chunkFields 0 r.head ++ [(78 + k + m + q + 2 * r.resolves.length, 1, le1 r.bands.length)]) := by
  obtain ⟨_, _, _, head⟩ := record_parts_length anchor resin tension
  refine laidOut_past r.head (record_bytes_eq r) ?_ ?_ rfl
  · simp only [record_bytes_eq, List.length_append, flatMap_length band_bytes_length, flatMap_length resolveBytes_length, head,
      show (le1 r.bands.length).length = 1 from rfl]
    omega
  · rw [head, flatMap_length resolveBytes_length]

/-- Settles O28: GET_FRAME, GET_PROFILE and FETCH_RECORD by their rows, and each layout by its chunks. -/
theorem holeReads : Obligations.HoleReads := by
  refine ⟨fun s tag a ready settled => ⟨fun b f h named auto => ?_, fun b named other => ?_, fun b named => ?_,
      fun named => ⟨?_, ?_⟩, ?_⟩, fun f => ?_, fun b => ?_, fun p k m n interval anchor bands => ⟨?_, fun i b entry => ?_⟩,
    fun a => ?_, fun r k m q u n anchor resin tension resolves bands => ⟨?_, fun i c a entry => ?_, fun i b entry => ?_⟩⟩
  · refine read_answered (r := .getFrame a) ready settled ?_
    simp only [handleRequest, reqGetFrame, heard_slotOf, named, heard_boom, auto]
  · refine request_refused (r := .getFrame a) ready settled ?_
    simp only [handleRequest, reqGetFrame, heard_slotOf, named, heard_boom]
  · have row : handleRequest (.getProfile a) s.heard = reqGetProfile a s.heard := rfl
    simp only [reqGetProfile, heard_slotOf, named, heard_boom] at row
    cases cond : (s.boom b).profile.cond with
    | empty =>
      rw [cond] at row
      exact request_refused (r := .getProfile a) ready settled row
    | opened =>
      rw [cond] at row
      exact read_answered (r := .getProfile a) ready settled row
    | closed =>
      rw [cond] at row
      exact read_answered (r := .getProfile a) ready settled row
  · exact request_refused (r := .getFrame a) ready settled (by simp only [handleRequest, reqGetFrame, heard_slotOf, named])
  · exact request_refused (r := .getProfile a) ready settled (by simp only [handleRequest, reqGetProfile, heard_slotOf, named])
  · have row : handleRequest .fetchRecord s.heard = reqFetchRecord s.heard := rfl
    unfold reqFetchRecord at row
    rw [heard_log] at row
    cases log : s.log with
    | nil =>
      rw [log] at row
      exact request_refused (r := .fetchRecord) ready settled row
    | cons r rest =>
      rw [log] at row
      exact read_answered (r := .fetchRecord) ready settled row
  · exact laidOut_of_chunks f.chunks (frame_bytes_eq f) rfl (fun g mem => mem)
  · exact laidOut_of_chunks b.chunks (band_bytes_eq b) rfl (fun f mem => mem)
  · obtain ⟨k', m', _⟩ := profile_parts_length interval anchor
    have laid := profile_laidOut p interval anchor
    subst bands
    rw [k', m'] at laid ⊢
    exact laid
  · rw [profile_bytes_eq]
    have stands := entry_between band_bytes_length entry p.head.flatten [] (profile_parts_length interval anchor).2.2.symm
    rw [List.append_nil] at stands
    exact stands
  · refine laidOut_of_chunks [le1 a.percent, le1 (match a.grade with | .good => 0 | .fair => 1 | .poor => 2)] ?_ rfl
      (fun f mem => mem)
    unfold Anchor.bytes
    cases a.grade <;> rfl
  · obtain ⟨k', m', q', _⟩ := record_parts_length anchor resin tension
    have laid := record_laidOut r anchor resin tension
    subst resolves bands
    rw [k', m', q'] at laid ⊢
    exact laid
  · have head := (record_parts_length anchor resin tension).2.2.2
    have stands := entry_between resolveBytes_length entry r.head.flatten (le1 r.bands.length ++ r.bands.flatMap Band.bytes)
      head.symm
    rw [record_bytes_eq, stands]
    unfold resolveBytes
    cases a <;> rfl
  · have head := (record_parts_length anchor resin tension).2.2.2
    have stands := entry_between band_bytes_length entry
      (r.head.flatten ++ (r.resolves.flatMap resolveBytes ++ le1 r.bands.length)) [] (o := 79 + k + m + q + 2 * u) (by
        rw [List.length_append, List.length_append, head, flatMap_length resolveBytes_length, resolves]
        show _ = _ + (_ + 1)
        omega)
    rw [List.append_nil, List.append_assoc, List.append_assoc] at stands
    rw [record_bytes_eq]
    exact stands

end Sys2Proof.Machine
end

section
/-! SUPPORT. What the out-of-range counts depend on during a tick: no act touches them, and no act on one boom opens or ends
another's hole (R53). -/

namespace Sys2Proof.Machine

/-- Every boom's out-of-range counts are as they were, and so is whether they run. -/
def State.SameTally (s t : State) : Prop :=
  ∀ c, (t.boom c).outOfRange = (s.boom c).outOfRange ∧ (t.boom c).auto.counts = (s.boom c).auto.counts

/-- Every boom's out-of-range counts are as they were; whether they run may have changed for boom `b` alone. -/
def State.OwnTally (b : Slot) (s t : State) : Prop :=
  ∀ c, (t.boom c).outOfRange = (s.boom c).outOfRange ∧ (c ≠ b → (t.boom c).auto.counts = (s.boom c).auto.counts)

namespace State.SameTally

theorem refl (s : State) : s.SameTally s := fun _ => ⟨rfl, rfl⟩

theorem after {s t u : State} (k : t.SameTally u) (h : s.SameTally t) : s.SameTally u :=
  fun c => ⟨(k c).1.trans (h c).1, (k c).2.trans (h c).2⟩

theorem own {s t : State} (h : s.SameTally t) (b : Slot) : s.OwnTally b t := fun c => ⟨(h c).1, fun _ => (h c).2⟩

theorem of_booms {s t : State} (same : ∀ c, t.boom c = s.boom c) : s.SameTally t :=
  fun c => by rw [same c]; exact ⟨rfl, rfl⟩

theorem setBoom (s : State) (b : Slot) (x : Boom) (out : x.outOfRange = (s.boom b).outOfRange := by rfl)
    (counts : x.auto.counts = (s.boom b).auto.counts := by rfl) : s.SameTally (s.setBoom b x) := by
  intro c
  by_cases own : c = b
  · subst own
    rw [State.setBoom_boom]
    exact ⟨out, counts⟩
  · rw [State.setBoom_boom_of_ne s x own]
    exact ⟨rfl, rfl⟩

theorem changeBoom (s : State) (b : Slot) (x : Boom) (out : x.outOfRange = (s.boom b).outOfRange := by rfl)
    (counts : x.auto.counts = (s.boom b).auto.counts := by rfl) : s.SameTally (s.changeBoom b x) := by
  intro c
  by_cases own : c = b
  · subst own
    rw [changeBoom_boom]
    exact ⟨out, counts⟩
  · rw [changeBoom_boom_of_ne s x own]
    exact ⟨rfl, rfl⟩

theorem moveRetract (s : State) (b : Slot) (r : RetractCtx) : s.SameTally (s.moveRetract b r) := by
  unfold State.moveRetract
  dsimp only
  split <;> exact changeBoom _ _ _

end State.SameTally

namespace State.OwnTally

theorem refl (b : Slot) (s : State) : s.OwnTally b s := fun _ => ⟨rfl, fun _ => rfl⟩

theorem after {b : Slot} {s t u : State} (k : t.OwnTally b u) (h : s.OwnTally b t) : s.OwnTally b u :=
  fun c => ⟨(k c).1.trans (h c).1, fun other => ((k c).2 other).trans ((h c).2 other)⟩

theorem of_booms {b : Slot} {s t : State} (same : ∀ c, t.boom c = s.boom c) : s.OwnTally b t :=
  (State.SameTally.of_booms same).own b

/-- Where boom `b` counts as it did, the act has changed no count's running. -/
theorem same {b : Slot} {s t : State} (h : s.OwnTally b t) (counts : (t.boom b).auto.counts = (s.boom b).auto.counts) :
    s.SameTally t := by
  intro c
  refine ⟨(h c).1, ?_⟩
  by_cases own : c = b
  · rw [own]
    exact counts
  · exact (h c).2 own

theorem setBoom (s : State) (b : Slot) (x : Boom) (out : x.outOfRange = (s.boom b).outOfRange := by rfl) : s.OwnTally b (s.setBoom b x) := by
  intro c
  by_cases own : c = b
  · subst own
    rw [State.setBoom_boom]
    exact ⟨out, fun other => absurd rfl other⟩
  · rw [State.setBoom_boom_of_ne s x own]
    exact ⟨rfl, fun _ => rfl⟩

theorem changeBoom (s : State) (b : Slot) (x : Boom) (out : x.outOfRange = (s.boom b).outOfRange := by rfl) : s.OwnTally b (s.changeBoom b x) := by
  intro c
  by_cases own : c = b
  · subst own
    rw [changeBoom_boom]
    exact ⟨out, fun other => absurd rfl other⟩
  · rw [changeBoom_boom_of_ne s x own]
    exact ⟨rfl, fun _ => rfl⟩

theorem raise (s : State) (b : Slot) (cs : List Cond) : s.OwnTally b (s.raise b cs) := setBoom _ _ _

/-! ## Motion -/

theorem stopBoom (s : State) (b : Slot) (h : Hole) (k : FrameKind) (c : Cond) (n : Nat) (p q : Phase) :
    s.OwnTally b (s.stopBoom b h k c n p q) := by
  intro d
  by_cases own : d = b
  · subst own
    rw [stopBoom_boom]
    exact ⟨rfl, fun other => absurd rfl other⟩
  · rw [(stopBoom_untouched own h k c n p q).boom]
    exact ⟨rfl, fun _ => rfl⟩

theorem stopInPhase (s : State) (b : Slot) (h : Hole) (c : Cond) (n : Nat) : s.OwnTally b (s.stopInPhase b h c n) :=
  stopBoom s b h _ c n _ _

theorem moveOff (s : State) (b : Slot) (h : Hole) (now : Bool) : s.OwnTally b (s.moveOff b h now) := by
  unfold State.moveOff
  dsimp only
  split <;> exact changeBoom _ _ _

theorem startCycle (s : State) (b : Slot) (h : Hole) (now : Bool) : s.OwnTally b (s.startCycle b h now) := by
  unfold State.startCycle
  split
  · exact (stopInPhase _ _ _ _ _).after (raise s b _)
  · exact moveOff s b h now

theorem moveAbandon (s : State) (b : Slot) (h : Hole) : s.OwnTally b (s.moveAbandon b h) := by
  unfold State.moveAbandon
  dsimp only
  split <;> exact changeBoom _ _ _

end State.OwnTally

/-! ## What a CYCLE and an ABANDONING context lead to count as they do -/

theorem stopBoom_counts (s : State) (b : Slot) (h : Hole) (k : FrameKind) (c : Cond) (n : Nat) (p q : Phase) :
    ((s.stopBoom b h k c n p q).boom b).auto.counts = true := by
  rw [stopBoom_boom]
  rfl

theorem startCycle_counts (s : State) (b : Slot) (h : Hole) (now : Bool) : ((s.startCycle b h now).boom b).auto.counts = true := by
  unfold State.startCycle
  split
  · exact stopBoom_counts _ _ _ _ _ _ _ _
  · unfold State.moveOff
    dsimp only
    split <;> rw [changeBoom_boom] <;> rfl

theorem moveAbandon_counts (s : State) (b : Slot) (h : Hole) : ((s.moveAbandon b h).boom b).auto.counts = true := by
  unfold State.moveAbandon
  dsimp only
  split <;> rw [changeBoom_boom] <;> rfl

/-! ## The arbiter -/

namespace State.SameTally

theorem tell (s : State) (q : Bool) (r : Requester) : s.SameTally (s.tell q r) := by
  unfold State.tell
  split
  · split
    · exact refl s
    · exact of_booms fun _ => rfl
  next b =>
  split
  · split
    · exact moveRetract s _ _
    · exact refl s
  · exact changeBoom _ _ _
  · next auto => exact (State.OwnTally.startCycle s b _ _).same (by rw [startCycle_counts, auto]; rfl)
  · next auto => exact (State.OwnTally.startCycle s b _ _).same (by rw [startCycle_counts, auto]; rfl)
  · next auto => exact (State.OwnTally.moveAbandon s b _).same (by rw [moveAbandon_counts, auto]; rfl)
  · exact refl s

theorem backOff (s : State) (b : Slot) : s.SameTally (s.backOff b) := by
  unfold State.backOff
  dsimp only
  split
  · next auto =>
    refine after (t := { s with arbiter := s.arbiter.takeBack s.clock b }) (changeBoom _ _ _ rfl ?_) (of_booms fun _ => rfl)
    rw [show State.boom { s with arbiter := s.arbiter.takeBack s.clock b } b = s.boom b from rfl, auto]
    rfl
  · exact refl s

theorem backOffUntil (need : Nat) (rs : List Requester) (s : State) : s.SameTally (State.backOffUntil need rs s) := by
  induction rs generalizing s with
  | nil => exact refl s
  | cons r rs ih =>
    unfold State.backOffUntil
    split
    · exact refl s
    · split
      · split
        · exact (ih _).after (backOff s _)
        · exact ih s
      · exact ih s

theorem evaluateWith (q : Bool) (n : Nat) (s : State) : s.SameTally (State.evaluateWith q n s) := by
  induction n generalizing s with
  | zero => exact refl s
  | succ n ih =>
    unfold State.evaluateWith
    split
    · exact refl s
    · dsimp only
      split
      · exact (ih _).after ((tell _ _ _).after (of_booms fun _ => rfl))
      · split
        · exact (ih _).after (backOffUntil _ _ s)
        · exact refl s

theorem evaluate (s : State) : s.SameTally s.evaluate := evaluateWith _ _ s

theorem withdrawBoom (s : State) (b : Slot) : s.SameTally (s.withdrawBoom b) := by
  unfold State.withdrawBoom
  split
  · exact refl s
  · exact (evaluate _).after (of_booms fun _ => rfl)

end State.SameTally

/-! ## The sequencer -/

namespace State.OwnTally

theorem evaluate (b : Slot) (s : State) : s.OwnTally b s.evaluate := (State.SameTally.evaluate s).own b

theorem arbiter (b : Slot) (s : State) (a : Arbiter) : s.OwnTally b { s with arbiter := a } := of_booms fun _ => rfl

theorem askFlow (s : State) (b : Slot) (h : Hole) : s.OwnTally b (s.askFlow b h) := by
  unfold State.askFlow
  split
  · exact (evaluate b _).after ((startCycle _ b _ _).after (arbiter b s _))
  · exact (evaluate b _).after ((arbiter b _ _).after (changeBoom _ _ _))

theorem enterPhase (s : State) (b : Slot) (h : Hole) (p : Phase) : s.OwnTally b (s.enterPhase b h p) :=
  (askFlow _ _ _).after (setBoom _ _ _)

theorem offerRecord (s : State) (b : Slot) (r : BoltRecord) : s.OwnTally b (s.offerRecord b r) := by
  unfold State.offerRecord
  split
  · exact (changeBoom _ _ _).after (of_booms fun _ => rfl)
  · exact (of_booms (s := s.changeBoom b { s.boom b with auto := .logWait r }) fun _ => rfl).after (changeBoom s b _)

theorem endHole (s : State) (b : Slot) (h : Hole) : s.OwnTally b (s.endHole b h) :=
  (evaluate b _).after ((offerRecord _ b _).after ((setBoom _ _ _).after (arbiter b s _)))

theorem cross (s : State) (b : Slot) (h : Hole) : s.OwnTally b (s.cross b h) := by
  unfold State.cross
  split
  · exact endHole s b h
  · split
    · exact (evaluate b _).after (stopBoom s b _ _ _ _ _ _)
    · exact enterPhase s b h _

theorem endDrilling (s : State) (b : Slot) (h : Hole) : s.OwnTally b (s.endDrilling b h) := (cross _ b _).after (setBoom _ _ _)

theorem endTorquing (s : State) (b : Slot) (h : Hole) (n : Nat) (cs : List Cond) : s.OwnTally b (s.endTorquing b h n cs) :=
  (cross _ b _).after (raise s b _)

/-! ## Samples -/

theorem takeConds (s : State) (b : Slot) (h : Hole) (cs : List Cond) {go : State → State} (goes : ∀ t : State, t.OwnTally b (go t)) :
    s.OwnTally b (s.takeConds b h cs go) := by
  unfold State.takeConds
  dsimp only
  split
  · exact (evaluate b _).after ((stopInPhase _ b _ _ _).after (setBoom _ _ _))
  · exact (goes _).after (setBoom _ _ _)

theorem drivePhase (s : State) (b : Slot) (h : Hole) : s.OwnTally b (s.drivePhase b h) := setBoom _ _ _

theorem profileSample (s : State) (b : Slot) (h : Hole) : s.OwnTally b (s.profileSample b h) := setBoom _ _ _

theorem collaringSample (s : State) (b : Slot) (h : Hole) : s.OwnTally b (s.collaringSample b h) := by
  unfold State.collaringSample
  dsimp only
  split
  · exact (cross _ b h).after ((profileSample _ b h).after (drivePhase s b h))
  · exact (profileSample _ b h).after (drivePhase s b h)

theorem drillingSample (s : State) (b : Slot) (h : Hole) : s.OwnTally b (s.drillingSample b h) := by
  unfold State.drillingSample
  dsimp only
  split
  · exact (endDrilling _ b h).after ((profileSample _ b h).after (drivePhase s b h))
  · exact (profileSample _ b h).after (drivePhase s b h)

theorem retractDrillSample (s : State) (b : Slot) (h : Hole) : s.OwnTally b (s.retractDrillSample b h) := by
  unfold State.retractDrillSample
  dsimp only
  split
  · exact (cross _ b h).after (drivePhase s b h)
  · exact drivePhase s b h

theorem loaderSample (s : State) (b : Slot) (c : LoaderCmd) : s.OwnTally b (s.loaderSample b c) := by
  unfold State.loaderSample
  split
  · exact setBoom _ _ _
  · exact setBoom _ _ _
  · exact refl b s

theorem resinLoadSample (s : State) (b : Slot) (h : Hole) : s.OwnTally b (s.resinLoadSample b h) := by
  unfold State.resinLoadSample
  dsimp only
  split
  · exact (cross _ b h).after (drivePhase s b h)
  · exact (loaderSample _ b _).after (drivePhase s b h)

theorem boltLoadSample (s : State) (b : Slot) (h : Hole) : s.OwnTally b (s.boltLoadSample b h) := by
  unfold State.boltLoadSample
  dsimp only
  split
  · exact (cross _ b h).after (drivePhase s b h)
  · exact (loaderSample _ b _).after ((setBoom _ _ _).after (drivePhase s b h))

theorem insertingSample (s : State) (b : Slot) (h : Hole) : s.OwnTally b (s.insertingSample b h) := by
  unfold State.insertingSample
  dsimp only
  split
  · exact (cross _ b h).after (drivePhase s b h)
  · exact drivePhase s b h

theorem takeMixShort (s : State) (b : Slot) (h : Hole) : s.OwnTally b (s.takeMixShort b h) :=
  (evaluate b _).after ((stopInPhase _ b _ _ _).after (raise s b _))

theorem mixingSample (s : State) (b : Slot) (h : Hole) : s.OwnTally b (s.mixingSample b h) := by
  unfold State.mixingSample
  dsimp only
  split
  · exact (cross _ b _).after (drivePhase s b _)
  · split
    · exact (takeMixShort _ b _).after (drivePhase s b _)
    · exact drivePhase s b _

theorem holdingSample (s : State) (b : Slot) (h : Hole) : s.OwnTally b (s.holdingSample b h) := by
  unfold State.holdingSample
  dsimp only
  split
  · exact (cross _ b _).after (drivePhase s b h)
  · exact drivePhase s b h

theorem torquingSample (s : State) (b : Slot) (h : Hole) : s.OwnTally b (s.torquingSample b h) := by
  unfold State.torquingSample
  dsimp only
  split
  · exact (endTorquing _ b _ _ _).after (drivePhase s b _)
  · split
    · exact (endTorquing _ b _ _ _).after (drivePhase s b _)
    · exact drivePhase s b _

theorem driveRelease (s : State) (b : Slot) (h : Hole) : s.OwnTally b (s.driveRelease b h) := by
  unfold State.driveRelease
  dsimp only
  split
  · exact (setBoom _ _ _).after (setBoom s b _)
  · exact (setBoom _ _ _).after (setBoom s b _)

theorem releasingSample (s : State) (b : Slot) (h : Hole) : s.OwnTally b (s.releasingSample b h) := by
  unfold State.releasingSample
  dsimp only
  split
  · exact (cross _ b h).after (driveRelease s b h)
  · exact driveRelease s b h

theorem phaseSample (s : State) (b : Slot) (h : Hole) : s.OwnTally b (s.phaseSample b h) := by
  unfold State.phaseSample
  split
  · exact collaringSample s b h
  · exact drillingSample s b h
  · exact retractDrillSample s b h
  · exact resinLoadSample s b h
  · exact boltLoadSample s b h
  · exact insertingSample s b h
  · exact mixingSample s b h
  · exact holdingSample s b h
  · exact torquingSample s b h
  · exact releasingSample s b h

theorem engageSample (s : State) (b : Slot) (h : Hole) : s.OwnTally b (s.engageSample b h) := by
  unfold State.engageSample
  dsimp only
  split
  · unfold State.seat
    split
    · exact (cross _ b _).after (setBoom _ _ _)
    · exact (askFlow _ b _).after (setBoom _ _ _)
  · exact setBoom _ _ _

theorem cycleSample (s : State) (b : Slot) (sub : CycleSub) (h : Hole) : s.OwnTally b (s.cycleSample b sub h) := by
  unfold State.cycleSample
  split
  · exact takeConds s b _ _ fun t => phaseSample t b _
  · exact takeConds s b _ _ fun t => engageSample t b _
  · exact takeConds s b _ _ fun t => refl b t
  · exact takeConds s b _ _ fun t => refl b t

theorem noteOverdue (s : State) (b : Slot) (was : Bool) : s.OwnTally b (s.noteOverdue b was) := by
  unfold State.noteOverdue
  split
  · exact of_booms fun c => queueStatus_boom s b c
  · exact refl b s

theorem abandonSample (s : State) (b : Slot) (sub : AbandonSub) (h : Hole) : s.OwnTally b (s.abandonSample b sub h) := by
  unfold State.abandonSample
  split
  · split
    · dsimp only
      split
      · exact (endHole _ b _).after ((noteOverdue _ b _).after (setBoom _ _ _))
      · exact (noteOverdue _ b _).after (setBoom _ _ _)
    · exact moveAbandon s b h
  · split
    · exact moveAbandon s b h
    · exact refl b s
  · exact refl b s

end State.OwnTally

theorem retractHome_tally (s : State) (b : Slot) (r : RetractCtx) : s.SameTally (s.retractHome b r) :=
  (State.SameTally.evaluate _).after ((State.SameTally.changeBoom _ _ _).after (State.SameTally.of_booms fun _ => rfl))

theorem retractSample_tally (s : State) (b : Slot) (r : RetractCtx) : s.SameTally (s.retractSample b r) := by
  have noted : ∀ (t : State) (was : Bool), t.SameTally (t.noteOverdue b was) := by
    intro t was
    unfold State.noteOverdue
    split
    · exact State.SameTally.of_booms fun c => queueStatus_boom t b c
    · exact State.SameTally.refl t
  unfold State.retractSample
  split
  · split
    · dsimp only
      split
      · exact (retractHome_tally _ b _).after ((noted _ _).after (State.SameTally.setBoom _ _ _))
      · exact (noted _ _).after (State.SameTally.setBoom _ _ _)
    · exact State.SameTally.moveRetract s b r
  · split
    · exact State.SameTally.moveRetract s b r
    · exact State.SameTally.refl s
  · exact State.SameTally.refl s
  · exact State.SameTally.refl s

theorem observeSample_out (x : Boom) (ps : Params) (p : Plan) : (x.observeSample ps p).outOfRange = x.outOfRange := by
  unfold Boom.observeSample
  dsimp only
  split <;> rfl

/-- A boom's sample touches no out-of-range count, and opens or ends no other boom's hole (R25, R53). -/
theorem contextSample_tally (s : State) (b : Slot) : s.OwnTally b (s.contextSample b) := by
  unfold State.contextSample
  split
  · exact (retractSample_tally s b _).own b
  · unfold State.manualSample
    split
    · exact State.OwnTally.refl b s
    · exact State.OwnTally.setBoom _ _ _
  · exact State.OwnTally.cycleSample s b _ _
  · exact State.OwnTally.abandonSample s b _ _
  · exact State.OwnTally.setBoom _ _ _ (observeSample_out _ _ _)
  · exact State.OwnTally.refl b s
  · exact State.OwnTally.refl b s
  · exact State.OwnTally.refl b s

/-! ## The settling and the sweep -/

theorem counts_withHole (a : Auto) (h : Hole) : (a.withHole h).counts = a.counts := by cases a <;> rfl

theorem setAside_counts (a : Auto) : a.setAside.counts = a.counts := by
  unfold Auto.setAside
  split
  · exact counts_withHole a _
  · rfl

theorem countRetract_counts (a : Auto) : a.countRetract.counts = a.counts := by
  unfold Auto.countRetract
  split
  · exact counts_withHole a _
  · rfl

theorem releaseChuck_counts (a : Auto) : a.releaseChuck.counts = a.counts := by
  unfold Auto.releaseChuck
  split
  · split <;> rfl
  · split <;> rfl
  · rfl
  · rfl
  · rfl
  · rfl

theorem pushed_tally (x : Boom) : x.pushed.outOfRange = x.outOfRange ∧ x.pushed.auto.counts = x.auto.counts := by
  unfold Boom.pushed
  split
  · exact ⟨rfl, rfl⟩
  · exact ⟨rfl, setAside_counts _⟩

namespace State.SameTally

theorem pushBoom (s : State) (b : Slot) : s.SameTally (s.pushBoom b) :=
  (setBoom _ _ _ (pushed_tally _).1 (pushed_tally _).2).after (withdrawBoom s b)

theorem retractGo (s : State) (b : Slot) (r : RetractCtx) : s.SameTally (s.retractGo b r) := by
  unfold State.retractGo
  split
  · exact retractHome_tally s b r
  · split
    · exact (evaluate _).after ((moveRetract _ _ _).after (of_booms fun _ => rfl))
    · exact (evaluate _).after (of_booms fun _ => rfl)

theorem startRetract (s : State) (b : Slot) : s.SameTally (s.startRetract b) := by
  refine (retractGo _ _ _).after (after (changeBoom _ _ _ rfl ?_) (pushBoom s b))
  exact (countRetract_counts _).trans (releaseChuck_counts _)

theorem slots {f : Slot → State → State} (h : ∀ b (t : State), t.SameTally (f b t)) (s : State) : s.SameTally (forSlots f s) :=
  (h _ _).after ((h _ _).after ((h _ _).after (h _ _)))

theorem fitted {f : Slot → State → State} (h : ∀ b (t : State), t.SameTally (f b t)) (s : State) : s.SameTally (forFitted f s) := by
  refine slots (fun b t => ?_) s
  split
  · exact h b t
  · exact refl t

theorem sweep (s : State) : s.SameTally s.sweep := by
  refine fitted (fun b t => ?_) s
  split
  · exact refl t
  · exact startRetract t b

theorem settle (s : State) : s.SameTally s.settle := by
  unfold State.settle
  refine (fitted (fun b t => ?_) _).after ?_
  · unfold State.noteChuck
    split
    · exact refl t
    · exact setBoom _ _ _
  · unfold State.settleMode
    split
    · split
      · unfold State.changeMode
        dsimp only
        split
        · exact (sweep _).after (of_booms fun _ => rfl)
        · exact of_booms fun _ => rfl
      · exact refl s
    · exact refl s

end State.SameTally

end Sys2Proof.Machine
end

section
/-! SUPPORT. A tick slot by slot: what a boom's own part makes of its readings, and what the other parts leave of them (R49 to
R53; log entry 4). -/

namespace Sys2Proof.Machine

/-! ## The timers, the silence and the line touch no out-of-range count -/

/-- Every boom's out-of-range counts are as they were. -/
def State.SameOut (s t : State) : Prop := ∀ c, (t.boom c).outOfRange = (s.boom c).outOfRange

namespace State.SameOut

theorem refl (s : State) : s.SameOut s := fun _ => rfl

theorem after {s t u : State} (k : t.SameOut u) (h : s.SameOut t) : s.SameOut u := fun c => (k c).trans (h c)

theorem of_own {b : Slot} {s t : State} (h : s.OwnTally b t) : s.SameOut t := fun c => (h c).1

theorem of_same {s t : State} (h : s.SameTally t) : s.SameOut t := fun c => (h c).1

theorem fitted {f : Slot → State → State} (h : ∀ b (t : State), t.SameOut (f b t)) (s : State) : s.SameOut (forFitted f s) := by
  have each : ∀ b (t : State), t.SameOut (if t.fits b then f b t else t) := by
    intro b t
    split
    · exact h b t
    · exact refl t
  exact (each _ _).after ((each _ _).after ((each _ _).after (each _ _)))

end State.SameOut

theorem takeJam_tally (s : State) (b : Slot) : s.OwnTally b (s.takeJam b) := by
  unfold State.takeJam
  dsimp only
  split
  · exact (State.OwnTally.evaluate b _).after ((State.OwnTally.stopInPhase _ b _ _ _).after
      ((State.OwnTally.raise _ b _).after (State.OwnTally.setBoom s b _)))
  · exact State.OwnTally.setBoom s b _

theorem loadTimer_tally (s : State) (b : Slot) : s.OwnTally b (s.loadTimer b) := by
  unfold State.loadTimer
  split
  · split
    · exact takeJam_tally s b
    · exact State.OwnTally.refl b s
  · exact State.OwnTally.refl b s
  · exact State.OwnTally.refl b s

theorem onHole_out (x : Boom) (f : Hole → Hole) : (x.onHole f).outOfRange = x.outOfRange := by
  unfold Boom.onHole
  split <;> rfl

theorem starveTimer_tally (s : State) (b : Slot) (due : Bool) : s.OwnTally b (s.starveTimer b due) := by
  unfold State.starveTimer
  split
  · split
    · unfold State.takeStarved
      dsimp only
      split
      · exact (State.OwnTally.evaluate b _).after ((State.OwnTally.stopInPhase _ b _ _ _).after (State.OwnTally.raise s b _))
      · refine (State.OwnTally.setBoom _ _ _ (onHole_out _ _)).after ?_
        exact State.OwnTally.after (t := s.raise b [.flowStarved]) (State.OwnTally.of_booms fun _ => rfl) (State.OwnTally.raise s b _)
    · exact State.OwnTally.refl b s
  · exact State.OwnTally.refl b s

theorem holdTick_out (x : Boom) (ps : Params) : (x.holdTick ps).outOfRange = x.outOfRange := by
  unfold Boom.holdTick
  split
  · split
    · split <;> rfl
    · rfl
  · rfl

theorem manualTimer_tally (s : State) (b : Slot) : s.OwnTally b (s.manualTimer b) := by
  unfold State.manualTimer
  split
  · exact State.OwnTally.refl b s
  · exact State.OwnTally.setBoom _ _ _ (holdTick_out _ _)

theorem gelTimer_tally (s : State) (b : Slot) : s.OwnTally b (s.gelTimer b) := by
  unfold State.gelTimer
  split
  · exact State.OwnTally.setBoom _ _ _
  · exact State.OwnTally.setBoom _ _ _
  · exact State.OwnTally.refl b s

theorem boomTimers_out (b : Slot) (s : State) : s.SameOut (State.boomTimers b s) :=
  State.SameOut.of_own ((gelTimer_tally _ b).after ((manualTimer_tally _ b).after ((starveTimer_tally _ b _).after (loadTimer_tally s b))))

theorem silenceBoom_tally (s : State) (b : Slot) : s.OwnTally b (s.silenceBoom b) := by
  unfold State.silenceBoom
  split
  · exact State.OwnTally.setBoom _ _ _
  · exact (State.OwnTally.stopInPhase _ b _ _ _).after (State.OwnTally.raise s b _)
  · exact (State.OwnTally.stopInPhase _ b _ _ _).after (State.OwnTally.raise s b _)
  · exact State.OwnTally.refl b s

theorem silenceTimer_out (s : State) : s.SameOut s.silenceTimer := by
  have ticked : s.SameOut s.silenceTick := by
    unfold State.silenceTick
    split
    · exact State.SameOut.refl s
    · exact fun _ => rfl
  unfold State.silenceTimer
  dsimp only
  split
  · refine State.SameOut.after ?_ ticked
    exact (State.SameOut.of_same (State.SameTally.evaluate _)).after
      ((State.SameOut.fitted (fun b t => State.SameOut.of_own (silenceBoom_tally t b)) _).after (fun _ => rfl))
  · exact ticked

theorem readLine_out (s : State) (line : Bool) : s.SameOut (s.readLine line) := by
  unfold State.readLine
  dsimp only
  split
  · exact (State.SameOut.of_same (State.SameTally.sweep _)).after (fun _ => rfl)
  · exact fun _ => rfl

/-! ## What a tick keeps of the run -/

/-- The parts no act of a tick writes but its start and its reading of the line. -/
structure State.SameRun (s t : State) : Prop where
  pending : t.pending = s.pending
  clock : t.clock = s.clock
  restartCause : t.restartCause = s.restartCause
  params : t.params = s.params
  recipes : t.recipes = s.recipes
  queues : t.queues = s.queues
  drive : t.drive = s.drive
  driveLine : t.driveLine = s.driveLine
  waiting : t.link.waiting = s.link.waiting

namespace State.SameRun

theorem refl (s : State) : s.SameRun s := ⟨rfl, rfl, rfl, rfl, rfl, rfl, rfl, rfl, rfl⟩

theorem after {s t u : State} (k : t.SameRun u) (h : s.SameRun t) : s.SameRun u :=
  ⟨k.pending.trans h.pending, k.clock.trans h.clock, k.restartCause.trans h.restartCause, k.params.trans h.params,
    k.recipes.trans h.recipes, k.queues.trans h.queues, k.drive.trans h.drive, k.driveLine.trans h.driveLine,
    k.waiting.trans h.waiting⟩

theorem of_kept {s t : State} (h : Kept s t) : s.SameRun t :=
  ⟨h.pending, h.clock, h.restartCause, h.params, h.recipes, h.queues, h.drive, h.driveLine, h.waiting⟩

end State.SameRun

/-- A boom's readings, its enable set and its out-of-range counts are as they were. -/
structure Boom.ReadAs (x y : Boom) : Prop where
  kept : BoomKept x y
  out : y.outOfRange = x.outOfRange

theorem Boom.ReadAs.refl (x : Boom) : x.ReadAs x := ⟨BoomKept.refl x, rfl⟩

theorem Boom.ReadAs.trans {x y z : Boom} (h : x.ReadAs y) (k : y.ReadAs z) : x.ReadAs z := ⟨h.kept.trans k.kept, k.out.trans h.out⟩

/-- Two booms read alike take a tick's readings in alike. -/
theorem read_readAs {x y : Boom} (h : x.ReadAs y) (counts : y.auto.counts = x.auto.counts) (ps : Params) (r : Quad Reading) :
    (x.read ps r).ReadAs (y.read ps r) := by
  refine ⟨⟨rfl, ?_, ?_, ?_, h.kept.enabled⟩, ?_⟩
  · show goodAfter y.lastGood r = goodAfter x.lastGood r
    rw [h.kept.lastGood]
  · show valuesInForce ps y.lastGood r = valuesInForce ps x.lastGood r
    rw [h.kept.lastGood]
  · unfold Boom.read
    dsimp only
    rw [h.kept.posLoss]
  · unfold Boom.read
    dsimp only
    rw [h.out, counts]

/-! ## A boom's part -/

theorem normReading_eq {top : Nat} {r : Reading} (range : r.inRange top = true) : normReading top r = r := by
  cases r with
  | value n => exact if_pos (of_decide_eq_true range)
  | low => rfl
  | high => rfl

theorem normReadings_eq {r : Quad Reading} (range : readingsInRange r = true) : normReadings r = r := by
  unfold readingsInRange at range
  simp only [Bool.and_eq_true] at range
  obtain ⟨⟨⟨thrust, torque⟩, speed⟩, position⟩ := range
  unfold normReadings
  rw [normReading_eq thrust, normReading_eq torque, normReading_eq speed, normReading_eq position]

/-- A channel's reading, by its policy's code (R50, R51). -/
theorem channelRead (policy top good : Nat) (r : Reading) :
    ChannelRead policy top good r (valueInForce (Policy.ofCode policy) top good r) (nextGood good r) := by
  refine ⟨fun n read => ?_, fun out => ?_, fun low clamp => ?_, fun high clamp => ?_, fun out hold => ?_, fun out drop => ?_⟩
  · rw [read]
    exact ⟨rfl, rfl⟩
  · rcases out with e | e <;> rw [e] <;> rfl
  · rw [low, clamp]
    rfl
  · rw [high, clamp]
    rfl
  · rcases out with e | e <;> rw [e, hold] <;> rfl
  · rcases out with e | e <;> rw [e, drop] <;> rfl

/-- The four channels of a boom whose readings are in (R50, R51). -/
theorem channelReads {x y : Boom} {ps : Params} {r : Quad Reading} (force : y.inForce = valuesInForce ps x.lastGood r)
    (good : y.lastGood = goodAfter x.lastGood r) :
    ChannelRead ps.thrustPolicy 60000 x.lastGood.thrust r.thrust y.inForce.thrust y.lastGood.thrust ∧
      ChannelRead ps.torquePolicy 5000 x.lastGood.torque r.torque y.inForce.torque y.lastGood.torque ∧
      ChannelRead ps.speedPolicy 1200 x.lastGood.speed r.speed y.inForce.speed y.lastGood.speed ∧
      ChannelRead 1 30000 x.lastGood.position r.position y.inForce.position y.lastGood.position := by
  rw [force, good]
  exact ⟨channelRead _ _ _ _, channelRead _ _ _ _, channelRead _ _ _ _, channelRead 1 _ _ _⟩

theorem read_eq (x : Boom) (ps : Params) (r : Quad Reading) : (x.takeReadings ps r).forgetEligible = x.read ps r := by
  have counted : ∀ (counts : Bool) (n : Nat) (c : Reading), countRead counts n c = if counts then countOut n c else n := by
    intro counts n c
    unfold countRead countOut countUp16
    cases counts <;> cases c <;> rfl
  have loss : lossAfter x.posLoss r.position =
      (match r.position with | .value _ => 0 | .low => min (x.posLoss + 1) 20 | .high => min (x.posLoss + 1) 20) := by
    unfold lossAfter
    cases r.position <;> rfl
  unfold Boom.read Boom.takeReadings
  rw [loss]
  simp only [counted]
  unfold Boom.forgetEligible countsAfter
  cases x.auto <;> rfl

theorem boomSample_eq (s : State) (b : Slot) {r : Quad Reading} (range : readingsInRange r = true) :
    (s.boomSample b r).settle = ((s.setBoom b ((s.boom b).read s.params r)).contextSample b).settle := by
  unfold State.boomSample
  rw [normReadings_eq range, read_eq]

/-- A boom's own part of the tick, its readings once in (R49, R179). -/
theorem slotSampled_run (s : State) (b : Slot) (r : Quad Reading) : s.SameRun (s.slotSampled b r) := by
  unfold State.slotSampled
  split
  · exact State.SameRun.after (t := s.setBoom b ((s.boom b).read s.params r))
      (State.SameRun.of_kept (Kept.after (settle_kept _) (contextSample_kept _ b))) ⟨rfl, rfl, rfl, rfl, rfl, rfl, rfl, rfl, rfl⟩
  · exact State.SameRun.refl s

theorem slotSampled_other {s : State} {b c : Slot} (other : c ≠ b) (r : Quad Reading) :
    (s.boom c).ReadAs ((s.slotSampled b r).boom c) ∧ ((s.slotSampled b r).boom c).auto.counts = (s.boom c).auto.counts := by
  unfold State.slotSampled
  split
  · have kept := Kept.after (settle_kept _) (contextSample_kept (s.setBoom b ((s.boom b).read s.params r)) b)
    have tally := ((State.SameTally.settle _).own b).after (contextSample_tally (s.setBoom b ((s.boom b).read s.params r)) b)
    have same := State.setBoom_boom_of_ne s ((s.boom b).read s.params r) other
    have booms := kept.booms c
    obtain ⟨out, counts⟩ := tally c
    rw [same] at booms out counts
    exact ⟨⟨booms, out⟩, counts other⟩
  · exact ⟨Boom.ReadAs.refl _, rfl⟩

theorem slotSampled_own {s : State} {b : Slot} (fits : s.fits b = true) (r : Quad Reading) :
    ((s.boom b).read s.params r).ReadAs ((s.slotSampled b r).boom b) := by
  unfold State.slotSampled
  rw [if_pos fits]
  have kept := Kept.after (settle_kept _) (contextSample_kept (s.setBoom b ((s.boom b).read s.params r)) b)
  have tally := ((State.SameTally.settle _).own b).after (contextSample_tally (s.setBoom b ((s.boom b).read s.params r)) b)
  have booms := kept.booms b
  have out := (tally b).1
  rw [State.setBoom_boom] at booms out
  exact ⟨booms, out⟩

/-! ## The booms in slot order -/

/-- The booms' own parts of a tick, lowest slot first (log entry 4). -/
def State.sampled (s : State) (rs : Four (Quad Reading)) : State :=
  (((s.slotSampled .s1 rs.b1).slotSampled .s2 rs.b2).slotSampled .s3 rs.b3).slotSampled .s4 rs.b4

theorem sampled_run (s : State) (rs : Four (Quad Reading)) : s.SameRun (s.sampled rs) :=
  (slotSampled_run _ _ _).after ((slotSampled_run _ _ _).after ((slotSampled_run _ _ _).after (slotSampled_run _ _ _)))

/-- Boom `c` ahead of its own part: its readings and its counting as at the tick's start. -/
def State.Awaits (s t : State) (c : Slot) : Prop :=
  t.params = s.params ∧ (s.boom c).ReadAs (t.boom c) ∧ (t.boom c).auto.counts = (s.boom c).auto.counts

theorem awaits_refl (s : State) (c : Slot) : s.Awaits s c := ⟨rfl, Boom.ReadAs.refl _, rfl⟩

theorem awaits_next {s t : State} {b c : Slot} (h : s.Awaits t c) (other : c ≠ b) (r : Quad Reading) :
    s.Awaits (t.slotSampled b r) c := by
  obtain ⟨params, readings, counts⟩ := h
  obtain ⟨same, running⟩ := slotSampled_other (s := t) other r
  exact ⟨(slotSampled_run t b r).params.trans params, readings.trans same, running.trans counts⟩

theorem awaits_taken {s t : State} {c : Slot} (h : s.Awaits t c) (fits : s.fits c = true) (r : Quad Reading) :
    ((s.boom c).read s.params r).ReadAs ((t.slotSampled c r).boom c) := by
  obtain ⟨params, readings, counts⟩ := h
  have fits' : t.fits c = true := by
    unfold State.fits
    rw [params]
    exact fits
  have own := slotSampled_own fits' r
  rw [params] at own
  exact (read_readAs readings counts s.params r).trans own

/-- A fitted boom's readings are in when every boom has had its part (R49 to R53). -/
theorem sampled_reads {s : State} (rs : Four (Quad Reading)) {b : Slot} (fits : s.fits b = true) :
    ((s.boom b).read s.params (rs.get b)).ReadAs ((s.sampled rs).boom b) := by
  unfold State.sampled
  cases b with
  | s1 =>
    exact (((awaits_taken (awaits_refl s .s1) fits rs.b1).trans (slotSampled_other (by decide) rs.b2).1).trans
      (slotSampled_other (by decide) rs.b3).1).trans (slotSampled_other (by decide) rs.b4).1
  | s2 =>
    exact ((awaits_taken (awaits_next (awaits_refl s .s2) (by decide) rs.b1) fits rs.b2).trans
      (slotSampled_other (by decide) rs.b3).1).trans (slotSampled_other (by decide) rs.b4).1
  | s3 =>
    exact (awaits_taken (awaits_next (awaits_next (awaits_refl s .s3) (by decide) rs.b1) (by decide) rs.b2) fits rs.b3).trans
      (slotSampled_other (by decide) rs.b4).1
  | s4 =>
    exact awaits_taken (awaits_next (awaits_next (awaits_next (awaits_refl s .s4) (by decide) rs.b1) (by decide) rs.b2)
      (by decide) rs.b3) fits rs.b4

theorem forFitted_samples (s : State) {rs : Four (Quad Reading)} (r1 : readingsInRange rs.b1 = true)
    (r2 : readingsInRange rs.b2 = true) (r3 : readingsInRange rs.b3 = true) (r4 : readingsInRange rs.b4 = true) :
    forFitted (State.sampleAndSettle rs) s = s.sampled rs := by
  have part : ∀ (t : State) (b : Slot), readingsInRange (rs.get b) = true →
      (if t.fits b then State.sampleAndSettle rs b t else t) = t.slotSampled b (rs.get b) := by
    intro t b range
    unfold State.slotSampled State.sampleAndSettle
    split
    · exact boomSample_eq t b range
    · rfl
  unfold forFitted forSlots State.sampled
  dsimp only
  rw [part s .s1 r1, part _ .s2 r2, part _ .s3 r3, part _ .s4 r4]
  rfl

/-! ## The tick after the booms' samples -/

theorem silenceTimer_kept (s : State) : s.SameRun s.silenceTimer ∧ (∀ b, BoomKept (s.boom b) (s.silenceTimer.boom b)) := by
  have ticked : s.SameRun s.silenceTick ∧ ∀ b, s.silenceTick.boom b = s.boom b := by
    unfold State.silenceTick
    split
    · exact ⟨State.SameRun.refl s, fun _ => rfl⟩
    · exact ⟨⟨rfl, rfl, rfl, rfl, rfl, rfl, rfl, rfl, rfl⟩, fun _ => rfl⟩
  unfold State.silenceTimer
  dsimp only
  split
  · have kept := Kept.after (evaluate_kept _) (forFitted_kept (fun b t => silenceBoom_kept t b)
      { s.silenceTick with link := { s.silenceTick.link with silent := true } })
    refine ⟨State.SameRun.after (t := { s.silenceTick with link := { s.silenceTick.link with silent := true } })
      (State.SameRun.of_kept kept) (State.SameRun.after (t := s.silenceTick) ⟨rfl, rfl, rfl, rfl, rfl, rfl, rfl, rfl, rfl⟩ ticked.1), fun b => ?_⟩
    have boom := kept.booms b
    rw [← ticked.2 b]
    exact boom
  · exact ⟨ticked.1, fun b => by rw [ticked.2 b]; exact BoomKept.refl _⟩

theorem readLine_kept (s : State) (line : Bool) :
    s.SameRun (s.readLine line) ∧ (s.readLine line).retractLine = some line ∧
      (∀ b, BoomKept (s.boom b) ((s.readLine line).boom b)) := by
  unfold State.readLine
  dsimp only
  split
  · have kept := sweep_kept { s with retractLine := some line }
    exact ⟨State.SameRun.after (t := { s with retractLine := some line }) (State.SameRun.of_kept kept)
      ⟨rfl, rfl, rfl, rfl, rfl, rfl, rfl, rfl, rfl⟩, kept.retractLine, kept.booms⟩
  · exact ⟨⟨rfl, rfl, rfl, rfl, rfl, rfl, rfl, rfl, rfl⟩, rfl, fun b => BoomKept.refl _⟩

/-- The tick once every boom has had its part: the timers, the silence, the line and the settling (R160, R194). -/
def State.tickEnd (s : State) (line : Bool) : State := ((forFitted State.boomTimers s).silenceTimer.readLine line).settle

theorem tickEnd_keeps (s : State) (line : Bool) :
    s.SameRun (s.tickEnd line) ∧ (s.tickEnd line).retractLine = some line ∧ ∀ b, (s.boom b).ReadAs ((s.tickEnd line).boom b) := by
  have timers := forFitted_kept (fun b t => boomTimers_kept b t) s
  obtain ⟨silence, silenceBooms⟩ := silenceTimer_kept (forFitted State.boomTimers s)
  obtain ⟨read, level, readBooms⟩ := readLine_kept (forFitted State.boomTimers s).silenceTimer line
  have settled := settle_kept ((forFitted State.boomTimers s).silenceTimer.readLine line)
  refine ⟨(State.SameRun.of_kept settled).after (read.after (silence.after (State.SameRun.of_kept timers))),
    settled.retractLine.trans level, fun b => ⟨?_, ?_⟩⟩
  · exact (((timers.booms b).trans (silenceBooms b)).trans (readBooms b)).trans (settled.booms b)
  · exact ((State.SameOut.of_same (State.SameTally.settle _)).after ((readLine_out _ line).after ((silenceTimer_out _).after
      (State.SameOut.fitted boomTimers_out s)))) b

/-- Settles O5: the tick is its parts in order, and a boom's readings are in after its own part and stay. -/
theorem sampleTickReads : Obligations.SampleTickReads := by
  have parts : ∀ (drive line : Bool) (rs : Four (Quad Reading)) (s : State), readingsInRange rs.b1 = true →
      readingsInRange rs.b2 = true → readingsInRange rs.b3 = true → readingsInRange rs.b4 = true →
      exec (.sampleTick drive line rs) s = .next ((((s.startTick drive).sampled rs).tickEnd line).serve) := by
    intro drive line rs s r1 r2 r3 r4
    refine congrArg Host.Outcome.next ?_
    unfold State.tick State.tickEnd
    dsimp only
    rw [forFitted_samples _ r1 r2 r3 r4]
  refine ⟨fun drive line rs s unhurried r1 r2 r3 r4 => ?_, fun drive line rs s s0 r1 r2 r3 r4 start => ?_⟩
  · have samples := sampled_run (s.startTick drive) rs
    obtain ⟨ends, level, readings⟩ := tickEnd_keeps ((s.startTick drive).sampled rs) line
    have run := ends.after samples
    have calm : (((s.startTick drive).sampled rs).tickEnd line).link.waiting = [] := run.waiting.trans unhurried
    have served := serve_unhurried calm
    obtain ⟨l, sent⟩ : ∃ l, (((s.startTick drive).sampled rs).tickEnd line).startNext =
        (((s.startTick drive).sampled rs).tickEnd line).withLink l := ⟨_, startNext_eq _⟩
    refine ⟨_, (parts drive line rs s r1 r2 r3 r4).trans (congrArg Host.Outcome.next (served.trans sent)), run.clock, run.drive,
      run.driveLine, level, run.pending, run.params, run.recipes, run.queues, run.restartCause, fun b fits => ?_⟩
    obtain ⟨kept, out⟩ := (sampled_reads (s := s.startTick drive) rs fits).trans (readings b)
    obtain ⟨thrust, torque, speed, position⟩ := channelReads (x := s.boom b) (ps := s.params) kept.inForce kept.lastGood
    exact ⟨kept.raw, kept.lastGood, kept.inForce, thrust, torque, speed, position, kept.posLoss, out, kept.enabled⟩
  · rw [parts drive line rs s r1 r2 r3 r4, start]
    rfl

end Sys2Proof.Machine
end

section
/-! SUPPORT. The parameters: what one of them stored leaves of the others, what each kind makes of a value, and SET_PARAM's
answer (R19, R110, R184). -/

namespace Sys2Proof.Machine

/-! ## The parameter set -/

theorem params_get_set (ps : Params) (p q : ParamId) (v : Nat) : (ps.set p v).get q = if q = p then v else ps.get q := by
  cases p <;> cases q <;> rfl

theorem ofCode_past {n : Nat} (past : 36 < n) : ParamId.ofCode n = none := by
  unfold ParamId.ofCode
  rw [if_neg (by omega)]
  refine List.getElem?_eq_none ?_
  show 35 ≤ n - 1
  omega

theorem ordered_iff (ps : Params) :
    ps.ordered = true ↔
      ps.voidPct < ps.softPct ∧ ps.softPct < 100 ∧ 100 < ps.hardPct ∧ ps.anchorFairPct ≤ ps.anchorGoodPct := by
  unfold Params.ordered
  simp only [Bool.and_eq_true, decide_eq_true_eq, and_assoc]

/-! ## The kinds -/

theorem clampInt_below {lo hi : Nat} {v : Int} (below : v < lo) : clampInt lo hi v = lo := if_pos below

theorem clampInt_above {lo hi : Nat} {v : Int} (ordered : lo ≤ hi) (above : (hi : Int) < v) : clampInt lo hi v = hi := by
  unfold clampInt
  rw [if_neg (by omega), if_pos above]

theorem clampInt_within {lo hi n : Nat} (low : lo ≤ n) (high : n ≤ hi) : clampInt lo hi (n : Int) = n := by
  unfold clampInt
  rw [if_neg (by omega), if_neg (by omega), Int.toNat_natCast]

/-- The step nearest to a value, the larger of two as near (R184). -/
theorem nearestStep_nearest (v : Int) :
    nearestStep v ∈ [10, 20, 25, 50] ∧
      ∀ m ∈ [10, 20, 25, 50],
        (v - (nearestStep v : Nat)).natAbs < (v - (m : Nat)).natAbs ∨
          ((v - (nearestStep v : Nat)).natAbs = (v - (m : Nat)).natAbs ∧ m ≤ nearestStep v) := by
  have each : ∀ (n : Nat), n ∈ [10, 20, 25, 50] →
      (∀ m ∈ [10, 20, 25, 50], (v - (n : Nat)).natAbs < (v - (m : Nat)).natAbs ∨
        ((v - (n : Nat)).natAbs = (v - (m : Nat)).natAbs ∧ m ≤ n)) → nearestStep v = n →
      nearestStep v ∈ [10, 20, 25, 50] ∧ ∀ m ∈ [10, 20, 25, 50],
        (v - (nearestStep v : Nat)).natAbs < (v - (m : Nat)).natAbs ∨
          ((v - (nearestStep v : Nat)).natAbs = (v - (m : Nat)).natAbs ∧ m ≤ nearestStep v) := by
    intro n step nearest eq
    rw [eq]
    exact ⟨step, nearest⟩
  by_cases v15 : v < 15
  · refine each 10 (by simp) (fun m mem => ?_) (if_pos v15)
    simp only [List.mem_cons, List.not_mem_nil, or_false] at mem
    omega
  · by_cases v23 : v < 23
    · refine each 20 (by simp) (fun m mem => ?_) ((if_neg v15).trans (if_pos v23))
      simp only [List.mem_cons, List.not_mem_nil, or_false] at mem
      omega
    · by_cases v38 : v < 38
      · refine each 25 (by simp) (fun m mem => ?_) ((if_neg v15).trans ((if_neg v23).trans (if_pos v38)))
        simp only [List.mem_cons, List.not_mem_nil, or_false] at mem
        omega
      · refine each 50 (by simp) (fun m mem => ?_) ((if_neg v15).trans ((if_neg v23).trans (if_neg v38)))
        simp only [List.mem_cons, List.not_mem_nil, or_false] at mem
        omega

theorem treat_policy {v : Int} : ParamKind.policy.treat v = if 0 ≤ v ∧ v ≤ 2 then some v.toNat else none := rfl

theorem treat_slots {v : Int} : ParamKind.slots.treat v = if 1 ≤ v ∧ v ≤ 15 then some v.toNat else none := rfl

theorem treat_zeroOrRange {lo hi : Nat} {v : Int} :
    (ParamKind.zeroOrRange lo hi).treat v = if v ≤ 0 then some 0 else some (clampInt lo hi v) := rfl

/-! ## SET_PARAM -/

theorem storedValue_eq (s : State) (p : ParamId) (v : Nat) :
    s.storedValue p v = if p = .pumpCapacity then max v s.arbiter.reserve else v := by
  cases p <;> rfl

/-- A parameter other than FITTED_BOOMS stored while nobody waits for flow changes the parameter set alone (R110). -/
theorem storeParam_plain {s : State} {p : ParamId} (quiet : s.flowQuiet) (other : p ≠ .fittedBooms) (v : Nat) :
    s.storeParam p v = { s with params := s.params.set p v } := by
  unfold State.storeParam
  dsimp only
  split
  · exact absurd rfl other
  · exact evaluate_nil quiet
  · rfl

theorem reqSetParam_treated {s : State} {id : Byte} {value : Word} {p : ParamId} {v : Nat} (mode : s.mode = .config)
    (named : ParamId.ofCode id.toNat = some p) (treated : p.kind.treat value.toInt = some v) :
    reqSetParam id value s =
      if (s.params.set p (s.storedValue p v)).ordered then
        (s.storeParam p (s.storedValue p v),
          { status := if (s.storedValue p v : Int) = value.toInt then .ok else .clamped, figures := le4 (s.storedValue p v) })
      else s.refuse .badArg := by
  simp only [reqSetParam, mode, named, treated, ne_eq, not_true_eq_false, if_false]

/-- Settles O33: each check refuses in its turn, or the treated value is stored; the kinds one by one. -/
theorem setParamTreatsByKind : Obligations.SetParamTreatsByKind := by
  refine ⟨fun s tag id value ready requested quiet => ?_, ⟨fun n past => ofCode_past past, by decide⟩, params_get_set,
    fun lo hi v ordered => ⟨fun below => congrArg some (clampInt_below below), fun above => congrArg some (clampInt_above ordered above),
      fun n eq low high => ?_⟩,
    fun v => ⟨nearestStep v, rfl, nearestStep_nearest v⟩,
    fun lo hi v ordered => ⟨fun low => if_pos low, fun pos below => ?_, fun pos above => ?_, fun n eq pos low high => ?_⟩,
    fun v => ⟨fun out => if_neg (by omega), fun n eq high => ?_, fun out => if_neg (by omega), fun n eq low high => ?_⟩, ordered_iff⟩
  · have settled : s.settled := Or.inl requested
    have refused : ∀ st, reqSetParam id value s.heard = s.heard.refuse st →
        exec (.setParam tag id value) s = .next (s.refused 0x84 tag st) := fun st decided =>
      request_refused (r := .setParam id value) ready settled decided
    refine ⟨fun mode => refused _ (by simp [reqSetParam, mode]), fun mode unnamed => refused _ (by simp [reqSetParam, mode, unnamed]),
      fun p mode named none => refused _ (by simp [reqSetParam, mode, named, none]), fun p v mode named other treated => ?_⟩
    have decision := reqSetParam_treated (s := s.heard) (by simpa using mode) named treated
    have stored : s.heard.storedValue p v = if p = .pumpCapacity then max v s.arbiter.reserve else v := by
      rw [storedValue_eq, heard_arbiter]
    rw [stored, heard_params] at decision
    by_cases ordered : (s.params.set p (if p = .pumpCapacity then max v s.arbiter.reserve else v)).ordered = true
    · rw [if_pos ordered] at decision ⊢
      have quiet' : s.heard.flowQuiet := by
        unfold State.flowQuiet
        rw [heard_arbiter]
        exact quiet
      rw [storeParam_plain quiet' other, heard_params] at decision
      rw [request_answered (r := .setParam id value) (kind := 0x84) ready decision (Or.inl (by simpa using requested))
        (by split_ifs <;> decide)]
      simp only [apply_ite Status.code]
      rfl
    · rw [if_neg ordered] at decision ⊢
      exact refused _ decision
  · rw [eq]
    exact congrArg some (clampInt_within low high)
  · exact (if_neg (by omega)).trans (congrArg some (clampInt_below below))
  · exact (if_neg (by omega)).trans (congrArg some (clampInt_above ordered above))
  · rw [treat_zeroOrRange, if_neg (by omega), eq, clampInt_within low high]
  · rw [treat_policy, if_pos (by omega), eq, Int.toNat_natCast]
  · rw [treat_slots, if_pos (by omega), eq, Int.toNat_natCast]

end Sys2Proof.Machine
end

section
/-! SUPPORT. FITTED_BOOMS: the slots whose place has changed are cleared one by one, the others kept (R19, R192). -/

namespace Sys2Proof.Machine

/-! ## One slot cleared -/

/-- Slot `b`'s own queue, boom and report slots are as they were. -/
structure State.SlotKept (s t : State) (b : Slot) : Prop where
  queue : t.queues.get b = s.queues.get b
  boom : t.boom b = s.boom b
  status : t.link.boomStatus.get b = s.link.boomStatus.get b
  exception : t.link.exceptionReport.get b = s.link.exceptionReport.get b

/-- Slot `b` is as after power-on (R19). -/
structure State.SlotCleared (t : State) (b : Slot) : Prop where
  queue : t.queues.get b = []
  boom : t.boom b = Boom.fresh
  status : t.link.boomStatus.get b = false
  exception : t.link.exceptionReport.get b = none

/-- What a cleared slot leaves of the rest of the part. -/
structure State.RestKept (s t : State) : Prop where
  params : t.params = s.params
  recipes : t.recipes = s.recipes
  log : t.log = s.log
  arbiter : t.arbiter = s.arbiter
  mode : t.mode = s.mode
  clock : t.clock = s.clock
  requested : t.requested = s.requested

theorem State.SlotKept.refl (s : State) (b : Slot) : s.SlotKept s b := ⟨rfl, rfl, rfl, rfl⟩

theorem State.SlotKept.trans {s t u : State} {b : Slot} (h : s.SlotKept t b) (k : t.SlotKept u b) : s.SlotKept u b :=
  ⟨k.queue.trans h.queue, k.boom.trans h.boom, k.status.trans h.status, k.exception.trans h.exception⟩

theorem State.SlotCleared.kept {t u : State} {b : Slot} (h : t.SlotCleared b) (k : t.SlotKept u b) : u.SlotCleared b :=
  ⟨k.queue.trans h.queue, k.boom.trans h.boom, k.status.trans h.status, k.exception.trans h.exception⟩

theorem State.RestKept.trans {s t u : State} (h : s.RestKept t) (k : t.RestKept u) : s.RestKept u :=
  ⟨k.params.trans h.params, k.recipes.trans h.recipes, k.log.trans h.log, k.arbiter.trans h.arbiter, k.mode.trans h.mode,
    k.clock.trans h.clock, k.requested.trans h.requested⟩

theorem clearSlot_cleared (s : State) (b : Slot) : (s.clearSlot b).SlotCleared b :=
  ⟨four_get_set_self _ _ _, four_get_set_self _ _ _, four_get_set_self _ _ _, four_get_set_self _ _ _⟩

theorem clearSlot_kept (s : State) {b c : Slot} (other : c ≠ b) : s.SlotKept (s.clearSlot b) c :=
  ⟨four_get_set_of_ne _ _ other, four_get_set_of_ne _ _ other, four_get_set_of_ne _ _ other, four_get_set_of_ne _ _ other⟩

/-! ## The refit, slot by slot -/

/-- The refit's part at one slot (R19). -/
def State.refitSlot (changed : Slot → Bool) (b : Slot) (s : State) : State := if changed b then s.clearSlot b else s

theorem refit_eq (s : State) (old : Params) :
    s.refit old = forSlots (State.refitSlot (fun b => old.fits b != s.params.fits b)) s := by
  have part : ∀ (b : Slot) (t : State), (if old.fits b = s.params.fits b then t else t.clearSlot b) =
      State.refitSlot (fun c => old.fits c != s.params.fits c) b t := by
    intro b t
    unfold State.refitSlot
    by_cases same : old.fits b = s.params.fits b
    · rw [if_pos same, if_neg (by simpa using same)]
    · rw [if_neg same, if_pos (by simpa using same)]
  unfold State.refit forSlots
  dsimp only
  rw [part, part, part, part]

theorem refitSlot_kept (changed : Slot → Bool) (s : State) {b c : Slot} (other : c ≠ b) :
    s.SlotKept (State.refitSlot changed b s) c := by
  unfold State.refitSlot
  split
  · exact clearSlot_kept s other
  · exact State.SlotKept.refl s c

theorem refitSlot_rest (changed : Slot → Bool) (s : State) (b : Slot) : s.RestKept (State.refitSlot changed b s) := by
  unfold State.refitSlot
  split <;> exact ⟨rfl, rfl, rfl, rfl, rfl, rfl, rfl⟩

theorem refitSlot_same {changed : Slot → Bool} {b : Slot} (same : changed b = false) (s : State) : State.refitSlot changed b s = s := by
  unfold State.refitSlot
  rw [same]
  rfl

theorem refitSlot_cleared {changed : Slot → Bool} {b : Slot} (change : changed b = true) (s : State) :
    (State.refitSlot changed b s).SlotCleared b := by
  unfold State.refitSlot
  rw [change]
  exact clearSlot_cleared s b

/-- Every slot's part of the refit in turn: a slot that changed is cleared, and one that stays is as it was. -/
theorem forSlots_refit (changed : Slot → Bool) (s : State) (b : Slot) :
    (changed b = true → (forSlots (State.refitSlot changed) s).SlotCleared b) ∧
      (changed b = false → s.SlotKept (forSlots (State.refitSlot changed) s) b) := by
  have own : ∀ t : State, changed b = false → t.SlotKept (State.refitSlot changed b t) b := fun t same => by
    rw [refitSlot_same same]
    exact State.SlotKept.refl t b
  have other : ∀ (t : State) (c : Slot), b ≠ c → t.SlotKept (State.refitSlot changed c t) b := fun t c ne => refitSlot_kept changed t ne
  unfold forSlots
  cases b with
  | s1 =>
    exact ⟨fun change => (((refitSlot_cleared change s).kept (other _ .s2 (by decide))).kept (other _ .s3 (by decide))).kept
        (other _ .s4 (by decide)),
      fun same => (((own s same).trans (other _ .s2 (by decide))).trans (other _ .s3 (by decide))).trans (other _ .s4 (by decide))⟩
  | s2 =>
    exact ⟨fun change => ((refitSlot_cleared change _).kept (other _ .s3 (by decide))).kept (other _ .s4 (by decide)),
      fun same => (((other s .s1 (by decide)).trans (own _ same)).trans (other _ .s3 (by decide))).trans (other _ .s4 (by decide))⟩
  | s3 =>
    exact ⟨fun change => (refitSlot_cleared change _).kept (other _ .s4 (by decide)),
      fun same => (((other s .s1 (by decide)).trans (other _ .s2 (by decide))).trans (own _ same)).trans (other _ .s4 (by decide))⟩
  | s4 =>
    exact ⟨fun change => refitSlot_cleared change _,
      fun same => (((other s .s1 (by decide)).trans (other _ .s2 (by decide))).trans (other _ .s3 (by decide))).trans (own _ same)⟩

theorem forSlots_refit_rest (changed : Slot → Bool) (s : State) : s.RestKept (forSlots (State.refitSlot changed) s) :=
  (((refitSlot_rest changed s .s1).trans (refitSlot_rest changed _ .s2)).trans (refitSlot_rest changed _ .s3)).trans
    (refitSlot_rest changed _ .s4)

/-- In CONFIG no CHUCK output shows a command, so there is nothing to remember (R56, R164). -/
theorem noted_boom_in_config {s : State} (mode : s.mode = .config) (b : Slot) : s.noted.boom b = s.boom b := by
  have shown : s.shownChuck b = .none := by
    unfold State.shownChuck State.outputs
    rw [if_pos (Or.inl mode)]
    split <;> rfl
  rw [noted_boom, shown]
  rfl

theorem toNat_of_toInt {value : Word} (low : 1 ≤ value.toInt) : value.toInt.toNat = value.toNat ∧ (value.toNat : Int) = value.toInt := by
  have bound := value.isLt
  rw [BitVec.toInt_eq_toNat_cond] at low ⊢
  split at low
  · next small =>
    rw [if_pos small]
    omega
  · omega

/-- Settles O34: the treated set is stored, and the slots whose place it changes are cleared. -/
theorem fittedBoomsChangeSlots : Obligations.FittedBoomsChangeSlots := by
  intro s tag value ready requested mode ordered
  have settled : s.settled := Or.inl requested
  refine ⟨fun zero => ?_, fun low high => ?_⟩
  · refine request_refused (r := .setParam 1 value) ready settled ?_
    rw [zero]
    simp only [handleRequest, reqSetParam, heard_mode, mode]
    rfl
  · obtain ⟨nat, int⟩ := toNat_of_toInt low
    have treated : ParamId.fittedBooms.kind.treat value.toInt = some value.toNat := by
      rw [← nat]
      exact if_pos ⟨low, high⟩
    have decision := reqSetParam_treated (s := s.heard) (id := 1) (value := value) (by simpa using mode) rfl treated
    rw [show s.heard.storedValue .fittedBooms value.toNat = value.toNat from rfl, heard_params,
      if_pos (show (s.params.set .fittedBooms value.toNat).ordered = true from ordered), if_pos int] at decision
    obtain ⟨w, stored⟩ : ∃ w : State, w = { s.heard with params := { s.params with fittedBooms := value.toNat } } := ⟨_, rfl⟩
    obtain ⟨changed, place⟩ : ∃ changed : Slot → Bool, changed = fun b => s.params.fits b != w.params.fits b := ⟨_, rfl⟩
    have refitted : s.heard.storeParam .fittedBooms value.toNat = forSlots (State.refitSlot changed) w := by
      rw [place, ← refit_eq, stored]
      unfold State.storeParam
      dsimp only
      rw [heard_params]
      rfl
    rw [refitted] at decision
    have rest := forSlots_refit_rest changed w
    have params : (forSlots (State.refitSlot changed) w).params = { s.params with fittedBooms := value.toNat } := by
      rw [rest.params, stored]
    have fits : ∀ b, (forSlots (State.refitSlot changed) w).fits b = value.getLsbD (slotNum b - 1) := by
      intro b
      unfold State.fits
      rw [params]
      rfl
    have change : ∀ b, changed b = (s.fits b != (forSlots (State.refitSlot changed) w).fits b) := by
      intro b
      have later : (forSlots (State.refitSlot changed) w).fits b = w.params.fits b := by
        unfold State.fits
        rw [rest.params]
      rw [later, place]
      rfl
    have quietMode : (forSlots (State.refitSlot changed) w).mode = .config := by
      rw [rest.mode, stored]
      exact (heard_mode s).trans mode
    have booms := fun b => noted_boom_in_config quietMode b
    have unasked : (forSlots (State.refitSlot changed) w).settled := Or.inl (by
      rw [rest.requested, stored]
      exact (heard_requested s).trans requested)
    refine ⟨_, request_answered (r := .setParam 1 value) ready decision unasked (by decide), answered_replies _ _ _ _, ?_, fun b => ?_,
      fun b moved => ?_, fun b stays => ?_, ?_, ?_, ?_, ?_, ?_⟩
    · rw [answered_params, noted_params, params]
    · rw [answered_fits, noted_fits, fits]
    · rw [answered_fits, noted_fits] at moved
      have cleared := (forSlots_refit changed w b).1 (by rw [change]; simpa using moved.symm)
      rw [answered_queues, noted_queues, answered_boom, booms, answered_boomStatus, answered_exceptionReport, noted_link]
      exact ⟨cleared.queue, cleared.boom, cleared.status, cleared.exception⟩
    · rw [answered_fits, noted_fits] at stays
      have kept := (forSlots_refit changed w b).2 (by rw [change]; simpa using stays.symm)
      rw [answered_queues, noted_queues, answered_boom, booms, kept.queue, kept.boom, stored]
      exact ⟨congrArg (fun q => q.get b) (heard_queues s), heard_boom s b⟩
    · rw [answered_recipes, noted_recipes, rest.recipes, stored]
      obtain ⟨l, link⟩ := heard_link s
      rw [link]
    · rw [answered_log, noted_log, rest.log, stored]
      exact heard_log s
    · rw [answered_arbiter, noted_arbiter, rest.arbiter, stored]
      exact heard_arbiter s
    · rw [answered_mode, noted_mode, rest.mode, stored]
      exact heard_mode s
    · rw [answered_clock, noted_clock, rest.clock, stored]
      exact heard_clock s

end Sys2Proof.Machine
end

section
/-! SUPPORT. An accepted GO: the hole opened on the boom, and its COLLARING entered (R17, R27, R36). -/

namespace Sys2Proof.Machine

/-- The plan an entry makes with its recipe at a tick (R17, R36). -/
def QueueEntry.plan (e : QueueEntry) (r : Recipe) (now : Tick) : Plan :=
  { holeId := e.holeId, recipeSlot := e.recipeSlot, posTag := e.posTag, recipe := r, target := e.target r, start := now }

/-- The boom with a hole opened on it, its chuck closed (R36). -/
def Boom.holeOpened (x : Boom) (r : Recipe) : Boom := { x.startHole r with chuck := .closed }

/-- The part as GO has opened its hole, COLLARING's own flow not yet asked for. -/
def State.holeOpened (s : State) (b : Slot) (rest : List QueueEntry) (r : Recipe) : State :=
  ({ s with queues := s.queues.set b rest } : State).setBoom b ((s.boom b).holeOpened r)

theorem startHole_eq (s : State) (b : Slot) (e : QueueEntry) (rest : List QueueEntry) (r : Recipe) :
    s.startHole b e rest r = (s.holeOpened b rest r).enterPhase b (Hole.start (e.plan r s.clock)) .collaring := rfl

section opened

variable (s : State) (b : Slot) (rest : List QueueEntry) (r : Recipe)

theorem holeOpened_boom : (s.holeOpened b rest r).boom b = (s.boom b).holeOpened r := State.setBoom_boom _ _ _

theorem holeOpened_boom_of_ne {c : Slot} (ne : c ≠ b) : (s.holeOpened b rest r).boom c = s.boom c :=
  State.setBoom_boom_of_ne _ _ ne

/-- The boom with its hole opened has empty sets and seen marks already, so that the entry to COLLARING clears nothing more. -/
theorem holeOpened_clearPhase :
    (s.holeOpened b rest r).setBoom b ((s.holeOpened b rest r).boom b).clearPhase = s.holeOpened b rest r := by
  rw [holeOpened_boom]
  unfold State.holeOpened
  rw [setBoom_setBoom]
  rfl

theorem holeOpened_store : State.SameStore s (s.holeOpened b rest r) := ⟨rfl, rfl, rfl, rfl, rfl, rfl, rfl, rfl, rfl, rfl⟩

end opened

/-- Opening a hole, when no requester waits and the boom may move: COLLARING asks for its flow (R27, R36). -/
theorem startHole_answers {s : State} {b : Slot} (e : QueueEntry) (rest : List QueueEntry) (r : Recipe)
    (level : (s.boom b).level = 0) (quiet : s.flowQuiet) (drive : s.drive = some true) (heard : s.link.silent = false) :
    ∃ g, FlowAnswered (s.holeOpened b rest r) (s.startHole b e rest r) b
      ((Hole.start (e.plan r s.clock)).enter .collaring s.clock) g := by
  obtain ⟨g, answered⟩ := enterPhase_answers (s := s.holeOpened b rest r) (b := b) (h := Hole.start (e.plan r s.clock))
    (p := .collaring) (by rw [holeOpened_boom]; exact level) quiet drive heard rfl
  rw [holeOpened_clearPhase, ← startHole_eq] at answered
  exact ⟨g, answered⟩

/-- An accepted GO's decision (R36). -/
theorem reqGo_accepted {s : State} {boom : Byte} {b : Slot} {e : QueueEntry} {rest : List QueueEntry} {r : Recipe}
    (named : s.slotOf boom = some b) (mode : s.mode = .run) (requested : s.requested = none)
    (idle : (s.boom b).auto = .idle) (level : (s.boom b).level = 0) (line : s.retractLine ≠ some true)
    (drive : s.drive = some true) (queue : s.queues.get b = e :: rest)
    (recipe : s.recipeOf (BitVec.ofNat 8 e.recipeSlot) = some r) : reqGo boom s = (s.startHole b e rest r).done := by
  have atZero : (s.boom b).idleAtZero = true := by simp [Boom.idleAtZero, idle, level]
  have off : s.lineOn = false := by rw [← Bool.not_eq_true, lineOn_iff]; exact line
  have on : s.driveOn = true := by simp [State.driveOn, drive]
  unfold reqGo
  rw [named]
  simp [mode, requested, atZero, off, on, queue, recipe]

theorem heard_silent (s : State) : s.heard.link.silent = false := by
  obtain ⟨l, started, same⟩ :=
    startNext_link { s with link := { s.link with assembler := .hunt, silenceTicks := 0, silent := false } }
  unfold State.heard
  rw [started]
  exact same.silent

/-- The hole that waits or moves in COLLARING is the one GO has made of its plan. -/
theorem opened_hole {g : Hole} {p : Plan} {now : Tick} {depth : Nat}
    (hole : g = ((Hole.start p).enter .collaring now).startMotion depth ∨
      g = { (Hole.start p).enter .collaring now with torqueRun := [] }) :
    g.phase = .collaring ∧ g.plan = p ∧ g.drilled = none ∧ g.exceptions = 0 ∧ g.loaded = 0 ∧ g.resolves = [] ∧
      g.chuckReleased = false ∧ g.moved = false := by
  rcases hole with hole | hole <;> rw [hole] <;> exact ⟨rfl, rfl, rfl, rfl, rfl, rfl, rfl, rfl⟩

/-- COLLARING keeps closed the chuck that GO has closed (R36, R164). -/
theorem startHole_chuck {s t : State} {b : Slot} {p : Plan} {rest : List QueueEntry} {r : Recipe} {g : Hole}
    (answered : FlowAnswered (s.holeOpened b rest r) t b ((Hole.start p).enter .collaring s.clock) g) :
    (t.boom b).chuck = .closed := by
  rcases answered.chuck with chuck | chuck
  · rw [chuck, holeOpened_boom]; rfl
  · rw [chuck]; rfl

/-- Settles O36: the opened hole's COLLARING asks for its flow with nobody else waiting, and what follows the act changes only the
link and the memory of the CHUCK outputs. -/
theorem goStartsTheHole : Obligations.GoStartsTheHole := by
  intro s tag boom b e rest r ready named mode requested idle level line drive queue small recipe quiet grant
  obtain ⟨l, same⟩ : ∃ l, s.heard = s.withLink l := heard_link s
  have silent : l.silent = false := by have := heard_silent s; rwa [same] at this
  obtain ⟨g, answered⟩ := startHole_answers (s := s.withLink l) (b := b) e rest r level quiet drive silent
  have decided := reqGo_accepted (s := s.withLink l) (boom := boom) named mode requested idle level line drive queue recipe
  generalize hu : (s.withLink l).startHole b e rest r = u at answered decided
  have chuck := startHole_chuck answered
  obtain ⟨asked, only, moved, -, -, hole⟩ := answered
  have settled : u.settled := settled_of_busy (b := b)
    (by unfold State.fits; rw [only.store.params]; exact fits_of_slotOf named)
    (by intro none; have some := FlowAsked_hole asked; rw [none] at some; cases some)
  obtain ⟨phase, plan, drilled, exceptions, loaded, resolves, released, unmoved⟩ := opened_hole hole
  have executed : exec (.go tag boom) s = .next (u.noted.answered 0x8D tag (le1 Status.ok.code)) :=
    request_plain (r := .go boom) (st := .ok) ready (by rw [same]; exact decided) settled
  have store : State.SameStore s u := ((heard_sameStore s).trans (by rw [same]; exact holeOpened_store _ _ _ _)).trans only.store
  have boom_eq : ∀ c, c ≠ b → u.boom c = s.boom c := fun c ne => (only.booms c ne).trans (holeOpened_boom_of_ne _ _ _ _ ne)
  have others := answered_sameOthers 0x8D tag (le1 Status.ok.code) store boom_eq only.grants only.reserve
  have readings := only.readings
  obtain ⟨⟨current, posted, accrued, seen, outOfRange⟩, profile, ⟨p0, -⟩⟩ :=
    (⟨moved.sets, moved.profile, moved.contexts⟩ : _ ∧ _ ∧ _)
  rw [holeOpened_boom] at readings current posted accrued seen outOfRange profile p0
  have readings : Boom.SameReadings (s.boom b) (u.boom b) :=
    ⟨readings.raw, readings.lastGood, readings.inForce, readings.posLoss, readings.enabled⟩
  have covered : ((s.withLink l).holeOpened b rest r).covers b (((s.withLink l).holeOpened b rest r).demandOf g.phase) ↔
      min s.params.demandCollaring s.params.pumpCapacity ≤ s.free := by
    rw [phase]
    show min s.params.demandCollaring s.params.pumpCapacity ≤ s.grant b ∨
      min s.params.demandCollaring s.params.pumpCapacity - s.grant b ≤ s.free ↔ _
    omega
  have placed : ∃ sub, (u.boom b).auto = .cycle sub g ∧
      if min s.params.demandCollaring s.params.pumpCapacity ≤ s.free then
        sub = .active ∧ u.grant b = min s.params.demandCollaring s.params.pumpCapacity ∧ u.arbiter.waitList = []
      else
        sub = .waitFlow ∧ u.grant b = 0 ∧
        u.arbiter.waitList =
          [{ requester := .boom b, cls := .normal, demand := min s.params.demandCollaring s.params.pumpCapacity,
             join := s.clock, waitStart := s.clock, backedOff := false }] := by
    unfold State.FlowAsked at asked
    rw [covered, phase] at asked
    split_ifs with fit
    · obtain ⟨auto, granted, waits⟩ := asked.1 fit
      exact ⟨_, auto, rfl, granted, waits⟩
    · obtain ⟨auto, granted, -, -, waits⟩ := asked.2 fit
      exact ⟨_, auto, rfl, granted.trans grant, waits⟩
  obtain ⟨sub, auto, placed⟩ := placed
  refine ⟨_, sub, g, executed, answered_replies _ _ _ _, ?_, ?_, phase, ?_, ?_, ?_, ?_, ?_, ?_, drilled, exceptions, loaded,
    resolves, released, unmoved, ?_, ?_, ?_, ?_, ?_, ?_, ?_, ?_, ?_, ?_, ?_, ?_, answered_sameReadings _ _ _ readings,
    answered_sameStore _ _ _ store, ?_, ?_, ?_, others⟩
  · rw [answered_queues, noted_queues, only.lists.queues]; rfl
  · rw [answered_boom, noted_boom, Boom.remember_auto, auto]
  · rw [plan]; rfl
  · rw [plan]; rfl
  · rw [plan]; rfl
  · rw [plan]; rfl
  · rw [plan]; rfl
  · rw [plan]; rfl
  · simp [noted_boom, p0]; rfl
  · simp [noted_boom, chuck]
  · simp [noted_boom, profile]; rfl
  · simp [noted_boom, profile]; rfl
  · simp [noted_boom, profile]; rfl
  · simp [noted_boom, profile]; rfl
  · simp [noted_boom, current]; rfl
  · simp [noted_boom, posted]; rfl
  · simp [noted_boom, accrued]; rfl
  · simp [noted_boom, outOfRange]; rfl
  · simp [noted_boom, seen]; rfl
  · rw [answered_grant, noted_grant, answered_arbiter, noted_arbiter]; exact placed
  · rw [answered_log, noted_log, only.lists.log]; rfl
  · rw [answered_nextSeq, noted_nextSeq, only.lists.nextSeq]; rfl
  · rw [answered_writers, noted_writers, only.lists.writers]; rfl

end Sys2Proof.Machine
end

section
/-! SUPPORT. Acts on one boom while nobody else waits for flow: what they write, the flow they leave the boom, and the retract of an
abandoned hole (R46, R47, R115 to R119). -/

namespace Sys2Proof.Machine

/-! ## A part with one boom, the arbiter and the BOOM_STATUS slots written -/

def State.written (s : State) (b : Slot) (x : Boom) (a : Arbiter) (q : Four Bool) : State :=
  { s with booms := s.booms.set b x, arbiter := a, link := { s.link with boomStatus := q } }

section written

variable (s : State) (b : Slot) (x y : Boom) (a d : Arbiter) (q p : Four Bool)

@[simp] theorem written_boom : (s.written b x a q).boom b = x := four_get_set_self _ _ _

theorem written_boom_of_ne {c : Slot} (ne : c ≠ b) : (s.written b x a q).boom c = s.boom c := four_get_set_of_ne _ _ ne

@[simp] theorem written_arbiter : (s.written b x a q).arbiter = a := rfl

@[simp] theorem written_grant (c : Slot) : (s.written b x a q).grant c = a.grants.get c := rfl

@[simp] theorem written_written : (s.written b x a q).written b y d p = s.written b y d p := by
  unfold State.written
  simp only [four_set_set]

theorem written_sameBooks : s.SameBooks (s.written b x a q) := by constructor <;> constructor <;> rfl

theorem changeBoom_written : ∃ q, s.changeBoom b x = s.written b x s.arbiter q := changeBoom_link s b x

end written

/-- The flow of one boom set with nobody waiting: the other grants and the reserve are as they were. -/
structure Arbiter.Holds (a d : Arbiter) (b : Slot) (n : Nat) : Prop where
  given : d.grants.get b = n
  others : ∀ c, c ≠ b → d.grants.get c = a.grants.get c
  reserve : d.reserve = a.reserve
  nobody : d.waitList = []

theorem written_onlyBoom {s : State} {b : Slot} {x : Boom} {a : Arbiter} {n : Nat} (holds : s.arbiter.Holds a b n)
    (readings : Boom.SameReadings (s.boom b) x) (q : Four Bool) : s.OnlyBoom (s.written b x a q) b where
  store := (written_sameBooks s b x a q).store
  lists := (written_sameBooks s b x a q).lists
  booms _ ne := written_boom_of_ne s b x a q ne
  grants := holds.others
  reserve := holds.reserve
  readings := by rwa [written_boom]

/-! ## Withdrawals, reductions and top-ups with nobody else waiting -/

/-- The arbiter with its wait list emptied. -/
def Arbiter.unwaited (a : Arbiter) : Arbiter := { a with waitList := [] }

/-- The arbiter as a boom's flow has been granted with nobody else waiting: the boom goes to the tail of the grant list (R119). -/
def Arbiter.grantedTo (a : Arbiter) (b : Slot) (n : Nat) : Arbiter :=
  { grants := a.grants.set b n, reserve := a.reserve,
    grantList := a.grantList.filter (fun q => q ≠ .boom b) ++ [.boom b], waitList := [] }

theorem grantedTo_holds (a : Arbiter) (b : Slot) (n : Nat) : a.Holds (a.grantedTo b n) b n :=
  ⟨four_get_set_self _ _ _, fun _ ne => four_get_set_of_ne _ _ ne, rfl, rfl⟩

theorem unwaited_of_nil {a : Arbiter} (nobody : a.waitList = []) : a.unwaited = a := by
  unfold Arbiter.unwaited; rw [← nobody]

theorem waitsAlone_of_quiet {s : State} (quiet : s.flowQuiet) (b : Slot) : s.waitsAlone b := by
  intro e mem; rw [show s.arbiter.waitList = [] from quiet] at mem; cases mem

/-- A withdrawal by the only requester that may wait empties the wait list (R117). -/
theorem withdrawBoom_alone {s : State} {b : Slot} (alone : s.waitsAlone b) :
    s.withdrawBoom b = { s with arbiter := s.arbiter.unwaited } := by
  unfold State.withdrawBoom
  split
  next unlisted =>
    have nobody : s.arbiter.waitList = [] := by
      cases list : s.arbiter.waitList with
      | nil => rfl
      | cons e es =>
        have mem : e ∈ s.arbiter.waitList := by simp [list]
        exact absurd (alone e mem) (by simpa using List.find?_eq_none.1 unlisted e mem)
    rw [unwaited_of_nil nobody]
  next =>
    have gone : s.arbiter.waitList.filter (fun e => e.requester ≠ .boom b) = [] :=
      List.filter_eq_nil_iff.2 fun e mem => by simp [alone e mem]
    have none : s.arbiter.withdraw (.boom b) = s.arbiter.unwaited := by
      unfold Arbiter.withdraw Arbiter.unwaited; rw [gone]
    rw [none, evaluate_nil (by rfl)]

/-- A boom's reduction with nobody else waiting (R115). -/
theorem reduceBoom_holds {s : State} {b : Slot} (alone : s.waitsAlone b) (n : Nat) :
    s.arbiter.Holds (s.reduceBoom b n).arbiter b (min n (s.grant b)) :=
  ⟨reduceBoom_grant s b n, fun _ ne => reduceBoom_grant_of_ne s n ne, by rw [reduceBoom_arbiter alone],
    reduceBoom_alone alone n⟩

/-- A top-up that the free flow covers, with nobody waiting, is granted and its requester told (R118, R119). -/
theorem topUpBoom_granted {s t : State} {b : Slot} {k : FlowClass} {n : Nat} (quiet : s.flowQuiet)
    (fit : n - s.grant b ≤ s.free)
    (told : State.tell { s with arbiter := s.arbiter.grantedTo b n } false (.boom b) = t) (nobody : t.arbiter.waitList = []) :
    (s.topUpBoom b k n).evaluate = t := by
  rw [topUpBoom_quiet quiet, State.evaluate, State.evaluationFuel, evaluateWith_grants rfl (by exact fit), State.awardEntry]
  dsimp only
  rw [award_alone]
  exact (congrArg (State.evaluateWith false _) told).trans (evaluateWith_nil nobody _ _)

/-! ## The retract of an abandoned hole -/

/-- An abandoned hole's boom as its retract may move: ACTIVE with its timer from zero, or held for want of drive-enable (R47). -/
def Boom.abandonMoved (x : Boom) (drive : Bool) (feed : Int) (h : Hole) : Boom :=
  { x with
    auto := if drive then .abandoning .active { h with retractTicks := 0 } else .abandoning .driveHeld h
    feed := if drive then feed else 0
    rotation := 0 }

theorem moveAbandon_eq (s : State) (b : Slot) (h : Hole) :
    s.moveAbandon b h = s.changeBoom b ((s.boom b).abandonMoved s.driveOn (-(s.params.retractFeed : Int)) h) := by
  unfold State.moveAbandon Boom.abandonMoved
  dsimp only
  cases s.driveOn <;> rfl

theorem tell_waiting_abandon {s : State} {b : Slot} {h : Hole} (level : (s.boom b).level = 0)
    (auto : (s.boom b).auto = .abandoning .waitFlow h) (inReserve : Bool) :
    s.tell inReserve (.boom b) = s.moveAbandon b h := by
  obtain ⟨retract, manual⟩ := level_zero level
  unfold State.tell
  simp only [retract, manual, auto]

/-- An abandoned hole away from home whose flow is covered retracts, or is held for want of drive-enable (R46, steps 5 and 6). -/
theorem abandonGo_retracts {s : State} {b : Slot} {h : Hole} (level : (s.boom b).level = 0)
    (unloaded : (s.boom b).loaderOut = none) (quiet : s.flowQuiet)
    (away : 10 * s.params.homeTolerance < s.depth b) (covered : s.covers b s.retractFlow) :
    ∃ a q, s.abandonGo b h =
        s.written b ((s.boom b).abandonMoved s.driveOn (-(s.params.retractFeed : Int)) h) a q ∧
      s.arbiter.Holds a b s.retractFlow := by
  unfold State.abandonGo
  have out : ¬ s.atHome b = true := by simpa [State.atHome] using away
  rw [if_neg out]
  split
  next held =>
    rw [moveAbandon_eq]
    obtain ⟨q, eq⟩ := changeBoom_written (s.reduceBoom b s.retractFlow) b
      (((s.reduceBoom b s.retractFlow).boom b).abandonMoved s.driveOn (-(s.params.retractFeed : Int)) h)
    have holds := reduceBoom_holds (waitsAlone_of_quiet quiet b) s.retractFlow
    rw [Nat.min_eq_left held] at holds
    refine ⟨(s.reduceBoom b s.retractFlow).arbiter, q, ?_, holds⟩
    exact (congrArg State.evaluate eq).trans (evaluate_nil holds.nobody)
  next short =>
    have fit := covered.resolve_left short
    obtain ⟨x, hx⟩ : ∃ x, x = { (s.boom b).still with auto := .abandoning .waitFlow h } := ⟨_, rfl⟩
    have moves : x.abandonMoved s.driveOn (-(s.params.retractFeed : Int)) h =
        (s.boom b).abandonMoved s.driveOn (-(s.params.retractFeed : Int)) h := by
      rw [hx]; unfold Boom.abandonMoved Boom.still; rw [← unloaded]
    obtain ⟨q, eq⟩ := changeBoom_written s b x
    obtain ⟨p, moved⟩ := changeBoom_written (s.written b x (s.arbiter.grantedTo b s.retractFlow) q) b
      ((s.boom b).abandonMoved s.driveOn (-(s.params.retractFeed : Int)) h)
    have told := tell_waiting_abandon (s := s.written b x (s.arbiter.grantedTo b s.retractFlow) q) (b := b) (h := h)
      (by rw [written_boom, hx]; exact level) (by rw [written_boom, hx]) false
    rw [moveAbandon_eq, written_boom] at told
    rw [written_written, written_arbiter] at moved
    rw [← hx, eq]
    exact ⟨_, p, topUpBoom_granted quiet fit
      ((told.trans (congrArg (State.changeBoom _ b) moves)).trans moved) rfl, grantedTo_holds _ _ _⟩

/-! ## ABANDON away from home -/

/-- The boom of a hole that is being abandoned, before its retract (R46, steps 1 to 4). -/
def State.gaveUp (s : State) (b : Slot) (h : Hole) : Boom :=
  (s.boom b).giveUp (strataFigures s.params h.plan.recipe) h.phase

/-- The hole as it is abandoned: its torque run empty (R46, R100). -/
def Hole.abandon (h : Hole) : Hole := { h with abandoned := true, torqueRun := [] }

/-- An abandoned hole with nobody else waiting: its entry goes and its boom gives up before its retract or its end (R46). -/
theorem abandonHole_alone {s : State} {b : Slot} (alone : s.waitsAlone b) (h : Hole) :
    s.abandonHole b h = (s.written b (s.gaveUp b h) s.arbiter.unwaited s.link.boomStatus).abandonGo b h.abandon := by
  unfold State.abandonHole
  rw [withdrawBoom_alone alone]
  rfl

theorem unwaited_holds {a d : Arbiter} {b : Slot} {n : Nat} (holds : a.unwaited.Holds d b n) : a.Holds d b n :=
  ⟨holds.given, holds.others, holds.reserve, holds.nobody⟩

theorem abandonHole_retracts {s : State} {b : Slot} {h : Hole} (level : (s.boom b).level = 0) (alone : s.waitsAlone b)
    (away : 10 * s.params.homeTolerance < s.depth b) (covered : s.covers b s.retractFlow) :
    ∃ a q, s.abandonHole b h =
        s.written b ((s.gaveUp b h).abandonMoved s.driveOn (-(s.params.retractFeed : Int)) h.abandon) a q ∧
      s.arbiter.Holds a b s.retractFlow := by
  rw [abandonHole_alone alone]
  generalize hv : s.written b (s.gaveUp b h) s.arbiter.unwaited s.link.boomStatus = v
  have boom : v.boom b = s.gaveUp b h := by rw [← hv, written_boom]
  obtain ⟨a, q, eq, holds⟩ := abandonGo_retracts (s := v) (b := b) (h := h.abandon) (by rw [boom]; exact level) (by rw [boom]; rfl)
    (by rw [← hv]; rfl) (by show _ < (v.boom b).depth; rw [boom, ← hv]; exact away) (by rw [← hv]; exact covered)
  rw [boom, ← hv, written_written] at eq
  rw [← hv] at holds
  exact ⟨a, q, hv ▸ eq, unwaited_holds holds⟩

/-! ## The requests that abandon a hole -/

/-- A command that gives up the hole of a boom's level-0 context as `k`, under a reply of this kind (R45, R149). -/
def GivesUp (c : Instr) (tag kind : Byte) (s : State) (b : Slot) (k : Hole) : Prop :=
  ∃ r, c.carries tag r ∧ r.wellFormed = true ∧ r.kind ||| 0x80#8 = kind ∧ handleRequest r s.heard = (s.heard.abandonHole b k).done

theorem abandon_givesUp {s : State} {tag boom : Byte} {b : Slot} {h : Hole} (named : s.slotOf boom = some b)
    (level : (s.boom b).level = 0) (auto : (∃ sub, (s.boom b).auto = .cycle sub h) ∨ ∃ f, (s.boom b).auto = .exception f h) :
    GivesUp (.abandon tag boom) tag 0x8E s b h := by
  refine ⟨.abandon boom, ⟨rfl, rfl⟩, rfl, by simp [Request.kind], ?_⟩
  have found : (s.boom b).abandonable = some h := by
    unfold Boom.abandonable
    rcases auto with ⟨sub, auto⟩ | ⟨f, auto⟩ <;> rw [level, auto] <;> rfl
  simp only [handleRequest, reqAbandon, heard_slotOf, named, heard_boom, found]

theorem resolveAbandon_givesUp {s : State} {tag boom : Byte} {b : Slot} {f : ExFrame} {h : Hole}
    (named : s.slotOf boom = some b) (level : (s.boom b).level = 0) (auto : (s.boom b).auto = .exception f h) :
    GivesUp (.resolveAbandon tag boom none) tag 0x90 s b (h.noteResolve f.cause .abandon) :=
  ⟨.resolve boom 3 none, ⟨rfl, rfl⟩, rfl, by simp [Request.kind],
    reqResolve_on (action := 3) (v := none) (a := .abandon) (n := 0) (by rw [heard_slotOf, named]) rfl
      (by rw [heard_boom, level]) (by rw [heard_boom, auto])⟩

theorem GivesUp.executed {c : Instr} {tag kind : Byte} {s t : State} {b : Slot} {k : Hole}
    (givesUp : GivesUp c tag kind s b k) (ready : s.ready) (settled : t.settled) (does : s.heard.abandonHole b k = t) :
    exec c s = .next (t.noted.answered kind tag (le1 0)) := by
  obtain ⟨r, carries, wf, replyKind, decided⟩ := givesUp
  exact request_plain ready (decided.trans (by rw [does]; rfl)) settled carries wf replyKind

/-! ## The obligation -/

theorem retractFlow_eq (s : State) : s.retractFlow = min s.params.demandRetractDrill s.params.pumpCapacity := rfl

theorem abandonMoved_auto (x : Boom) (drive : Bool) (feed : Int) (h : Hole) :
    ∃ g, (x.abandonMoved drive feed h).auto = .abandoning (if drive then .active else .driveHeld) g ∧
      g.abandoned = h.abandoned ∧ g.phase = h.phase ∧ g.plan = h.plan ∧ g.resolveCount = h.resolveCount := by
  cases drive
  · exact ⟨h, rfl, rfl, rfl, rfl, rfl⟩
  · exact ⟨{ h with retractTicks := 0 }, rfl, rfl, rfl, rfl, rfl⟩

theorem driveOn_if {α : Type} (s : State) (x y : α) :
    (if s.driveOn then x else y) = if s.drive = some true then x else y := by
  simp only [driveOn_iff]

/-- Settles O37: with nobody else waiting, the given-up boom's retract has its flow and moves, or is held. -/
theorem abandonRetracts : Obligations.AbandonRetracts := by
  intro s tag boom b h ready requested named alone level away covered c kind resolves row
  obtain ⟨k, givesUp, phase, plan, count⟩ :
      ∃ k, GivesUp c tag kind s b k ∧ k.phase = h.phase ∧ k.plan = h.plan ∧ k.resolveCount = resolves := by
    rcases row with ⟨rfl, rfl, rfl, auto⟩ | ⟨rfl, rfl, rfl, f, auto⟩
    · exact ⟨h, abandon_givesUp named level auto, rfl, rfl, rfl⟩
    · exact ⟨_, resolveAbandon_givesUp named level auto, rfl, rfl, rfl⟩
  obtain ⟨a, q, acts, holds⟩ := abandonHole_retracts (s := s.heard) (b := b) (h := k) (by rw [heard_boom, level])
    (by rw [State.waitsAlone, heard_arbiter]; exact alone) (by rw [heard_params, heard_depth]; exact away)
    (by rw [State.covers, retractFlow_eq, heard_params, heard_grant, heard_free]; exact covered)
  have giveUp : s.heard.gaveUp b k = (s.boom b).giveUp (strataFigures s.params k.plan.recipe) h.phase := by
    rw [State.gaveUp, heard_boom, heard_params, phase]
  rw [giveUp, heard_params, show s.heard.driveOn = s.driveOn from heard_driveOn s] at acts
  obtain ⟨g, auto, abandoned, phase', plan', count'⟩ := abandonMoved_auto
    ((s.boom b).giveUp (strataFigures s.params k.plan.recipe) h.phase) s.driveOn (-(s.params.retractFeed : Int)) k.abandon
  generalize hx : ((s.boom b).giveUp (strataFigures s.params k.plan.recipe) h.phase).abandonMoved s.driveOn
    (-(s.params.retractFeed : Int)) k.abandon = x at acts auto
  have readings : Boom.SameReadings (s.boom b) x := by rw [← hx]; exact ⟨rfl, rfl, rfl, rfl, rfl⟩
  have only : s.OnlyBoom (s.heard.written b x a q) b :=
    State.OnlyBoom.of_heard (written_onlyBoom holds (by rwa [heard_boom]) q)
  have settled : (s.heard.written b x a q).settled := Or.inl (only.store.requested.trans requested)
  rw [driveOn_if] at auto
  refine ⟨_, _, g, givesUp.executed ready settled acts, answered_replies _ _ _ _, ?_, abandoned, phase'.trans phase,
    plan'.trans plan, count'.trans count, rfl, ?_, ?_, ?_, ?_, ?_, ?_, ?_, ?_, only.answered _ _ _⟩
  · simp [noted_boom, auto]
  · rw [answered_grant, noted_grant, written_grant, holds.given, retractFlow_eq, heard_params]
  all_goals simp only [answered_boom, noted_boom, written_boom]
  · rw [Boom.remember_feed, ← hx, ← driveOn_if]; rfl
  · rw [Boom.remember_rotation, ← hx]; rfl
  · rw [Boom.remember_chuck, ← hx]
    exact if_congr decide_eq_true_iff rfl rfl
  · rw [Boom.remember_handshake, ← hx]; rfl
  · rw [Boom.remember_current, ← hx]; rfl
  · rw [Boom.remember_posted, ← hx]; rfl
  · rw [Boom.remember_accrued, ← hx]; rfl

end Sys2Proof.Machine
end

section
/-! SUPPORT. The end of a hole while nobody else waits for flow: by ABANDON and RESOLVE ABANDON at home, and by the samples at home of
an ABANDONING and of a RELEASING hole (R43, R46, R47, R168 to R172). -/

namespace Sys2Proof.Machine

/-! ## What the end of a hole leads to -/

/-- The boom of a hole that has ended, in the context its record's offer leaves (R43, R172). -/
def Boom.ended (x : Boom) (auto : Auto) : Boom := { x.still.cancelLoader with auto := auto }

/-- A hole ended with record `r`: the boom at rest without flow, and the record logged or held (R43, R172, R175). -/
structure State.Ended (s t : State) (b : Slot) (r : BoltRecord) : Prop where
  boom : ∃ auto, t.boom b = (s.boom b).ended auto
  grant : t.grant b = 0
  booms : ∀ c, c ≠ b → t.boom c = s.boom c
  grants : ∀ c, c ≠ b → t.grant c = s.grant c
  reserve : t.arbiter.reserve = s.arbiter.reserve
  logged : s.log.length < 48 →
    t.log = s.log ++ [{ r with seq := s.nextSeq }] ∧ t.nextSeq = (if s.nextSeq = 65535 then 1 else s.nextSeq + 1) ∧
    (t.boom b).auto = .idle ∧ t.writers = s.writers ∧ t.link.recordReady = true
  waits : 48 ≤ s.log.length →
    t.log = s.log ∧ t.nextSeq = s.nextSeq ∧ (t.boom b).auto = .logWait r ∧ t.writers = s.writers ++ [b]
  store : State.SameStore s t
  queues : t.queues = s.queues

/-- The part as a hole's end has made its boom rest with the arbiter as it then is, its record not yet offered. -/
def State.rested (s : State) (b : Slot) (a : Arbiter) : State := s.written b (s.boom b).still.cancelLoader a s.link.boomStatus

theorem rested_boom (s : State) (b : Slot) (a : Arbiter) : (s.rested b a).boom b = (s.boom b).still.cancelLoader :=
  written_boom _ _ _ _ _

theorem endHole_eq (s : State) (b : Slot) (h : Hole) :
    s.endHole b h =
      ((s.rested b (s.reduceBoom b 0).arbiter).offerRecord b ((s.boom b).holeRecord b h s.clock)).evaluate := by
  unfold State.endHole
  dsimp only
  have boom : ((s.reduceBoom b 0).setBoom b ((s.reduceBoom b 0).boom b).still.cancelLoader).boom b =
      (s.boom b).still.cancelLoader := State.setBoom_boom _ _ _
  rw [boom]
  rfl

/-- A record offered with room in the log (R172). -/
theorem offerRecord_logged {s : State} (room : s.log.length < 48) (b : Slot) (r : BoltRecord) :
    ∃ q, s.offerRecord b r =
      { s with
        booms := s.booms.set b { s.boom b with auto := .idle }
        log := s.log ++ [{ r with seq := s.nextSeq }]
        nextSeq := seqAfter s.nextSeq
        link := { s.link with recordReady := true, boomStatus := q } } := by
  unfold State.offerRecord
  rw [if_pos (show s.log.length < Config.logSize from room)]
  obtain ⟨q, eq⟩ := emptyContext_eq (s.writeRecord r) b
  exact ⟨q, eq⟩

/-- A record offered to a full log (R172, R175). -/
theorem offerRecord_held {s : State} (full : 48 ≤ s.log.length) (b : Slot) (r : BoltRecord) :
    ∃ q, s.offerRecord b r =
      { s with
        booms := s.booms.set b { s.boom b with auto := .logWait r }
        writers := s.writers ++ [b]
        link := { s.link with boomStatus := q } } := by
  unfold State.offerRecord
  rw [if_neg (show ¬ s.log.length < Config.logSize from Nat.not_lt.2 full)]
  obtain ⟨q, eq⟩ := changeBoom_link s b { s.boom b with auto := .logWait r }
  exact ⟨q, by rw [eq]⟩

theorem rested_ended (s : State) (b : Slot) (a : Arbiter) (auto : Auto) :
    ({ (s.rested b a).boom b with auto := auto } : Boom) = (s.boom b).ended auto := by
  rw [rested_boom]; rfl

/-- The end of a hole with nobody else waiting (R43). -/
theorem endHole_ends {s : State} {b : Slot} (quiet : s.flowQuiet) (h : Hole) :
    s.Ended (s.endHole b h) b ((s.boom b).holeRecord b h s.clock) := by
  have holds := reduceBoom_holds (waitsAlone_of_quiet quiet b) 0
  rw [Nat.zero_min] at holds
  rw [endHole_eq]
  generalize (s.boom b).holeRecord b h s.clock = r
  generalize (s.reduceBoom b 0).arbiter = a at holds
  rcases Nat.lt_or_ge s.log.length 48 with room | full
  · obtain ⟨q, eq⟩ := offerRecord_logged (s := s.rested b a) room b r
    rw [rested_ended] at eq
    rw [eq, evaluate_nil (by exact holds.nobody)]
    exact
      { boom := ⟨.idle, four_get_set_self _ _ _⟩
        grant := holds.given
        booms := fun c ne => (four_get_set_of_ne _ _ ne).trans (four_get_set_of_ne _ _ ne)
        grants := holds.others
        reserve := holds.reserve
        logged := fun _ => ⟨rfl, rfl, congrArg Boom.auto (four_get_set_self _ _ _), rfl, rfl⟩
        waits := fun full => absurd room (Nat.not_lt.2 full)
        store := ⟨rfl, rfl, rfl, rfl, rfl, rfl, rfl, rfl, rfl, rfl⟩
        queues := rfl }
  · obtain ⟨q, eq⟩ := offerRecord_held (s := s.rested b a) full b r
    rw [rested_ended] at eq
    rw [eq, evaluate_nil (by exact holds.nobody)]
    exact
      { boom := ⟨.logWait r, four_get_set_self _ _ _⟩
        grant := holds.given
        booms := fun c ne => (four_get_set_of_ne _ _ ne).trans (four_get_set_of_ne _ _ ne)
        grants := holds.others
        reserve := holds.reserve
        logged := fun room => absurd room (Nat.not_lt.2 full)
        waits := fun _ => ⟨rfl, rfl, congrArg Boom.auto (four_get_set_self _ _ _), rfl⟩
        store := ⟨rfl, rfl, rfl, rfl, rfl, rfl, rfl, rfl, rfl, rfl⟩
        queues := rfl }

/-! ## The record's sections -/

theorem spanMs_some {x y : Option Tick} {a e : Tick} (start : x = some a) (finish : y = some e) :
    spanMs x y = 10 * ticksSince e a := by rw [start, finish]; rfl

theorem spanMs_none {x y : Option Tick} (open_ : x = none ∨ y = none) : spanMs x y = 0 := by
  rcases open_ with h | h <;> rw [h]
  · rfl
  · cases x <;> rfl

theorem holeRecord_resin (x : Boom) (b : Slot) (h : Hole) (now : Tick) : h.ResinIn (x.holeRecord b h now).resin := by
  cases entered : h.resinEntered with
  | false =>
    have none : (x.holeRecord b h now).resin = none := by unfold Boom.holeRecord; simp [entered]
    rw [none]
    exact ⟨fun _ => rfl, fun yes => absurd (entered.symm.trans yes) (by decide), nofun⟩
  | true =>
    have some : (x.holeRecord b h now).resin = some h.resinSection := by unfold Boom.holeRecord; simp [entered]
    rw [some]
    refine ⟨fun no => absurd (entered.symm.trans no) (by decide), fun _ => ⟨_, rfl, rfl, rfl, rfl, rfl⟩, fun sec eq => ?_⟩
    injection eq with eq
    rw [← eq]
    exact ⟨fun a e => spanMs_some, spanMs_none, fun a e => spanMs_some, spanMs_none⟩

theorem holeRecord_tension (x : Boom) (b : Slot) (h : Hole) (now : Tick) : h.TensionIn (x.holeRecord b h now).tension := by
  cases entered : h.torqueEntered with
  | false =>
    have none : (x.holeRecord b h now).tension = none := by unfold Boom.holeRecord; simp [entered]
    rw [none]
    exact ⟨fun _ => rfl, fun yes => absurd (entered.symm.trans yes) (by decide)⟩
  | true =>
    have some : (x.holeRecord b h now).tension = some h.tensionSection := by unfold Boom.holeRecord; simp [entered]
    rw [some]
    exact ⟨fun no => absurd (entered.symm.trans no) (by decide), fun _ => rfl⟩

/-! ## The samples at home -/

/-- A hole ended from the part as its own sample has left it, the boom's profile and out-of-range counts as they were. -/
theorem State.Ended.holeEnded {s v t : State} {b : Slot} {h k : Hole}
    (ended : v.Ended t b ((v.boom b).holeRecord b k v.clock)) (only : s.OnlyBoom v b)
    (profile : (v.boom b).profile = (s.boom b).profile) (outOfRange : (v.boom b).outOfRange = (s.boom b).outOfRange)
    (figures : ∀ (x : Boom) now, x.holeRecord b k now = x.holeRecord b h now) :
    s.HoleEnded t b h ((v.boom b).holeRecord b h s.clock) := by
  rw [figures, only.store.clock] at ended
  obtain ⟨⟨auto, boom⟩, grant, booms, grants, reserve, logged, waits, store, queues⟩ := ended
  rw [only.lists.log, only.lists.nextSeq, only.lists.writers] at logged
  rw [only.lists.log, only.lists.nextSeq, only.lists.writers] at waits
  exact
    { grant := grant
      still := by rw [boom]; exact ⟨rfl, rfl, rfl, rfl⟩
      hole := ⟨rfl, rfl, rfl, rfl⟩
      times := ⟨rfl, rfl⟩
      phase := rfl
      drilled := by rw [← profile]; exact ⟨rfl, rfl⟩
      profile := by rw [← profile]; exact ⟨rfl, rfl, rfl⟩
      counts := ⟨rfl, rfl, rfl, rfl, rfl, rfl, rfl⟩
      sets := by rw [boom, ← outOfRange]; exact ⟨rfl, rfl⟩
      resin := holeRecord_resin _ _ _ _
      tension := holeRecord_tension _ _ _ _
      logged := logged
      waits := waits
      store := only.store.trans store
      queues := queues.trans only.lists.queues
      others := fun c ne => ⟨(booms c ne).trans (only.booms c ne), (grants c ne).trans (only.grants c ne)⟩ }

/-- A RELEASING hole after an ACTIVE sample's outputs: the first one has the chuck opened, the next ones feed (R23). -/
def Hole.released (k : Hole) : Hole := if k.releaseOpened then k.feedRelease else { k with releaseOpened := true }

/-- The boom in RELEASING after an ACTIVE sample's outputs (R23). -/
def Boom.releasedBy (x : Boom) (ps : Params) (k : Hole) : Boom :=
  { x.ranged with
    auto := .cycle .active k.released, feed := if k.releaseOpened then -(ps.retractFeed : Int) else 0, rotation := 0,
    chuck := .opened }

theorem driveRelease_ranged (s : State) (b : Slot) (k : Hole) :
    (s.setBoom b (s.boom b).ranged).driveRelease b k = s.setBoom b ((s.boom b).releasedBy s.params k) := by
  unfold State.driveRelease State.driveBoom Boom.releasedBy Hole.released
  cases k.releaseOpened
  · simp only [State.setBoom_boom, if_false, Bool.false_eq_true, setBoom_setBoom]
  · simp only [State.setBoom_boom, if_true, setBoom_setBoom]
    rfl

theorem releasing_sample {s : State} {b : Slot} {h k : Hole} (running : (s.boom b).running = some (.active, h))
    (timers : k = h.sampleTimers (s.depth b) s.clock) (calm : s.stopCause b (s.activeConds b k) = none)
    (phase : k.phase = .releasing) :
    s.contextSample b =
      if s.depth b ≤ 10 * s.params.homeTolerance then (s.setBoom b ((s.boom b).releasedBy s.params k)).cross b k
      else s.setBoom b ((s.boom b).releasedBy s.params k) := by
  rw [timers] at calm
  rw [contextSample_active running calm, ← timers]
  unfold State.phaseSample
  rw [phase]
  unfold State.releasingSample State.atHome
  dsimp only
  rw [driveRelease_ranged, depth_setBoom]
  simp only [decide_eq_true_eq]
  rfl

/-- RELEASING counts its retract timer and no other (R37 to R41). -/
theorem sampleTimers_releasing {h : Hole} (phase : h.phase = .releasing) (depth : Nat) (now : Tick) :
    h.sampleTimers depth now = h.retractSample := by
  have plain : h.stallSample depth = h := by unfold Hole.stallSample; rw [phase]; rfl
  have phase' : h.retractSample.phase = .releasing := by unfold Hole.retractSample; split <;> exact phase
  unfold Hole.sampleTimers Hole.startTimers
  rw [plain, phase']

theorem retractSample_figures (h : Hole) (x : Boom) (b : Slot) (now : Tick) :
    x.holeRecord b h.retractSample now = x.holeRecord b h now := by
  unfold Hole.retractSample; split <;> rfl

theorem retractSample_releases (h : Hole) :
    h.retractSample.phase = h.phase ∧ h.retractSample.releaseOpened = h.releaseOpened := by
  unfold Hole.retractSample; split <;> exact ⟨rfl, rfl⟩

theorem verdictOf_going (accrued : CondSet) :
    verdictOf false false accrued =
      if CondSet.has accrued .mixShort ∨ CondSet.has accrued .torqueTimeout ∨ CondSet.has accrued .poorAnchor ∨
          CondSet.has accrued .shortResin ∨ CondSet.has accrued .underTension ∨ CondSet.has accrued .overTension ∨
          CondSet.has accrued .movedWhileAway then .flagged
      else .accepted := by
  unfold verdictOf flaggingConds
  simp only [List.any_cons, List.any_nil, Bool.or_false, Bool.or_eq_true, Bool.false_eq_true, if_false]

/-- One boom and the BOOM_STATUS slots written, and no flow moved. -/
theorem written_unmoved {s : State} {b : Slot} {x : Boom} (readings : Boom.SameReadings (s.boom b) x) (q : Four Bool) :
    s.OnlyBoom (s.written b x s.arbiter q) b where
  store := (written_sameBooks s b x s.arbiter q).store
  lists := (written_sameBooks s b x s.arbiter q).lists
  booms _ ne := written_boom_of_ne s b x _ q ne
  grants _ _ := rfl
  reserve := rfl
  readings := by rwa [written_boom]

/-- An overdue flag just set queues BOOM_STATUS, and nothing else (R192). -/
theorem noteOverdue_written (s : State) (b : Slot) (x : Boom) (was : Bool) :
    ∃ q, (s.setBoom b x).noteOverdue b was = s.written b x s.arbiter q := by
  unfold State.noteOverdue State.queueStatus
  split
  · split
    · exact ⟨_, rfl⟩
    · exact ⟨_, rfl⟩
  · exact ⟨_, rfl⟩

/-- An ACTIVE ABANDONING sample, its timer counted (R47). -/
theorem abandoning_sample {s : State} {b : Slot} {h : Hole} (level : (s.boom b).level = 0)
    (auto : (s.boom b).auto = .abandoning .active h) (drive : s.drive = some true) :
    ∃ q, s.contextSample b =
      if s.depth b ≤ 10 * s.params.homeTolerance then
        (s.written b { s.boom b with auto := .abandoning .active (h.abandonTimer s.params) } s.arbiter q).endHole b
          (h.abandonTimer s.params)
      else s.written b { s.boom b with auto := .abandoning .active (h.abandonTimer s.params) } s.arbiter q := by
  rw [contextSample_abandoning level auto]
  unfold State.abandonSample
  dsimp only
  rw [if_pos ((driveOn_iff s).2 drive)]
  have stays : ({ s.boom b with auto := .abandoning .active (h.abandonTimer s.params) } : Boom).depth = s.depth b := rfl
  generalize ({ s.boom b with auto := .abandoning .active (h.abandonTimer s.params) } : Boom) = x at stays
  obtain ⟨q, eq⟩ := noteOverdue_written s b x h.overdue
  have depth : (s.written b x s.arbiter q).depth b = s.depth b := by
    rw [← stays]; exact congrArg Boom.depth (written_boom s b x s.arbiter q)
  refine ⟨q, ?_⟩
  rw [eq]
  unfold State.atHome
  rw [depth]
  simp only [decide_eq_true_eq]
  rfl

/-- A RELEASING sample, at home and away from it (R23, R43). -/
theorem releasing_ends {s : State} {b : Slot} {h : Hole} (running : (s.boom b).running = some (.active, h))
    (calm : s.stopCause b (s.activeConds b (h.sampleTimers (s.depth b) s.clock)) = none) (phase : h.phase = .releasing) :
    (10 * s.params.homeTolerance < s.depth b →
      ∃ x g, s.contextSample b = s.setBoom b x ∧ x.auto = .cycle .active g ∧ g.phase = .releasing ∧
        g.releaseOpened = true ∧ x.chuck = .opened ∧ x.rotation = 0 ∧
        x.feed = (if h.releaseOpened then -(s.params.retractFeed : Int) else 0)) ∧
    (s.depth b ≤ 10 * s.params.homeTolerance → s.flowQuiet → h.abandoned = false →
      ∃ t r, s.contextSample b = t ∧ s.HoleEnded t b h r ∧ (t.boom b).chuck = .opened ∧
        r.verdict = verdictOf false false r.accrued) := by
  obtain ⟨phase', opens⟩ := retractSample_releases h
  rw [phase] at phase'
  have sample := releasing_sample running (sampleTimers_releasing phase _ _).symm (by rwa [sampleTimers_releasing phase] at calm)
    phase'
  rw [sample]
  have opened : h.retractSample.released.releaseOpened = true := by
    unfold Hole.released; split
    next already => exact already
    next => rfl
  have phased : h.retractSample.released.phase = .releasing := by
    unfold Hole.released; split <;> exact phase'
  have figures : ∀ (x : Boom) now, x.holeRecord b h.retractSample now = x.holeRecord b h now := fun x now =>
    retractSample_figures h x b now
  refine ⟨fun away => ⟨_, _, if_neg (Nat.not_le.2 away), rfl, phased, opened, rfl, rfl, by rw [← opens]; rfl⟩,
    fun home quiet going => ?_⟩
  rw [if_pos home]
  generalize hx : (s.boom b).releasedBy s.params h.retractSample = x
  have ends : (s.setBoom b x).cross b h.retractSample = (s.setBoom b x).endHole b h.retractSample := by
    unfold State.cross; rw [phase']; rfl
  rw [ends]
  have ended := endHole_ends (s := s.setBoom b x) (b := b) quiet h.retractSample
  obtain ⟨auto, boom⟩ := ended.boom
  have only : s.OnlyBoom (s.setBoom b x) b :=
    written_unmoved (s := s) (x := x) (by rw [← hx]; exact ⟨rfl, rfl, rfl, rfl, rfl⟩) s.link.boomStatus
  rw [State.setBoom_boom] at boom
  refine ⟨_, _, rfl, ended.holeEnded only ?_ ?_ figures, ?_, ?_⟩
  · rw [State.setBoom_boom, ← hx]; rfl
  · rw [State.setBoom_boom, ← hx]; rfl
  · rw [boom, ← hx]; rfl
  · show verdictOf h.abandoned false _ = _
    rw [going]; rfl

/-- An ABANDONING sample, at home and away from it (R47). -/
theorem abandoning_ends {s : State} {b : Slot} {h : Hole} (level : (s.boom b).level = 0)
    (auto : (s.boom b).auto = .abandoning .active h) (drive : s.drive = some true) :
    (10 * s.params.homeTolerance < s.depth b →
      ((s.contextSample b).boom b).auto =
        .abandoning .active
          { h with
            retractTicks := h.retractTicks + 1
            overdue := h.overdue || decide (s.params.retractTimeout ≤ 10 * (h.retractTicks + 1)) } ∧
      s.OnlyBoom (s.contextSample b) b ∧ (s.contextSample b).grant b = s.grant b) ∧
    (s.depth b ≤ 10 * s.params.homeTolerance → s.flowQuiet → h.abandoned = true →
      ∃ t r, s.contextSample b = t ∧ s.HoleEnded t b h r ∧ r.verdict = .rejected) := by
  obtain ⟨q, sample⟩ := abandoning_sample level auto drive
  rw [sample]
  generalize hx : ({ s.boom b with auto := .abandoning .active (h.abandonTimer s.params) } : Boom) = x
  have only : s.OnlyBoom (s.written b x s.arbiter q) b :=
    written_unmoved (by rw [← hx]; exact ⟨rfl, rfl, rfl, rfl, rfl⟩) q
  refine ⟨fun away => ?_, fun home quiet given => ?_⟩
  · rw [if_neg (Nat.not_le.2 away), written_boom, ← hx]
    exact ⟨rfl, hx ▸ only, rfl⟩
  · rw [if_pos home]
    have ended := endHole_ends (s := s.written b x s.arbiter q) (b := b) quiet (h.abandonTimer s.params)
    refine ⟨_, _, rfl, ended.holeEnded only ?_ ?_ (fun x now => rfl), ?_⟩
    · rw [written_boom, ← hx]
    · rw [written_boom, ← hx]
    · show verdictOf h.abandoned false _ = _
      rw [given]; rfl

/-! ## ABANDON and RESOLVE ABANDON at home -/

/-- The part as a hole's boom has given it up with nobody else waiting, before its end (R46). -/
def State.givenUp (s : State) (b : Slot) (h : Hole) : State :=
  s.written b (s.gaveUp b h) s.arbiter.unwaited s.link.boomStatus

theorem abandonHole_ends {s : State} {b : Slot} (alone : s.waitsAlone b) (home : s.depth b ≤ 10 * s.params.homeTolerance)
    (h : Hole) :
    (s.givenUp b h).Ended (s.abandonHole b h) b ((s.gaveUp b h).holeRecord b h.abandon s.clock) := by
  have boom : (s.givenUp b h).boom b = s.gaveUp b h := written_boom _ _ _ _ _
  have atHome : (s.givenUp b h).atHome b = true := by
    unfold State.atHome State.depth
    rw [boom]
    exact decide_eq_true home
  have ended := endHole_ends (s := s.givenUp b h) (b := b) rfl h.abandon
  rw [boom] at ended
  have ends : s.abandonHole b h = (s.givenUp b h).endHole b h.abandon := by
    rw [abandonHole_alone alone]; exact if_pos atHome
  rw [ends]
  exact ended

/-- The request that gives up a hole at home, answered (R46). -/
theorem GivesUp.ends {c : Instr} {tag kind : Byte} {s : State} {b : Slot} {k : Hole} (givesUp : GivesUp c tag kind s b k)
    (ready : s.ready) (requested : s.requested = none) (alone : s.waitsAlone b)
    (home : s.depth b ≤ 10 * s.params.homeTolerance) :
    ∃ u, exec c s = .next (u.noted.answered kind tag (le1 0)) ∧
      (s.givenUp b k).Ended u b ((s.gaveUp b k).holeRecord b k.abandon s.clock) := by
  obtain ⟨l, same⟩ : ∃ l, s.heard = s.withLink l := heard_link s
  have ended := abandonHole_ends (s := s.withLink l) (b := b) alone home k
  have ended : (s.givenUp b k).Ended ((s.withLink l).abandonHole b k) b ((s.gaveUp b k).holeRecord b k.abandon s.clock) :=
    ⟨ended.boom, ended.grant, ended.booms, ended.grants, ended.reserve, ended.logged, ended.waits,
      ⟨ended.store.pending, ended.store.clock, ended.store.mode, ended.store.requested, ended.store.restartCause,
        ended.store.params, ended.store.recipes, ended.store.drive, ended.store.driveLine, ended.store.retractLine⟩,
      ended.queues⟩
  exact ⟨_, givesUp.executed ready (Or.inl (ended.store.requested.trans requested)) (by rw [same]), ended⟩

/-- What the end of a given-up hole leaves, seen from the part before its request and after what follows every event. -/
theorem State.Ended.answered {s u : State} {b : Slot} {k : Hole} {r : BoltRecord} (ended : (s.givenUp b k).Ended u b r)
    (kind tag : Byte) :
    (∃ auto, u.boom b = (s.gaveUp b k).ended auto) ∧ (u.noted.answered kind tag (le1 0)).grant b = 0 ∧
      State.SameStore s (u.noted.answered kind tag (le1 0)) ∧ (u.noted.answered kind tag (le1 0)).queues = s.queues ∧
      State.SameOthers s (u.noted.answered kind tag (le1 0)) b ∧
      (if s.log.length < 48 then
        (u.noted.answered kind tag (le1 0)).log = s.log ++ [{ r with seq := s.nextSeq }] ∧
        (u.noted.answered kind tag (le1 0)).nextSeq = (if s.nextSeq = 65535 then 1 else s.nextSeq + 1) ∧
        ((u.noted.answered kind tag (le1 0)).boom b).auto = .idle ∧
        (u.noted.answered kind tag (le1 0)).writers = s.writers ∧
        (u.noted.answered kind tag (le1 0)).link.recordReady = true
      else
        (u.noted.answered kind tag (le1 0)).log = s.log ∧ (u.noted.answered kind tag (le1 0)).nextSeq = s.nextSeq ∧
        ((u.noted.answered kind tag (le1 0)).boom b).auto = .logWait r ∧
        (u.noted.answered kind tag (le1 0)).writers = s.writers ++ [b]) := by
  obtain ⟨boom, grant, booms, grants, reserve, logged, waits, store, queues⟩ := ended
  rw [show (s.givenUp b k).boom b = s.gaveUp b k from written_boom _ _ _ _ _] at boom
  have store : State.SameStore s u := (written_sameBooks s b (s.gaveUp b k) s.arbiter.unwaited s.link.boomStatus).store.trans store
  refine ⟨boom, ?_, answered_sameStore _ _ _ store, ?_, answered_sameOthers _ _ _ store
    (fun c ne => (booms c ne).trans (written_boom_of_ne _ _ _ _ _ ne)) grants reserve, ?_⟩
  · rw [answered_grant, noted_grant, grant]
  · rw [answered_queues, noted_queues, queues]; rfl
  · rw [answered_log, noted_log, answered_nextSeq, noted_nextSeq, answered_boom, noted_boom, Boom.remember_auto,
      answered_writers, noted_writers, answered_recordReady, noted_link]
    by_cases room : s.log.length < 48
    · rw [if_pos room]; exact logged room
    · rw [if_neg room]; exact waits (Nat.not_lt.1 room)

/-- A hole with its resolves counted and listed anew. -/
def Hole.withResolves (h : Hole) (n : Nat) (l : List (Cond × Action)) : Hole := { h with resolveCount := n, resolves := l }

/-- Settles O38: at home a given-up hole and one whose sample ends it are rested, recorded and offered to the log alike. -/
theorem abandonAtHomeEndsTheHole : Obligations.AbandonAtHomeEndsTheHole := by
  refine ⟨fun s tag boom b sub h ready requested named alone running home => ?_,
    fun s b h running calm phase => ?_, fun s b h level auto drive => abandoning_ends level auto drive,
    fun s tag boom b h ready requested named alone level home c kind count list row => ?_⟩
  · obtain ⟨level, auto⟩ := running_context running
    obtain ⟨u, executed, ended⟩ := (abandon_givesUp (tag := tag) named level (Or.inl ⟨sub, auto⟩)).ends ready requested alone home
    obtain ⟨⟨context, boom_eq⟩, grant, store, queues, others, offered⟩ := ended.answered 0x8E tag
    exact ⟨_, _, executed, answered_replies _ _ _ _, grant, rfl, rfl, rfl, rfl, rfl, rfl, rfl, rfl, rfl, rfl,
      by rw [answered_boom, noted_boom, Boom.remember_feed, boom_eq]; rfl,
      by rw [answered_boom, noted_boom, Boom.remember_rotation, boom_eq]; rfl, store, queues, others, offered⟩
  · obtain ⟨away, ends⟩ := releasing_ends running calm phase
    refine ⟨away, fun home quiet going => ?_⟩
    obtain ⟨t, r, sample, ended, chuck, verdict⟩ := ends home quiet going
    exact ⟨t, r, sample, ended, chuck, verdict.trans (verdictOf_going r.accrued)⟩
  · obtain ⟨k, givesUp, figures, counted, listed⟩ : ∃ k, GivesUp c tag kind s b k ∧
        (∃ n l, k = h.withResolves n l) ∧ k.resolveCount = count ∧ k.resolves = list := by
      rcases row with ⟨rfl, rfl, rfl, rfl, auto⟩ | ⟨f, rfl, rfl, rfl, rfl, auto⟩
      · exact ⟨h, abandon_givesUp named level auto, ⟨_, _, rfl⟩, rfl, rfl⟩
      · exact ⟨_, resolveAbandon_givesUp named level auto, ⟨_, _, rfl⟩, rfl, rfl⟩
    obtain ⟨n, l, rfl⟩ := figures
    obtain ⟨u, executed, ended⟩ := givesUp.ends ready requested alone home
    obtain ⟨⟨context, boom_eq⟩, grant, store, queues, others, offered⟩ := ended.answered kind tag
    have resin := holeRecord_resin (s.gaveUp b (h.withResolves n l)) b (h.withResolves n l).abandon s.clock
    have tension := holeRecord_tension (s.gaveUp b (h.withResolves n l)) b (h.withResolves n l).abandon s.clock
    refine ⟨_, (s.gaveUp b (h.withResolves n l)).holeRecord b (h.withResolves n l).abandon s.clock, executed,
      answered_replies _ _ _ _, grant, rfl, rfl, rfl,
      rfl, rfl, rfl, rfl, rfl, rfl, ?_, ?_, ?_, ?_, rfl, counted,
      listed, rfl, rfl, rfl, rfl, rfl, rfl, ⟨resin.absent, resin.counts, resin.times⟩, ⟨tension.absent, tension.figures⟩, ?_, ?_, ?_, ?_, ?_, ?_, store,
      queues, others, offered⟩
    all_goals rw [answered_boom, noted_boom]
    · rw [Boom.remember_profile, boom_eq]; rfl
    · rw [Boom.remember_profile, boom_eq]; rfl
    · rw [Boom.remember_profile, boom_eq]; rfl
    · rw [Boom.remember_profile, boom_eq]; rfl
    · rw [Boom.remember_feed, boom_eq]; rfl
    · rw [Boom.remember_rotation, boom_eq]; rfl
    · rw [Boom.remember_handshake, boom_eq]; rfl
    · rw [Boom.remember_chuck, boom_eq]; exact if_congr decide_eq_true_iff rfl rfl
    · rw [Boom.remember_current, boom_eq]; rfl
    · rw [Boom.remember_posted, boom_eq]; rfl

end Sys2Proof.Machine
end

section
/-! SUPPORT. MARK_END and the samples of an observed hole (R172, R175, R182, R183). -/

namespace Sys2Proof.Machine

/-- A PARTIAL close leaves the frontier (R70). -/
theorem closePartial_frontier (g : StrataFigures) (p : Profile) : (p.closePartial g).1.frontier = p.frontier := by
  unfold Profile.closePartial
  split
  · split
    · exact (addBand_keeps _ _).2.2.1
    · rfl
  · rfl
  · rfl

/-- The anchor assessment of an observed boom as MARK_END closes its profile (R83, R183). -/
def Boom.observedAnchor (x : Boom) (ps : Params) (p : Plan) : Anchor :=
  (x.profile.closePartial (strataFigures ps p.recipe)).1.assess ps p.recipe.encapsulation

/-- The reply's figures of a MARK_END (R183). -/
theorem markEnd_figures {x : Boom} {a : Anchor} (anchor : x.profile.anchor = some a) (n : Nat) :
    x.profile.anchorBytes ++ le2 n = a.bytes ++ le2 n := by
  unfold Profile.anchorBytes; rw [anchor]

theorem reqMarkEnd_observing {s : State} {boom : Byte} {b : Slot} {p : Plan} (named : s.slotOf boom = some b)
    (mode : s.mode = .observe) (level : (s.boom b).level = 0) (auto : (s.boom b).auto = .observing p) :
    reqMarkEnd boom s =
      (s.endObserved b p,
        { status := .ok, figures := ((s.endObserved b p).boom b).profile.anchorBytes ++ le2 s.offeredSeq }) := by
  unfold reqMarkEnd
  rw [named]
  dsimp only
  rw [if_neg (fun other => other mode), level, auto]
  rfl

theorem reqMarkEnd_elsewhere {s : State} {boom : Byte} {b : Slot} (named : s.slotOf boom = some b)
    (mode : s.mode = .observe) (auto : ∀ p, (s.boom b).auto ≠ .observing p) : reqMarkEnd boom s = s.refuse .refusedState := by
  unfold reqMarkEnd
  rw [named]
  dsimp only
  rw [if_neg (fun other => other mode)]
  split
  · next observing => exact absurd observing (auto _)
  · rfl

/-- An observed hole's end: its closed boom's record offered, and no flow moved (R172, R183). -/
structure State.Observed (s t : State) (b : Slot) (x : Boom) (r : BoltRecord) : Prop where
  boom : ∃ auto, t.boom b = { x with auto := auto }
  booms : ∀ c, c ≠ b → t.boom c = s.boom c
  arbiter : t.arbiter = s.arbiter
  logged : s.log.length < 48 →
    t.log = s.log ++ [{ r with seq := s.nextSeq }] ∧ t.nextSeq = (if s.nextSeq = 65535 then 1 else s.nextSeq + 1) ∧
    (t.boom b).auto = .idle ∧ t.writers = s.writers ∧ t.link.recordReady = true
  waits : 48 ≤ s.log.length →
    t.log = s.log ∧ t.nextSeq = s.nextSeq ∧ (t.boom b).auto = .logWait r ∧ t.writers = s.writers ++ [b]
  store : State.SameStore s t
  queues : t.queues = s.queues

theorem endObserved_ends (s : State) (b : Slot) (p : Plan) :
    s.Observed (s.endObserved b p) b ((s.boom b).closeObserved s.params p)
      (((s.boom b).closeObserved s.params p).observedRecord b p s.clock) := by
  unfold State.endObserved
  dsimp only
  rw [State.setBoom_boom]
  generalize (s.boom b).closeObserved s.params p = x
  generalize hr : x.observedRecord b p (s.setBoom b x).clock = r
  rw [show x.observedRecord b p s.clock = r from hr]
  rcases Nat.lt_or_ge s.log.length 48 with room | full
  · obtain ⟨q, eq⟩ := offerRecord_logged (s := s.setBoom b x) room b r
    rw [State.setBoom_boom] at eq
    rw [eq]
    exact
      { boom := ⟨.idle, four_get_set_self _ _ _⟩
        booms := fun c ne => (four_get_set_of_ne _ _ ne).trans (four_get_set_of_ne _ _ ne)
        arbiter := rfl
        logged := fun _ => ⟨rfl, rfl, congrArg Boom.auto (four_get_set_self _ _ _), rfl, rfl⟩
        waits := fun full => absurd room (Nat.not_lt.2 full)
        store := ⟨rfl, rfl, rfl, rfl, rfl, rfl, rfl, rfl, rfl, rfl⟩
        queues := rfl }
  · obtain ⟨q, eq⟩ := offerRecord_held (s := s.setBoom b x) full b r
    rw [State.setBoom_boom] at eq
    rw [eq]
    exact
      { boom := ⟨.logWait r, four_get_set_self _ _ _⟩
        booms := fun c ne => (four_get_set_of_ne _ _ ne).trans (four_get_set_of_ne _ _ ne)
        arbiter := rfl
        logged := fun room => absurd room (Nat.not_lt.2 full)
        waits := fun _ => ⟨rfl, rfl, congrArg Boom.auto (four_get_set_self _ _ _), rfl⟩
        store := ⟨rfl, rfl, rfl, rfl, rfl, rfl, rfl, rfl, rfl, rfl⟩
        queues := rfl }

/-- An OBSERVING sample's update, field by field (R66, R81, R128, R182). -/
theorem observeSample_fields (x : Boom) (ps : Params) (p : Plan) :
    (x.observeSample ps p).accrued = (if x.newlyOut then CondSet.put x.accrued .sensorRange else x.accrued) ∧
      (x.observeSample ps p).wasEligible = decide (0 < x.inForce.speed.getD 0) ∧
      (x.observeSample ps p).profile =
        (if 0 < x.inForce.speed.getD 0 then
          ((if x.wasEligible then x.profile else x.profile.gapTest x.depth).sample (strataFigures ps p.recipe) x.depth x.inForce).1
        else x.profile) ∧
      (x.observeSample ps p).seen = x.markSeen.seen ∧ (x.observeSample ps p).auto = x.auto ∧
      (x.observeSample ps p).current = x.current ∧ (x.observeSample ps p).posted = x.posted ∧
      (x.observeSample ps p).feed = x.feed ∧ (x.observeSample ps p).rotation = x.rotation ∧
      (x.observeSample ps p).chuck = x.chuck ∧ Boom.SameReadings x (x.observeSample ps p) := by
  have accrued : CondSet.putAll x.accrued x.rangeConds =
      if x.newlyOut then CondSet.put x.accrued .sensorRange else x.accrued := by
    unfold Boom.rangeConds; split <;> rfl
  unfold Boom.observeSample
  dsimp only
  rw [accrued]
  by_cases turns : 0 < x.inForce.speed.getD 0
  · have turning : x.turning = true := decide_eq_true turns
    rw [if_pos turns, turning, if_pos rfl, decide_eq_true turns]
    exact ⟨rfl, rfl, rfl, rfl, rfl, rfl, rfl, rfl, rfl, rfl, ⟨rfl, rfl, rfl, rfl, rfl⟩⟩
  · have resting : x.turning = false := decide_eq_false turns
    rw [if_neg turns, resting, if_neg (by decide), decide_eq_false turns]
    exact ⟨rfl, rfl, rfl, rfl, rfl, rfl, rfl, rfl, rfl, rfl, ⟨rfl, rfl, rfl, rfl, rfl⟩⟩

/-- An accepted MARK_END: the closed boom's record is logged or held, and the reply carries the anchor and its number (R183). -/
theorem markEnd_ends {s : State} {tag boom : Byte} {b : Slot} {p : Plan} (ready : s.ready) (named : s.slotOf boom = some b)
    (mode : s.mode = .observe) (requested : s.requested = none) (level : (s.boom b).level = 0)
    (auto : (s.boom b).auto = .observing p) :
    ∃ u, s.Observed u b ((s.boom b).closeObserved s.params p)
        (((s.boom b).closeObserved s.params p).observedRecord b p s.clock) ∧
      exec (.markEnd tag boom) s =
        .next (u.noted.answered 0x9E tag
          (le1 0 ++ (((s.boom b).observedAnchor s.params p).bytes ++ le2 (if s.log.length < 48 then s.nextSeq else 0)))) := by
  obtain ⟨l, same⟩ : ∃ l, s.heard = s.withLink l := heard_link s
  have ended := endObserved_ends (s.withLink l) b p
  have decided := reqMarkEnd_observing (s := s.withLink l) (boom := boom) named mode level auto
  generalize (s.withLink l).endObserved b p = u at ended decided
  obtain ⟨⟨context, boom_eq⟩, booms, arbiter, logged, waits, store, queues⟩ := ended
  have anchor : (u.boom b).profile.anchor = some ((s.boom b).observedAnchor s.params p) := by rw [boom_eq]; rfl
  rw [markEnd_figures anchor, ← same] at decided
  have store : State.SameStore s u := by
    rw [same.symm] at store; exact (heard_sameStore s).trans store
  refine ⟨u, ⟨⟨context, boom_eq⟩, booms, arbiter, logged, waits, store, queues⟩, ?_⟩
  have executed := request_answered (r := .markEnd boom) (kind := 0x9E) (c := .markEnd tag boom) (tag := tag) ready decided
    (Or.inl (store.requested.trans requested))
  rw [executed, same]
  rfl

/-- Settles O54: a MARK_END's checks fail one by one, its record is the closed boom's, and an observed sample is one update of its
boom. -/
theorem markEndLogsTheHole : Obligations.MarkEndLogsTheHole := by
  refine ⟨fun s tag boom ready settled unfitted => request_refused (r := .markEnd boom) ready settled
      (by simp only [handleRequest, reqMarkEnd, heard_slotOf, unfitted]),
    fun s tag boom b ready named => ⟨fun settled mode => request_refused (r := .markEnd boom) ready settled
      (by simp only [handleRequest, reqMarkEnd, heard_slotOf, named, heard_mode, if_pos mode]),
      fun settled mode elsewhere => request_refused (r := .markEnd boom) ready settled
        (reqMarkEnd_elsewhere (by rw [heard_slotOf, named]) (by rw [heard_mode, mode]) (by rw [heard_boom]; exact elsewhere)),
      fun p mode requested level auto opened => ?_⟩,
    fun s b p level auto => ?_⟩
  · obtain ⟨u, ⟨⟨context, boom_eq⟩, booms, arbiter, logged, waits, store, queues⟩, executed⟩ :=
      markEnd_ends (tag := tag) ready named mode requested level auto
    obtain ⟨closed, shut⟩ := closePartial_closed (strataFigures s.params p.recipe) opened
    have frontier := closePartial_frontier (strataFigures s.params p.recipe) (s.boom b).profile
    have profile : (u.boom b).profile = ((s.boom b).closeObserved s.params p).profile := by rw [boom_eq]
    have readings : Boom.SameReadings (s.boom b) (u.boom b) := by rw [boom_eq]; exact ⟨rfl, rfl, rfl, rfl, rfl⟩
    have arbiter' : (u.noted.answered 0x9E tag
        (le1 0 ++ (((s.boom b).observedAnchor s.params p).bytes ++ le2 (if s.log.length < 48 then s.nextSeq else 0)))).arbiter =
          s.arbiter := by rw [answered_arbiter, noted_arbiter, arbiter]
    refine ⟨_, ((s.boom b).closeObserved s.params p).observedRecord b p s.clock, (s.boom b).observedAnchor s.params p, executed,
      ?_, ?_, ?_, rfl, rfl, rfl, rfl, rfl, rfl, rfl, rfl, rfl, rfl, rfl, frontier, ?_, ?_, rfl, rfl, rfl, rfl, rfl,
      answered_sameReadings _ _ _ readings, answered_sameStore _ _ _ store, by rw [answered_queues, noted_queues, queues], arbiter',
      answered_sameOthers _ _ _ store booms (fun c _ => by unfold State.grant; rw [arbiter]) (by rw [arbiter]), ?_⟩
    · rw [answered_boom, noted_boom, Boom.remember_profile, profile]; exact closed
    · rw [answered_boom, noted_boom, Boom.remember_profile, profile]; exact shut
    · rw [answered_boom, noted_boom, Boom.remember_profile, profile]; rfl
    · rw [answered_boom, noted_boom, Boom.remember_profile, profile]; rfl
    · rw [answered_boom, noted_boom, Boom.remember_profile, profile]; rfl
    · rw [answered_log, noted_log, answered_nextSeq, noted_nextSeq, answered_boom, noted_boom, Boom.remember_auto,
        answered_writers, noted_writers, answered_recordReady, noted_link]
      by_cases room : s.log.length < 48
      · obtain ⟨log, seq, idle, writers, told⟩ := logged room
        rw [if_pos room, if_pos room]
        exact ⟨log, seq, idle, writers, told, answered_replies _ _ _ _⟩
      · obtain ⟨log, seq, held, writers⟩ := waits (Nat.not_lt.1 room)
        rw [if_neg room, if_neg room]
        exact ⟨log, seq, held, writers, answered_replies _ _ _ _⟩
  · obtain ⟨accrued, eligible, profile, seen, auto', current, posted, feed, rotation, chuck, readings⟩ :=
      observeSample_fields (s.boom b) s.params p
    exact ⟨_, contextSample_observing level auto, auto'.trans auto, current, posted, accrued, seen, eligible, profile, feed,
      rotation, chuck, readings⟩

end Sys2Proof.Machine
end

section
/-! SUPPORT. The push of an intervention, and the requests that start one, while nobody else waits for flow (R153 to R155, R159,
R161, R162). -/

namespace Sys2Proof.Machine

theorem written_setBoom (s : State) (b : Slot) (x y : Boom) (a : Arbiter) (q : Four Bool) :
    (s.written b x a q).setBoom b y = s.written b y a q := by
  unfold State.written State.setBoom
  simp only [four_set_set]

/-! ## The push -/

/-- A push with nobody else waiting: the boom's entry goes and its active context is set aside (R153). -/
theorem pushBoom_alone {s : State} {b : Slot} (alone : s.waitsAlone b) :
    s.pushBoom b = s.written b (s.boom b).pushed s.arbiter.unwaited s.link.boomStatus := by
  unfold State.pushBoom
  rw [withdrawBoom_alone alone]
  rfl

theorem pushed_readings (x : Boom) : Boom.SameReadings x x.pushed := by
  unfold Boom.pushed; split <;> exact ⟨rfl, rfl, rfl, rfl, rfl⟩

/-- The push of a boom at level 0 (R153). -/
theorem pushed_idle {x : Boom} (manual : x.manual = none) :
    x.pushed = { x.still.cancelLoader with awayDepth := x.depth, auto := x.auto.setAside } := by
  unfold Boom.pushed; rw [manual]

/-! ## The flow of a takeover -/

/-- The boom of a takeover in a sub-state, its outputs at rest and its hold timer stopped (R155). -/
def Boom.inManual (x : Boom) (m : ManualCtx) (sub : ManualSub) : Boom :=
  { x.still with manual := some { m with sub := sub, hold := none } }

theorem tell_manual_ready {s : State} {b : Slot} {m : ManualCtx} (retract : (s.boom b).retract = none)
    (manual : (s.boom b).manual = some m) (inReserve : Bool) :
    s.tell inReserve (.boom b) = s.changeBoom b { s.boom b with manual := some { m with sub := .ready } } := by
  unfold State.tell
  simp only [retract, manual]

/-- A takeover whose demand is covered is READY with it (R155). -/
theorem manualRequest_ready {s : State} {b : Slot} {m : ManualCtx} (retract : (s.boom b).retract = none) (quiet : s.flowQuiet)
    (covered : s.covers b s.manualFlow) :
    ∃ a q, s.manualRequest b m = s.written b ((s.boom b).inManual m .ready) a q ∧ s.arbiter.Holds a b s.manualFlow := by
  unfold State.manualRequest
  split
  next held =>
    obtain ⟨q, eq⟩ := changeBoom_written (s.reduceBoom b s.manualFlow) b
      (((s.reduceBoom b s.manualFlow).boom b).inManual m .ready)
    have holds := reduceBoom_holds (waitsAlone_of_quiet quiet b) s.manualFlow
    rw [Nat.min_eq_left held] at holds
    refine ⟨(s.reduceBoom b s.manualFlow).arbiter, q, ?_, holds⟩
    exact (congrArg State.evaluate eq).trans (evaluate_nil holds.nobody)
  next short =>
    have fit := covered.resolve_left short
    obtain ⟨q, eq⟩ := changeBoom_written s b ((s.boom b).inManual m .waitFlow)
    obtain ⟨p, moved⟩ := changeBoom_written
      (s.written b ((s.boom b).inManual m .waitFlow) (s.arbiter.grantedTo b s.manualFlow) q) b ((s.boom b).inManual m .ready)
    have told := tell_manual_ready
      (s := s.written b ((s.boom b).inManual m .waitFlow) (s.arbiter.grantedTo b s.manualFlow) q) (b := b)
      (m := { m with sub := .waitFlow, hold := none }) (by rw [written_boom]; exact retract) (by rw [written_boom]; rfl) false
    rw [written_boom] at told
    rw [written_written, written_arbiter] at moved
    refine ⟨_, p, (congrArg (fun t => (State.topUpBoom t b .normal s.manualFlow).evaluate) eq).trans ?_, grantedTo_holds _ _ _⟩
    exact topUpBoom_granted quiet fit (told.trans moved) rfl

/-- A takeover whose demand is not covered waits for it at rest (R155). -/
theorem manualRequest_waits {s : State} {b : Slot} {m : ManualCtx} (quiet : s.flowQuiet) (short : ¬ s.covers b s.manualFlow) :
    ∃ q, s.manualRequest b m = s.written b ((s.boom b).inManual m .waitFlow)
      { s.arbiter with waitList := [newEntry s.clock (.boom b) .normal s.manualFlow] } q := by
  unfold State.manualRequest
  rw [if_neg (fun held => short (Or.inl held))]
  obtain ⟨q, eq⟩ := changeBoom_written s b ((s.boom b).inManual m .waitFlow)
  refine ⟨q, (congrArg (fun t => (State.topUpBoom t b .normal s.manualFlow).evaluate) eq).trans ?_⟩
  rw [topUpBoom_quiet (by exact quiet), State.evaluate, State.evaluationFuel]
  exact evaluateWith_stays rfl (by exact fun fit => short (Or.inr fit))
    (by show FlowClass.normal ≠ .urgent; decide)

/-! ## TAKEOVER -/

/-- The boom of a takeover over its level-0 context, counted there when a hole is open (R153, R154). -/
def Boom.takenOver (x : Boom) : Boom :=
  { x.pushed with auto := x.pushed.auto.countTakeover }

theorem takeoverBoom_alone {s : State} {b : Slot} (alone : s.waitsAlone b) :
    s.takeoverBoom b =
      (s.written b (s.boom b).takenOver s.arbiter.unwaited s.link.boomStatus).manualRequest b
        { sub := .waitFlow, hold := none, away := 0 } := by
  unfold State.takeoverBoom
  rw [pushBoom_alone alone]
  dsimp only
  rw [written_boom, written_setBoom]
  rfl

theorem takenOver_eq {x : Boom} (manual : x.manual = none) :
    x.takenOver = { x.still.cancelLoader with awayDepth := x.depth, auto := x.auto.setAside.countTakeover } := by
  unfold Boom.takenOver; rw [pushed_idle manual]

/-- An accepted TAKEOVER of a boom at level 0 whose demand is covered: MANUAL, READY (R154, R155). -/
theorem takeoverBoom_ready {s : State} {b : Slot} (level : (s.boom b).level = 0) (alone : s.waitsAlone b)
    (covered : s.covers b s.manualFlow) :
    ∃ a q m, s.takeoverBoom b = s.written b ((s.boom b).takenOver.inManual m .ready) a q ∧
      s.arbiter.Holds a b s.manualFlow := by
  obtain ⟨retract, manual⟩ := level_zero level
  rw [takeoverBoom_alone alone]
  generalize hv : s.written b (s.boom b).takenOver s.arbiter.unwaited s.link.boomStatus = v
  have boom : v.boom b = (s.boom b).takenOver := by rw [← hv, written_boom]
  obtain ⟨a, q, eq, holds⟩ := manualRequest_ready (s := v) (b := b) (m := { sub := .waitFlow, hold := none, away := 0 })
    (by rw [boom, takenOver_eq manual]; exact retract) (by rw [← hv]; rfl) (by rw [← hv]; exact covered)
  rw [boom, ← hv, written_written] at eq
  rw [← hv] at holds
  exact ⟨a, q, _, hv ▸ eq, unwaited_holds holds⟩

theorem reqTakeover_accepted {s : State} {boom : Byte} {b : Slot} (named : s.slotOf boom = some b) (mode : s.mode = .run)
    (level : (s.boom b).level = 0) : reqTakeover boom s = (s.takeoverBoom b).done := by
  unfold reqTakeover
  rw [named]
  dsimp only
  rw [if_neg (fun other => other mode), level, if_neg (by decide), if_neg (by decide)]

/-- An accepted TAKEOVER, answered. -/
theorem takeover_ready {s : State} {tag boom : Byte} {b : Slot} (ready : s.ready) (named : s.slotOf boom = some b)
    (mode : s.mode = .run) (level : (s.boom b).level = 0) (alone : s.waitsAlone b) (covered : s.covers b s.manualFlow) :
    ∃ u m, exec (.takeover tag boom) s = .next (u.noted.answered 0x93 tag (le1 0)) ∧ s.OnlyBoom u b ∧
      u.boom b = (s.boom b).takenOver.inManual m .ready ∧ u.grant b = s.manualFlow := by
  obtain ⟨l, same⟩ : ∃ l, s.heard = s.withLink l := heard_link s
  obtain ⟨a, q, m, eq, holds⟩ := takeoverBoom_ready (s := s.withLink l) (b := b) level alone covered
  have decided := reqTakeover_accepted (s := s.withLink l) (boom := boom) named mode level
  rw [eq, ← same, heard_boom] at decided
  have manual := (level_zero level).2
  have readings : Boom.SameReadings (s.boom b) ((s.boom b).takenOver.inManual m .ready) := by
    rw [takenOver_eq manual]; exact ⟨rfl, rfl, rfl, rfl, rfl⟩
  have only : s.OnlyBoom (s.heard.written b ((s.boom b).takenOver.inManual m .ready) a q) b := by
    refine State.OnlyBoom.of_heard (written_onlyBoom (n := s.manualFlow) ?_ (by rwa [heard_boom]) q)
    rw [heard_arbiter]; exact holds
  have its : (s.heard.written b ((s.boom b).takenOver.inManual m .ready) a q).boom b =
      (s.boom b).takenOver.inManual m .ready := written_boom _ _ _ _ _
  have settled : (s.heard.written b ((s.boom b).takenOver.inManual m .ready) a q).settled := by
    refine settled_of_level (b := b) (by unfold State.fits; rw [only.store.params]; exact fits_of_slotOf named) ?_
    rw [its, level_of_manual (m := { m with sub := .ready, hold := none }) ?_ rfl]
    · decide
    · rw [takenOver_eq manual]; exact (level_zero level).1
  exact ⟨_, m, request_plain (r := .takeover boom) ready decided settled, only, its, holds.given⟩

/-- The fields of the boom a takeover leaves (R153 to R155). -/
theorem takenOver_fields {x : Boom} (level : x.level = 0) (m : ManualCtx) :
    ((x.takenOver.inManual m .ready).auto = x.auto.setAside.countTakeover ∧ (x.takenOver.inManual m .ready).level = 1 ∧
      (x.takenOver.inManual m .ready).chuck = x.chuck ∧ (x.takenOver.inManual m .ready).awayDepth = x.depth ∧
      (x.takenOver.inManual m .ready).handshake = .none) ∧
    ((x.takenOver.inManual m .ready).profile = x.profile ∧ (x.takenOver.inManual m .ready).current = x.current ∧
      (x.takenOver.inManual m .ready).posted = x.posted ∧ (x.takenOver.inManual m .ready).accrued = x.accrued) := by
  obtain ⟨retract, manual⟩ := level_zero level
  rw [takenOver_eq manual]
  refine ⟨⟨rfl, ?_, rfl, rfl, rfl⟩, rfl, rfl, rfl, rfl⟩
  exact level_of_manual (m := { m with sub := .ready, hold := none }) retract rfl

/-- Settles O43: the checks fail one by one, and an accepted takeover sets the level-0 context aside and is READY. -/
theorem takeoverSetsWorkAside : Obligations.TakeoverSetsWorkAside := by
  refine ⟨fun s tag boom ready settled unfitted => request_refused (r := .takeover boom) ready settled
      (by simp only [handleRequest, reqTakeover, heard_slotOf, unfitted]),
    fun s tag boom b ready settled named => ⟨fun mode => ?_, fun mode one => ?_, fun mode two => ?_,
      fun mode level alone covered => ?_⟩,
    fun s tag boom b ready requested named mode level alone covered => ?_⟩
  · exact request_refused (r := .takeover boom) ready settled
      (by simp only [handleRequest, reqTakeover, heard_slotOf, named, heard_mode, if_pos mode])
  · exact request_refused (r := .takeover boom) ready settled
      (by simp only [handleRequest, reqTakeover, heard_slotOf, named, heard_mode, heard_boom, mode, one]; rfl)
  · exact request_refused (r := .takeover boom) ready settled
      (by simp only [handleRequest, reqTakeover, heard_slotOf, named, heard_mode, heard_boom, mode, two]; rfl)
  · obtain ⟨u, m, executed, only, its, granted⟩ := takeover_ready (tag := tag) ready named mode level alone covered
    obtain ⟨⟨auto, one, chuck, away, handshake⟩, profile, current, posted, accrued⟩ := takenOver_fields level m
    obtain ⟨readings, store, lists, others⟩ := only.answered 0x93 tag (le1 0)
    refine ⟨_, { m with sub := .ready, hold := none }, executed, answered_replies _ _ _ _, ?_⟩
    rw [answered_grant, noted_grant, granted]
    refine ⟨?_, ?_, rfl, rfl, ?_, ?_, ?_, ?_, ?_, rfl, fun sub h cycle => ?_, fun idle => ?_, ?_, ?_, ?_, ?_, readings, store,
      lists, others⟩
    all_goals rw [answered_boom, noted_boom, its]
    · rw [Boom.remember_level, one]
    · rw [Boom.remember_manual]; rfl
    · rw [Boom.remember_feed]; rfl
    · rw [Boom.remember_rotation]; rfl
    · rw [Boom.remember_chuck, chuck]
    · rw [Boom.remember_handshake, handshake]
    · rw [Boom.remember_awayDepth, away]
    · rw [Boom.remember_auto, auto, cycle]; rfl
    · rw [Boom.remember_auto, auto, idle]; rfl
    · rw [Boom.remember_profile, profile]
    · rw [Boom.remember_current, current]
    · rw [Boom.remember_posted, posted]
    · rw [Boom.remember_accrued, accrued]
  · obtain ⟨u, m, executed, only, its, granted⟩ := takeover_ready (tag := tag) ready named mode level alone covered
    obtain ⟨⟨auto, one, chuck, away, handshake⟩, -⟩ := takenOver_fields level m
    obtain ⟨-, store, lists, others⟩ := only.answered 0x93 tag (le1 0)
    refine ⟨_, executed, answered_replies _ _ _ _, ?_⟩
    rw [answered_grant, noted_grant, granted, answered_boom, noted_boom, its, Boom.remember_level, Boom.remember_auto, auto,
      Boom.remember_awayDepth]
    exact ⟨one, fun f h stands => by rw [stands]; rfl, fun sub h stands => by rw [stands]; rfl,
      fun r stands => by rw [stands]; rfl, away, rfl, store, lists, others⟩

end Sys2Proof.Machine
end

section
/-! SUPPORT. SAFE_RETRACT and the samples of a safety retract, while nobody else waits for flow (R153, R159, R161, R162). -/

namespace Sys2Proof.Machine

/-! ## A safety retract that may move -/

/-- The boom of a safety retract as it may move: ACTIVE with its timer from zero, or held for want of drive-enable (R161). -/
def Boom.retractMoved (x : Boom) (drive : Bool) (feed : Int) (r : RetractCtx) : Boom :=
  { x with
    retract := some (if drive then { r with sub := .active, ticks := 0 } else { r with sub := .driveHeld })
    feed := if drive then feed else 0
    rotation := 0 }

/-- The boom of a safety retract at rest in RETRACTED (R161). -/
def Boom.retractDone (x : Boom) (r : RetractCtx) : Boom := { x.still with retract := some { r with sub := .retracted } }

theorem moveRetract_eq (s : State) (b : Slot) (r : RetractCtx) :
    s.moveRetract b r = s.changeBoom b ((s.boom b).retractMoved s.driveOn (-(s.params.retractFeed : Int)) r) := by
  unfold State.moveRetract Boom.retractMoved
  dsimp only
  cases s.driveOn <;> rfl

theorem tell_waiting_retract {s : State} {b : Slot} {r : RetractCtx} (retract : (s.boom b).retract = some r)
    (waits : r.sub = .waitFlow) (inReserve : Bool) : s.tell inReserve (.boom b) = s.moveRetract b r := by
  unfold State.tell
  simp only [retract, waits]

/-- A safety retract at home gives its flow back and rests (R161). -/
theorem retractHome_rests {s : State} {b : Slot} (quiet : s.flowQuiet) (r : RetractCtx) :
    ∃ a q, s.retractHome b r = s.written b ((s.boom b).retractDone r) a q ∧ s.arbiter.Holds a b 0 := by
  unfold State.retractHome
  obtain ⟨q, eq⟩ := changeBoom_written (s.reduceBoom b 0) b (((s.reduceBoom b 0).boom b).retractDone r)
  have holds := reduceBoom_holds (waitsAlone_of_quiet quiet b) 0
  rw [Nat.zero_min] at holds
  exact ⟨_, q, (congrArg State.evaluate eq).trans (evaluate_nil holds.nobody), holds⟩

/-- A safety retract away from home whose flow is covered moves, or is held (R161). -/
theorem retractGo_moves {s : State} {b : Slot} {r : RetractCtx} (retract : (s.boom b).retract = some r)
    (waits : r.sub = .waitFlow) (quiet : s.flowQuiet) (away : 10 * s.params.homeTolerance < s.depth b)
    (covered : s.covers b s.retractFlow) :
    ∃ a q, s.retractGo b r = s.written b ((s.boom b).retractMoved s.driveOn (-(s.params.retractFeed : Int)) r) a q ∧
      s.arbiter.Holds a b s.retractFlow := by
  unfold State.retractGo
  have out : ¬ s.atHome b = true := by simpa [State.atHome] using away
  rw [if_neg out]
  split
  next held =>
    rw [moveRetract_eq]
    obtain ⟨q, eq⟩ := changeBoom_written (s.reduceBoom b s.retractFlow) b
      (((s.reduceBoom b s.retractFlow).boom b).retractMoved s.driveOn (-(s.params.retractFeed : Int)) r)
    have holds := reduceBoom_holds (waitsAlone_of_quiet quiet b) s.retractFlow
    rw [Nat.min_eq_left held] at holds
    exact ⟨_, q, (congrArg State.evaluate eq).trans (evaluate_nil holds.nobody), holds⟩
  next short =>
    have fit := covered.resolve_left short
    have told := tell_waiting_retract (s := ({ s with arbiter := s.arbiter.grantedTo b s.retractFlow } : State)) retract waits false
    rw [moveRetract_eq] at told
    obtain ⟨p, moved⟩ := changeBoom_written ({ s with arbiter := s.arbiter.grantedTo b s.retractFlow } : State) b
      ((s.boom b).retractMoved s.driveOn (-(s.params.retractFeed : Int)) r)
    exact ⟨_, p, topUpBoom_granted quiet fit (told.trans moved) rfl, grantedTo_holds _ _ _⟩

/-- A safety retract at home, as it starts (R161). -/
theorem retractGo_rests {s : State} {b : Slot} (quiet : s.flowQuiet) (home : s.depth b ≤ 10 * s.params.homeTolerance)
    (r : RetractCtx) :
    ∃ a q, s.retractGo b r = s.written b ((s.boom b).retractDone r) a q ∧ s.arbiter.Holds a b 0 := by
  unfold State.retractGo
  have within : s.atHome b = true := decide_eq_true home
  rw [if_pos within]
  exact retractHome_rests quiet r

/-! ## SAFE_RETRACT -/

/-- The boom a safety retract is pushed on: its context set aside and counted there when a hole is open, its chuck opened
(R153, R161, R164). -/
def Boom.retractPushed (x : Boom) : Boom :=
  { x.pushed.openChuck with auto := x.pushed.openChuck.auto.countRetract, retract := some RetractCtx.fresh }

theorem startRetract_alone {s : State} {b : Slot} (alone : s.waitsAlone b) :
    ∃ q, s.startRetract b = (s.written b (s.boom b).retractPushed s.arbiter.unwaited q).retractGo b RetractCtx.fresh := by
  unfold State.startRetract
  dsimp only
  rw [pushBoom_alone alone, written_boom]
  obtain ⟨q, eq⟩ := changeBoom_written (s.written b (s.boom b).pushed s.arbiter.unwaited s.link.boomStatus) b
    (s.boom b).retractPushed
  rw [written_written, written_arbiter] at eq
  exact ⟨q, congrArg (fun t => State.retractGo t b RetractCtx.fresh) eq⟩

theorem retractPushed_readings (x : Boom) : Boom.SameReadings x x.retractPushed := by
  have same := pushed_readings x
  exact ⟨same.raw, same.lastGood, same.inForce, same.posLoss, same.enabled⟩

theorem retractPushed_fields (x : Boom) :
    x.retractPushed.depth = x.depth ∧ x.retractPushed.chuck = .opened ∧ x.retractPushed.handshake = .none := by
  unfold Boom.retractPushed Boom.pushed
  split <;> exact ⟨rfl, rfl, rfl⟩

/-- A cycle under a safety retract: counted there, and its bolt let go where one is held (R161, R164). -/
theorem retractPushed_cycle {x : Boom} {sub : CycleSub} {h : Hole} (auto : x.auto = .cycle sub h) :
    ∃ g, x.retractPushed.auto = .cycle sub g ∧ g.retracts = min (h.retracts + 1) 65535 ∧
      (5 ≤ h.phase.num → h.phase.num ≤ 9 → g.chuckReleased = true) := by
  obtain ⟨k, pushed, retracts, phase⟩ :
      ∃ k, x.pushed.auto = .cycle sub k ∧ k.retracts = h.retracts ∧ k.phase = h.phase := by
    unfold Boom.pushed
    split
    · exact ⟨h, auto, rfl, rfl⟩
    · exact ⟨{ h with torqueRun := [] }, by rw [auto]; rfl, rfl, rfl⟩
  have counted : x.retractPushed.auto = x.pushed.auto.releaseChuck.countRetract := rfl
  rw [counted, pushed]
  cases holds : k.phase.holdsBolt with
  | true =>
    have released : (Auto.cycle sub k).releaseChuck = .cycle sub { k with chuckReleased := true } := if_pos holds
    rw [released]
    exact ⟨_, rfl, by rw [← retracts]; rfl, fun _ _ => rfl⟩
  | false =>
    have kept : (Auto.cycle sub k).releaseChuck = .cycle sub k := if_neg (by rw [holds]; decide)
    rw [kept]
    refine ⟨_, rfl, by rw [← retracts]; rfl, fun low high => ?_⟩
    have := (holdsBolt_iff k.phase).2 (by rw [phase]; exact ⟨low, high⟩)
    exact absurd (holds.symm.trans this) (by decide)

/-- The boom a started safety retract leaves, by whether it is home (R161). -/
def State.retractStarted (s : State) (b : Slot) : Boom :=
  if s.depth b ≤ 10 * s.params.homeTolerance then (s.boom b).retractPushed.retractDone RetractCtx.fresh
  else (s.boom b).retractPushed.retractMoved s.driveOn (-(s.params.retractFeed : Int)) RetractCtx.fresh

/-- The grant a started safety retract leaves (R161). -/
def State.retractGranted (s : State) (b : Slot) : Nat :=
  if s.depth b ≤ 10 * s.params.homeTolerance then 0 else s.retractFlow

/-- A started safety retract, at home or with its flow covered (R161). -/
theorem startRetract_starts {s : State} {b : Slot} (alone : s.waitsAlone b)
    (goes : s.depth b ≤ 10 * s.params.homeTolerance ∨ s.covers b s.retractFlow) :
    ∃ a q, s.startRetract b = s.written b (s.retractStarted b) a q ∧ s.arbiter.Holds a b (s.retractGranted b) := by
  obtain ⟨q, started⟩ := startRetract_alone alone
  rw [started]
  generalize hv : s.written b (s.boom b).retractPushed s.arbiter.unwaited q = v
  have boom : v.boom b = (s.boom b).retractPushed := by rw [← hv, written_boom]
  have depth : v.depth b = s.depth b := (congrArg Boom.depth boom).trans (retractPushed_fields _).1
  have quiet : v.flowQuiet := by rw [← hv]; rfl
  unfold State.retractStarted State.retractGranted
  by_cases home : s.depth b ≤ 10 * s.params.homeTolerance
  · obtain ⟨a, p, eq, holds⟩ := retractGo_rests (s := v) (b := b) quiet (by rw [depth, ← hv]; exact home) RetractCtx.fresh
    rw [boom, ← hv, written_written] at eq
    rw [← hv] at holds
    rw [if_pos home, if_pos home]
    exact ⟨a, p, hv ▸ eq, unwaited_holds holds⟩
  · obtain ⟨a, p, eq, holds⟩ := retractGo_moves (s := v) (b := b) (r := RetractCtx.fresh) (by rw [boom]; rfl) rfl quiet
      (by rw [depth, ← hv]; exact Nat.not_le.1 home) (by rw [← hv]; exact goes.resolve_left home)
    rw [boom, ← hv, written_written] at eq
    rw [← hv] at holds
    rw [if_neg home, if_neg home]
    exact ⟨a, p, hv ▸ eq, unwaited_holds holds⟩

theorem reqSafeRetract_accepted {s : State} {boom : Byte} {b : Slot} (named : s.slotOf boom = some b) (mode : s.mode = .run)
    (level : (s.boom b).level ≠ 2) : reqSafeRetract boom s = (s.startRetract b).done := by
  unfold reqSafeRetract
  rw [named]
  dsimp only
  rw [if_neg (fun other => other mode), if_neg level]

/-- What a started safety retract has of its boom, wherever it is (R153, R161, R164). -/
theorem retractStarted_fields (s : State) (b : Slot) :
    (∃ r, (s.retractStarted b).retract = some r ∧ r.ticks = 0 ∧ r.overdue = false ∧
      (s.depth b ≤ 10 * s.params.homeTolerance → r.sub = .retracted ∧ (s.retractStarted b).feed = 0) ∧
      (¬ s.depth b ≤ 10 * s.params.homeTolerance →
        (s.drive = some true → r.sub = .active ∧ (s.retractStarted b).feed = -(s.params.retractFeed : Int)) ∧
        (s.drive ≠ some true → r.sub = .driveHeld ∧ (s.retractStarted b).feed = 0))) ∧
    (s.retractStarted b).chuck = .opened ∧ (s.retractStarted b).rotation = 0 ∧ (s.retractStarted b).handshake = .none ∧
    (s.retractStarted b).auto = (s.boom b).retractPushed.auto ∧ Boom.SameReadings (s.boom b) (s.retractStarted b) := by
  obtain ⟨-, chuck, handshake⟩ := retractPushed_fields (s.boom b)
  have same := retractPushed_readings (s.boom b)
  have readings : ∀ y, y = (s.boom b).retractPushed.retractDone RetractCtx.fresh ∨
      y = (s.boom b).retractPushed.retractMoved s.driveOn (-(s.params.retractFeed : Int)) RetractCtx.fresh →
      Boom.SameReadings (s.boom b) y := by
    rintro y (rfl | rfl) <;> exact ⟨same.raw, same.lastGood, same.inForce, same.posLoss, same.enabled⟩
  unfold State.retractStarted
  by_cases home : s.depth b ≤ 10 * s.params.homeTolerance
  · rw [if_pos home]
    exact ⟨⟨_, rfl, rfl, rfl, fun _ => ⟨rfl, rfl⟩, fun away => absurd home away⟩, chuck, rfl, handshake, rfl, readings _ (Or.inl rfl)⟩
  · rw [if_neg home]
    cases drive : s.driveOn with
    | true =>
      exact ⟨⟨_, rfl, rfl, rfl, fun near => absurd near home,
          fun _ => ⟨fun _ => ⟨rfl, rfl⟩, fun off => absurd ((driveOn_iff s).1 drive) off⟩⟩, chuck, rfl, handshake, rfl,
        drive ▸ readings _ (Or.inr rfl)⟩
    | false =>
      have off : s.drive ≠ some true := fun on => absurd (drive.symm.trans ((driveOn_iff s).2 on)) (by decide)
      exact ⟨⟨_, rfl, rfl, rfl, fun near => absurd near home,
          fun _ => ⟨fun on => absurd on off, fun _ => ⟨rfl, rfl⟩⟩⟩, chuck, rfl, handshake, rfl,
        drive ▸ readings _ (Or.inr rfl)⟩

/-- An accepted SAFE_RETRACT, answered. -/
theorem safeRetract_starts {s : State} {tag boom : Byte} {b : Slot} (ready : s.ready) (named : s.slotOf boom = some b)
    (mode : s.mode = .run) (level : (s.boom b).level ≠ 2) (alone : s.waitsAlone b)
    (goes : s.depth b ≤ 10 * s.params.homeTolerance ∨ s.covers b s.retractFlow) :
    ∃ u, exec (.safeRetract tag boom) s = .next (u.noted.answered 0x96 tag (le1 0)) ∧ s.OnlyBoom u b ∧
      u.boom b = s.retractStarted b ∧ u.grant b = s.retractGranted b := by
  obtain ⟨l, same⟩ : ∃ l, s.heard = s.withLink l := heard_link s
  obtain ⟨a, q, eq, holds⟩ := startRetract_starts (s := s.withLink l) (b := b) alone goes
  have decided := reqSafeRetract_accepted (s := s.withLink l) (boom := boom) named mode level
  rw [eq, ← same, show s.heard.retractStarted b = s.retractStarted b by rw [same]; rfl] at decided
  obtain ⟨⟨r, retract, -⟩, -, -, -, -, readings⟩ := retractStarted_fields s b
  have only : s.OnlyBoom (s.heard.written b (s.retractStarted b) a q) b := by
    refine State.OnlyBoom.of_heard (written_onlyBoom (n := s.retractGranted b) ?_ (by rwa [heard_boom]) q)
    rw [heard_arbiter]; exact holds
  have its : (s.heard.written b (s.retractStarted b) a q).boom b = s.retractStarted b := written_boom _ _ _ _ _
  have settled : (s.heard.written b (s.retractStarted b) a q).settled := by
    refine settled_of_level (b := b) (by unfold State.fits; rw [only.store.params]; exact fits_of_slotOf named) ?_
    rw [its, level_two retract]
    decide
  exact ⟨_, request_plain (r := .safeRetract boom) ready decided settled, only, its, holds.given⟩

/-- An ACTIVE sample of a safety retract with drive-enable present, its timer counted (R161, R162). -/
theorem retract_sample {s : State} {b : Slot} {r : RetractCtx} (retract : (s.boom b).retract = some r) (active : r.sub = .active)
    (drive : s.drive = some true) :
    ∃ q, s.contextSample b =
      if s.depth b ≤ 10 * s.params.homeTolerance then
        (s.written b { s.boom b with retract := some (r.timer s.params) } s.arbiter q).retractHome b (r.timer s.params)
      else s.written b { s.boom b with retract := some (r.timer s.params) } s.arbiter q := by
  rw [contextSample_retract retract]
  unfold State.retractSample
  rw [active]
  dsimp only
  rw [if_pos ((driveOn_iff s).2 drive)]
  have stays : ({ s.boom b with retract := some (r.timer s.params) } : Boom).depth = s.depth b := rfl
  generalize ({ s.boom b with retract := some (r.timer s.params) } : Boom) = x at stays
  obtain ⟨q, eq⟩ := noteOverdue_written s b x r.overdue
  have depth : (s.written b x s.arbiter q).depth b = s.depth b := by
    rw [← stays]; exact congrArg Boom.depth (written_boom s b x s.arbiter q)
  refine ⟨q, ?_⟩
  rw [eq]
  unfold State.atHome
  rw [depth]
  simp only [decide_eq_true_eq]
  rfl

/-- Settles O47: the checks fail one by one, an accepted retract starts at home or moves with its flow, and its samples count, rest
or are held. -/
theorem safeRetractPullsTheBoom : Obligations.SafeRetractPullsTheBoom := by
  refine ⟨fun s tag boom ready settled unfitted => request_refused (r := .safeRetract boom) ready settled
      (by simp only [handleRequest, reqSafeRetract, heard_slotOf, unfitted]),
    fun s tag boom b ready settled named => ⟨fun mode => ?_, fun mode two => ?_, fun mode level alone goes => ?_⟩,
    fun s b r retract active => ⟨fun drive away => ?_, fun drive home quiet => ?_, fun drive => ?_⟩⟩
  · exact request_refused (r := .safeRetract boom) ready settled
      (by simp only [handleRequest, reqSafeRetract, heard_slotOf, named, heard_mode, if_pos mode])
  · exact request_refused (r := .safeRetract boom) ready settled
      (by simp only [handleRequest, reqSafeRetract, heard_slotOf, named, heard_mode, heard_boom, mode, two]; rfl)
  · obtain ⟨u, executed, only, its, granted⟩ := safeRetract_starts (tag := tag) ready named mode level alone goes
    obtain ⟨⟨r, retract, ticks, overdue, home, away⟩, chuck, rotation, handshake, auto, -⟩ := retractStarted_fields s b
    obtain ⟨readings, store, lists, others⟩ := only.answered 0x96 tag (le1 0)
    refine ⟨_, r, executed, answered_replies _ _ _ _, ?_⟩
    rw [answered_grant, noted_grant, granted]
    refine ⟨?_, ?_, ?_, ?_, ?_, ticks, overdue, fun sub h cycle => ?_, ?_, readings, store, lists, others⟩
    all_goals rw [answered_boom, noted_boom, its]
    · rw [Boom.remember_level, level_two retract]
    · rw [Boom.remember_retract, retract]
    · rw [Boom.remember_chuck, chuck]
    · rw [Boom.remember_rotation, rotation]
    · rw [Boom.remember_handshake, handshake]
    · rw [Boom.remember_auto, auto]; exact retractPushed_cycle cycle
    · rw [Boom.remember_feed]
      unfold State.retractGranted
      by_cases near : s.depth b ≤ 10 * s.params.homeTolerance
      · rw [if_pos near, if_pos near]; exact ⟨(home near).1, rfl, (home near).2⟩
      · rw [if_neg near, if_neg near]; exact ⟨rfl, away near⟩
  · obtain ⟨q, sample⟩ := retract_sample retract active drive
    rw [if_neg (Nat.not_le.2 away)] at sample
    generalize hx : ({ s.boom b with retract := some (r.timer s.params) } : Boom) = x at sample
    have readings : Boom.SameReadings (s.boom b) x := by rw [← hx]; exact ⟨rfl, rfl, rfl, rfl, rfl⟩
    rw [sample, written_boom]
    exact ⟨by rw [← hx]; rfl, by rw [← hx], rfl, written_unmoved readings q⟩
  · obtain ⟨q, sample⟩ := retract_sample retract active drive
    rw [if_pos home] at sample
    generalize hx : ({ s.boom b with retract := some (r.timer s.params) } : Boom) = x at sample
    obtain ⟨a, p, rests, holds⟩ := retractHome_rests (s := s.written b x s.arbiter q) (b := b) quiet (r.timer s.params)
    rw [written_boom, written_written] at rests
    have holds : s.arbiter.Holds a b 0 := holds
    have readings : Boom.SameReadings (s.boom b) (x.retractDone (r.timer s.params)) := by
      rw [← hx]; exact ⟨rfl, rfl, rfl, rfl, rfl⟩
    rw [sample, rests, written_boom]
    exact ⟨⟨_, rfl, rfl⟩, rfl, rfl, by rw [← hx]; rfl, holds.given, written_onlyBoom holds readings p⟩
  · have held : s.contextSample b = s.changeBoom b ((s.boom b).retractHeld r) := by
      rw [contextSample_retract retract]
      unfold State.retractSample
      rw [active]
      exact (if_neg (by rw [driveOn_false drive]; decide)).trans (moveRetract_held drive b r)
    rw [held, changeBoom_boom]
    exact ⟨rfl, rfl, changeBoom_grant _ _ _ _, changeBoom_onlyBoom ⟨rfl, rfl, rfl, rfl, rfl⟩⟩

end Sys2Proof.Machine
end

section
/-! SUPPORT. The re-entry check of a pop, and RE_ENGAGE (R32, R165, R166). -/

namespace Sys2Proof.Machine

/-! ## An exception of a boom in any slot that alone may wait -/

theorem stopInPhase_lone {s : State} {b : Slot} {y : Boom} (alone : s.waitsAlone b) (readings : Boom.SameReadings (s.boom b) y)
    (h : Hole) (c : Cond) (n : Nat) :
    s.OnlyBoom (((s.setBoom b y).stopInPhase b h c n).evaluate) b ∧
      (((s.setBoom b y).stopInPhase b h c n).evaluate).boom b =
        y.halted ((s.setBoom b y).makeFrame b h .inPhase c n h.phase h.phase) h.stopped ∧
      (((s.setBoom b y).stopInPhase b h c n).evaluate).grant b = s.grantStopped b h.phase := by
  have arbiter : ((s.setBoom b y).stopInPhase b h c n).arbiter = (s.reduceBoom b (s.stopTarget h.phase)).arbiter :=
    stopBoom_arbiter _ _ _ _ _ _ _ _
  have none : ((s.setBoom b y).stopInPhase b h c n).flowQuiet := by
    show Arbiter.waitList _ = []
    rw [arbiter]
    exact reduceBoom_alone alone _
  rw [evaluate_nil none]
  have books := (State.SameBooks.stopInPhase (s.setBoom b y) b h c n).after (State.SameBooks.setBoom s b y)
  have own : ((s.setBoom b y).stopInPhase b h c n).boom b =
      y.halted ((s.setBoom b y).makeFrame b h .inPhase c n h.phase h.phase) h.stopped := by
    unfold State.stopInPhase
    rw [stopBoom_boom, State.setBoom_boom]
    rfl
  have others : ∀ k, k ≠ b → Untouched k s ((s.setBoom b y).stopInPhase b h c n) := fun k other =>
    (stopBoom_untouched other _ _ _ _ _ _).after (setBoom_untouched y other)
  refine ⟨⟨books.store, books.lists, fun k other => (others k other).boom, fun k other => (others k other).grant, ?_, ?_⟩, own, ?_⟩
  · rw [arbiter, reduceBoom_arbiter alone]
  · rw [own]
    exact ⟨readings.raw, readings.lastGood, readings.inForce, readings.posLoss, readings.enabled⟩
  · unfold State.grant
    rw [arbiter]
    exact (reduceBoom_grant s b _).trans (stopTarget_min s b h.phase)

/-! ## The re-entry check -/

/-- A popped hole: the moved distance added, the moved flag set past the tolerance (R165, R166). -/
def Hole.popped (h : Hole) (ps : Params) (d : Nat) : Hole := (h.addMoved d).noteMoved (ps.movedFar d)

/-- The boom as its popped cycle is active again, its gap test made (R81, R166). -/
def Boom.cyclePopped (x : Boom) (ps : Params) (sub : CycleSub) (h : Hole) (d : Nat) : Boom :=
  { x.gapTested h.phase with auto := .cycle sub (h.popped ps d) }

theorem gapTested_keeps (x : Boom) (p : Phase) :
    x.gapTested p = { x with profile := (x.gapTested p).profile } := by
  unfold Boom.gapTested; split <;> rfl

theorem cyclePopped_readings (x : Boom) (ps : Params) (sub : CycleSub) (h : Hole) (d : Nat) :
    Boom.SameReadings x (x.cyclePopped ps sub h d) := by
  unfold Boom.cyclePopped; rw [gapTested_keeps]; exact ⟨rfl, rfl, rfl, rfl, rfl⟩

theorem cyclePopped_keeps (x : Boom) (ps : Params) (sub : CycleSub) (h : Hole) (d : Nat) :
    (x.cyclePopped ps sub h d).level = x.level ∧ (x.cyclePopped ps sub h d).depth = x.depth ∧
      (x.cyclePopped ps sub h d).current = x.current ∧ (x.cyclePopped ps sub h d).feed = x.feed ∧
      (x.cyclePopped ps sub h d).rotation = x.rotation := by
  unfold Boom.cyclePopped; rw [gapTested_keeps]; exact ⟨rfl, rfl, rfl, rfl, rfl⟩

theorem movedFar_iff (ps : Params) (d : Nat) : ps.movedFar d = true ↔ 10 * ps.reentryTolerance < d := decide_eq_true_iff

theorem reentryRaises_iff (h : Hole) (ps : Params) (d : Nat) :
    h.reentryRaises (ps.movedFar d) = true ↔
      10 * ps.reentryTolerance < d ∨ (h.chuckReleased = true ∧ 5 ≤ h.phase.num ∧ h.phase.num ≤ 9) := by
  unfold Hole.reentryRaises
  rw [Bool.or_eq_true, movedFar_iff, Bool.and_eq_true, holdsBolt_iff]

/-- A popped cycle whose re-entry check raises MOVED_WHILE_AWAY is stopped (R166). -/
theorem popCycle_stops {s : State} {b : Slot} {sub : CycleSub} {h : Hole} {d : Nat} (alone : s.waitsAlone b)
    (raises : 10 * s.params.reentryTolerance < d ∨ (h.chuckReleased = true ∧ 5 ≤ h.phase.num ∧ h.phase.num ≤ 9)) :
    s.OnlyBoom (s.popCycle b sub h d) b ∧
      (∃ f, (s.popCycle b sub h d).boom b =
          (((s.boom b).cyclePopped s.params sub h d).raise [.movedWhileAway]).halted f (h.popped s.params d).stopped ∧
        f.kind = .inPhase ∧ f.cause = .movedWhileAway ∧ f.operand = d ∧ f.phase = h.phase) ∧
      (s.popCycle b sub h d).grant b = s.grantStopped b h.phase := by
  have same : s.popCycle b sub h d =
      ((s.setBoom b (((s.boom b).cyclePopped s.params sub h d).raise [.movedWhileAway])).stopInPhase b (h.popped s.params d)
        .movedWhileAway d).evaluate := by
    unfold State.popCycle
    dsimp only
    rw [if_pos ((reentryRaises_iff h s.params d).2 raises)]
    unfold State.raise
    rw [State.setBoom_boom, setBoom_setBoom]
    rfl
  have readings := cyclePopped_readings (s.boom b) s.params sub h d
  obtain ⟨only, own, grant⟩ := stopInPhase_lone (s := s) (b := b)
    (y := ((s.boom b).cyclePopped s.params sub h d).raise [.movedWhileAway]) alone
    ⟨readings.raw, readings.lastGood, readings.inForce, readings.posLoss, readings.enabled⟩ (h.popped s.params d) .movedWhileAway d
  rw [same]
  exact ⟨only, ⟨_, own, rfl, rfl, rfl, rfl⟩, grant⟩

/-- A popped cycle whose re-entry check raises nothing is resumed (R31, R166). -/
theorem popCycle_resumes {s : State} {b : Slot} {sub : CycleSub} {h : Hole} {d : Nat}
    (calm : ¬ (10 * s.params.reentryTolerance < d ∨ (h.chuckReleased = true ∧ 5 ≤ h.phase.num ∧ h.phase.num ≤ 9))) :
    s.popCycle b sub h d = (s.setBoom b ((s.boom b).cyclePopped s.params sub h d)).resume b (h.popped s.params d) := by
  unfold State.popCycle
  dsimp only
  rw [if_neg (fun raises => calm ((reentryRaises_iff h s.params d).1 raises))]
  rfl

theorem popped_near {ps : Params} {d : Nat} (near : ¬ 10 * ps.reentryTolerance < d) (h : Hole) :
    h.popped ps d = h.addMoved d := by
  have short : ps.movedFar d = false := by rw [← Bool.not_eq_true, movedFar_iff]; exact near
  unfold Hole.popped Hole.noteMoved
  rw [short]
  show { h.addMoved d with moved := (h.addMoved d).moved || false } = h.addMoved d
  rw [Bool.or_false]

theorem popped_far {ps : Params} {d : Nat} (far : 10 * ps.reentryTolerance < d) (h : Hole) : (h.popped ps d).moved = true := by
  have long : ps.movedFar d = true := (movedFar_iff ps d).2 far
  unfold Hole.popped Hole.noteMoved
  rw [long]
  exact Bool.or_true _

/-! ## A phase whose grant covers it starts -/

theorem askFlow_held {s : State} {b : Slot} {h : Hole} (alone : s.waitsAlone b) (drive : s.drive = some true)
    (heard : s.link.silent = false) (direct : h.viaReEngage = false) (held : s.demandOf h.phase ≤ s.grant b) :
    ((s.askFlow b h).boom b).auto = .cycle .active (h.startMotion (s.depth b)) := by
  have asked : s.askedFlow h = s.demandOf h.phase := by
    unfold State.askedFlow; rw [direct]; rfl
  obtain ⟨q, x, eq, auto, -, -⟩ :=
    startCycle_moves (s := s.reduceBoom b (s.demandOf h.phase)) (b := b) (h := h) (now := true) drive heard direct
  unfold State.askFlow
  rw [asked, if_pos held, eq, evaluate_nil (by exact reduceBoom_alone alone _)]
  exact (congrArg Boom.auto (four_get_set_self _ _ _)).trans auto

/-- A phase whose bolt has not been let go, or that is not BOLT_LOAD, is resumed as it stands (R31, R33). -/
theorem resume_asks {s : State} {b : Slot} {h : Hole} (kept : h.phase ≠ .boltLoad ∨ h.chuckReleased = false) :
    s.resume b h = s.askFlow b h := by
  unfold State.resume
  rw [if_neg]
  rintro ⟨phase, released⟩
  rcases kept with other | held
  · exact other phase
  · exact absurd (held.symm.trans released) (by decide)

/-! ## RE_ENGAGE -/

/-- The boom in RE_ENGAGE at a sample: the bolt fed in with the chuck CLOSED (R32). -/
def Boom.engaging (x : Boom) (h : Hole) : Boom :=
  { x.ranged with auto := .cycle .reEngage h, feed := (h.plan.recipe.insertFeed : Int), rotation := 0, chuck := .closed }

theorem engage_sample {s : State} {b : Slot} {h : Hole} (running : (s.boom b).running = some (.reEngage, h))
    (calm : s.stopCause b (s.engageConds b) = none) :
    s.contextSample b =
      if h.drilled.getD 0 - 10 * s.params.seatTolerance ≤ s.depth b then (s.setBoom b ((s.boom b).engaging h)).seat b h
      else s.setBoom b ((s.boom b).engaging h) := by
  rw [contextSample_engage running calm]
  unfold State.engageSample
  dsimp only
  rw [State.setBoom_boom, setBoom_setBoom, depth_setBoom]
  rfl

theorem seated_fields (h : Hole) : h.seated.phase = h.phase ∧ h.seated.plan = h.plan ∧ h.seated.chuckReleased = false ∧
    h.seated.moved = false ∧ h.seated.viaReEngage = false :=
  ⟨rfl, rfl, rfl, rfl, by unfold Hole.viaReEngage; exact Bool.and_false _⟩

/-- The seating sample of a phase that goes on: both flags clear, and its own flow is asked for (R32). -/
theorem seat_asks {s : State} {b : Slot} {h : Hole} (level : (s.boom b).level = 0) (quiet : s.flowQuiet)
    (drive : s.drive = some true) (heard : s.link.silent = false) (phase : h.phase = .holding ∨ h.phase = .torquing)
    (goesOn : h.phase = .torquing ∨ h.holdElapsed s.clock = false) :
    ∃ g, s.OnlyBoom ((s.setBoom b ((s.boom b).engaging h)).seat b h) b ∧
      s.FlowAsked ((s.setBoom b ((s.boom b).engaging h)).seat b h) b g ∧ g.phase = h.phase ∧ g.plan = h.plan ∧
      g.chuckReleased = false ∧ g.moved = false ∧
      (((s.setBoom b ((s.boom b).engaging h)).seat b h).boom b).chuck = .closed := by
  have asks : (s.setBoom b ((s.boom b).engaging h)).seat b h = (s.setBoom b ((s.boom b).engaging h)).askFlow b h.seated := by
    unfold State.seat
    rw [if_neg]
    rintro ⟨holding, elapsed⟩
    rcases goesOn with torquing | early
    · exact absurd (holding.symm.trans torquing) (by decide)
    · exact absurd (early.symm.trans elapsed) (by decide)
  obtain ⟨g, answered⟩ := askFlow_answers (s := s.setBoom b ((s.boom b).engaging h)) (b := b) (h := h.seated)
    (by rw [State.setBoom_boom]; exact level) quiet drive heard (seated_fields h).2.2.2.2
  rw [← asks] at answered
  obtain ⟨asked, only, -⟩ := answered.of_setBoom (s := s) (y := (s.boom b).engaging h) ⟨rfl, rfl, rfl, rfl, rfl⟩
  have chuck : (((s.setBoom b ((s.boom b).engaging h)).seat b h).boom b).chuck = .closed := by
    rcases answered.chuck with kept | started
    · rw [kept, State.setBoom_boom]; rfl
    · rw [started]
      unfold Hole.startChuck
      rw [if_pos]
      rw [(seated_fields h).1]
      rcases phase with phase | phase <;> rw [phase] <;> rfl
  rcases answered.hole with rfl | rfl
  · exact ⟨_, only, asked, rfl, rfl, rfl, Bool.and_false _, chuck⟩
  · exact ⟨_, only, asked, rfl, rfl, rfl, rfl, chuck⟩

/-- The seating sample of a HOLDING whose hold has elapsed goes on into TORQUING (R32, R99). -/
theorem seat_ends {s : State} {b : Slot} {h : Hole} (level : (s.boom b).level = 0) (quiet : s.flowQuiet)
    (drive : s.drive = some true) (heard : s.link.silent = false) (phase : h.phase = .holding)
    (elapsed : h.holdElapsed s.clock = true) (unposted : (s.boom b).posted = 0)
    (masked : CondSet.has (s.boom b).enabled .sensorRange = false) :
    ∃ g, s.OnlyBoom ((s.setBoom b ((s.boom b).engaging h)).seat b h) b ∧
      s.PhaseEntered ((s.setBoom b ((s.boom b).engaging h)).seat b h) b h g .torquing ∧ g.holdEnd = some s.clock ∧
      g.chuckReleased = false ∧ g.moved = false := by
  have ends : (s.setBoom b ((s.boom b).engaging h)).seat b h =
      (s.setBoom b ((s.boom b).engaging h)).endHolding b h.seated := by
    unfold State.seat
    exact if_pos ⟨phase, elapsed⟩
  obtain ⟨g, entered, only, -, -, hole⟩ := endHolding_enters (s := s) (b := b) (y := (s.boom b).engaging h) (h := h.seated) phase
    rfl rfl ⟨rfl, rfl, rfl, rfl, rfl⟩ level ((ranged_posted masked).trans unposted) quiet drive heard
  rw [← ends] at entered only
  refine ⟨g, only, PhaseEntered.of_same (h := h) (k := h.seated.held s.clock) rfl rfl rfl rfl entered, ?_⟩
  rcases hole with eq | eq <;> rw [eq] <;> exact ⟨rfl, rfl, rfl⟩

/-- Settles O46: the re-entry check raises or resumes by the move and the bolt, and a RE_ENGAGE sample feeds or seats. -/
theorem reentryChecksTheMove : Obligations.ReentryChecksTheMove := by
  refine ⟨fun s b sub h d auto level alone => ⟨fun raises => ?_, fun near phase drive heard held => ?_⟩,
    fun s b h running phase calm => ⟨fun short => ?_, fun seated quiet drive heard => ⟨fun goesOn => ?_, fun holding elapsed
      unposted masked => ?_⟩⟩⟩
  · obtain ⟨-, ⟨f, boom, kind, cause, operand, phase⟩, grant⟩ := popCycle_stops (s := s) (sub := sub) alone raises
    refine ⟨f, (h.popped s.params d).stopped, by rw [boom]; rfl, cause, operand, kind, phase, rfl, fun far => ?_, ?_, grant⟩
    · exact popped_far far h
    · rw [boom]
      show CondSet.has (((s.boom b).cyclePopped s.params sub h d).raise [.movedWhileAway]).accrued .movedWhileAway = true
      rw [raise_accrued_has]
      exact Bool.or_true _
  · have calm : ¬ (10 * s.params.reentryTolerance < d ∨ (h.chuckReleased = true ∧ 5 ≤ h.phase.num ∧ h.phase.num ≤ 9)) := by
      rw [phase]
      rintro (far | ⟨-, low, -⟩)
      · omega
      · exact absurd low (by decide)
    have direct : (h.popped s.params d).viaReEngage = false := by
      show (h.phase.reEngages && _) = false
      rw [phase]; rfl
    have phased : (h.popped s.params d).phase = .drilling := phase
    have starts := askFlow_held (s := s.setBoom b ((s.boom b).cyclePopped s.params sub h d)) (b := b) (h := h.popped s.params d)
      alone drive heard direct (by rw [phased]; exact held)
    rw [popCycle_resumes calm, resume_asks (Or.inl (by rw [phased]; decide))]
    exact ⟨_, starts, rfl, phase⟩
  · exact ⟨_, (engage_sample running calm).trans (if_neg (Nat.not_le.2 short)), rfl, rfl, rfl, rfl⟩
  · have sampled := (engage_sample running calm).trans (if_pos seated)
    obtain ⟨g, only, asked, phase', plan, released, moved, chuck⟩ := seat_asks (running_context running).1 quiet drive heard phase goesOn
    rw [← sampled] at only asked chuck
    exact ⟨_, g, rfl, only, asked, phase', plan, released, moved, chuck⟩
  · have sampled := (engage_sample running calm).trans (if_pos seated)
    obtain ⟨g, only, entered, held, released, moved⟩ :=
      seat_ends (running_context running).1 quiet drive heard holding elapsed unposted masked
    rw [← sampled] at only entered
    exact ⟨_, g, rfl, only, entered, held, released, moved⟩

end Sys2Proof.Machine
end

section
/-! SUPPORT. Asking for flow with nobody else waiting, whatever the motion-start check finds (R27, R28, R31): the others and the
levels are left alone. -/

namespace Sys2Proof.Machine

/-- An act that leaves alone everything but one boom's own work and flow, and its level too. -/
structure State.Lone (s t : State) (b : Slot) : Prop where
  only : s.OnlyBoom t b
  level : (t.boom b).level = (s.boom b).level
  quiet : s.flowQuiet → t.flowQuiet

theorem State.OnlyBoom.trans {s t u : State} {b : Slot} (h : s.OnlyBoom t b) (k : t.OnlyBoom u b) : s.OnlyBoom u b where
  store := h.store.trans k.store
  lists := h.lists.trans k.lists
  booms c ne := (k.booms c ne).trans (h.booms c ne)
  grants c ne := (k.grants c ne).trans (h.grants c ne)
  reserve := k.reserve.trans h.reserve
  readings := h.readings.trans k.readings

namespace State.Lone

theorem trans {s t u : State} {b : Slot} (h : s.Lone t b) (k : t.Lone u b) : s.Lone u b :=
  ⟨h.only.trans k.only, k.level.trans h.level, fun none => k.quiet (h.quiet none)⟩

theorem written {s : State} {b : Slot} {x : Boom} (readings : Boom.SameReadings (s.boom b) x)
    (level : x.level = (s.boom b).level) (q : Four Bool) : s.Lone (s.written b x s.arbiter q) b :=
  ⟨written_unmoved readings q, by rw [written_boom, level], id⟩

theorem changeBoom {s : State} {b : Slot} {x : Boom} (readings : Boom.SameReadings (s.boom b) x)
    (level : x.level = (s.boom b).level) : s.Lone (s.changeBoom b x) b := by
  obtain ⟨q, eq⟩ := changeBoom_written s b x
  rw [eq]
  exact written readings level q

theorem setBoom {s : State} {b : Slot} {x : Boom} (readings : Boom.SameReadings (s.boom b) x)
    (level : x.level = (s.boom b).level) : s.Lone (s.setBoom b x) b := written readings level s.link.boomStatus

/-- One boom's flow set, and nothing else. -/
theorem holds {s : State} {b : Slot} {a : Arbiter} {n : Nat} (holds : s.arbiter.Holds a b n) :
    s.Lone { s with arbiter := a } b where
  only :=
    { store := ⟨rfl, rfl, rfl, rfl, rfl, rfl, rfl, rfl, rfl, rfl⟩
      lists := ⟨rfl, rfl, rfl, rfl⟩
      booms := fun _ _ => rfl
      grants := holds.others
      reserve := holds.reserve
      readings := ⟨rfl, rfl, rfl, rfl, rfl⟩ }
  level := rfl
  quiet := fun _ => holds.nobody

theorem reduceBoom {s : State} {b : Slot} (alone : s.waitsAlone b) (n : Nat) : s.Lone (s.reduceBoom b n) b :=
  holds (reduceBoom_holds alone n)

/-- The exception a boom enters, before the evaluation (R134). -/
theorem stopInPhase {s : State} {b : Slot} {y : Boom} (quiet : s.flowQuiet) (readings : Boom.SameReadings (s.boom b) y)
    (level : y.level = (s.boom b).level) (h : Hole) (c : Cond) (n : Nat) :
    s.Lone ((s.setBoom b y).stopInPhase b h c n) b := by
  have none : ((s.setBoom b y).stopInPhase b h c n).flowQuiet := stopBoom_quiet (s := s.setBoom b y) quiet _ _ _ _ _ _ _
  obtain ⟨only, own, -⟩ := stopInPhase_lone (waitsAlone_of_quiet quiet b) readings h c n
  rw [evaluate_nil none] at only own
  exact ⟨only, by rw [own]; exact level, fun _ => none⟩

theorem moveOff (s : State) (b : Slot) (h : Hole) (now : Bool) : s.Lone (s.moveOff b h now) b := by
  unfold State.moveOff
  dsimp only
  split <;> exact changeBoom ⟨rfl, rfl, rfl, rfl, rfl⟩ rfl

/-- A start, whatever the motion-start check finds (R28). -/
theorem startCycle {s : State} {b : Slot} (quiet : s.flowQuiet) (h : Hole) (now : Bool) : s.Lone (s.startCycle b h now) b := by
  unfold State.startCycle
  split
  · exact stopInPhase (y := (s.boom b).raise s.startFaults) quiet ⟨rfl, rfl, rfl, rfl, rfl⟩ rfl _ _ _
  · exact moveOff s b h now

end State.Lone

theorem tell_waiting_cycle {s : State} {b : Slot} {h : Hole} (level : (s.boom b).level = 0)
    (auto : (s.boom b).auto = .cycle .waitFlow h) (inReserve : Bool) :
    s.tell inReserve (.boom b) = s.startCycle b h false := by
  obtain ⟨retract, manual⟩ := level_zero level
  unfold State.tell
  simp only [retract, manual, auto]

theorem askedClass_mild (h : Hole) : h.askedClass ≠ .urgent := by
  unfold Hole.askedClass
  split
  · decide
  · cases h.phase <;> decide

/-- Asking for flow reaches no other boom, whatever the motion-start check finds (R27, R28). -/
theorem askFlow_lone {s : State} {b : Slot} (level : (s.boom b).level = 0) (quiet : s.flowQuiet) (h : Hole) :
    s.OnlyBoom (s.askFlow b h) b ∧ ((s.askFlow b h).boom b).level = 0 := by
  unfold State.askFlow
  split
  next held =>
    have reduced := State.Lone.reduceBoom (waitsAlone_of_quiet quiet b) (s.askedFlow h)
    have lone := reduced.trans (State.Lone.startCycle (reduced.quiet quiet) h true)
    rw [evaluate_nil (lone.quiet quiet)]
    exact ⟨lone.only, lone.level.trans level⟩
  next short =>
    have waits : s.waitForFlow b h =
        s.changeBoom b { (s.boom b).still.cancelLoader with auto := .cycle .waitFlow { h with torqueRun := [] } } := rfl
    rw [waits]
    obtain ⟨x, hx⟩ : ∃ x, x = { (s.boom b).still.cancelLoader with auto := .cycle .waitFlow { h with torqueRun := [] } } := ⟨_, rfl⟩
    obtain ⟨q, eq⟩ := changeBoom_written s b x
    have readings : Boom.SameReadings (s.boom b) x := by rw [hx]; exact ⟨rfl, rfl, rfl, rfl, rfl⟩
    have level' : x.level = (s.boom b).level := by rw [hx]; rfl
    have lone := State.Lone.written (s := s) readings level' q
    rw [← hx, eq]
    by_cases fit : s.askedFlow h - s.grant b ≤ s.free
    · have given := lone.trans (State.Lone.holds (s := s.written b x s.arbiter q) (grantedTo_holds s.arbiter b (s.askedFlow h)))
      have told := tell_waiting_cycle (s := s.written b x (s.arbiter.grantedTo b (s.askedFlow h)) q) (b := b)
        (by rw [written_boom, level', level]) (by rw [written_boom, hx]) false
      have started := given.trans (State.Lone.startCycle (b := b) (given.quiet quiet) { h with torqueRun := [] } false)
      rw [topUpBoom_granted (s := s.written b x s.arbiter q) quiet fit told (started.quiet quiet)]
      exact ⟨started.only, started.level.trans level⟩
    · rw [topUpBoom_quiet (s := s.written b x s.arbiter q) quiet, State.evaluate, State.evaluationFuel,
        evaluateWith_stays rfl (by exact fit) (askedClass_mild h)]
      have unmoved := lone.only
      exact ⟨⟨⟨unmoved.store.1, unmoved.store.2, unmoved.store.3, unmoved.store.4, unmoved.store.5, unmoved.store.6, unmoved.store.7,
          unmoved.store.8, unmoved.store.9, unmoved.store.10⟩,
        ⟨unmoved.lists.1, unmoved.lists.2, unmoved.lists.3, unmoved.lists.4⟩, unmoved.booms, unmoved.grants, unmoved.reserve,
        unmoved.readings⟩, lone.level.trans level⟩

theorem resume_lone {s : State} {b : Slot} (level : (s.boom b).level = 0) (quiet : s.flowQuiet) (h : Hole) :
    s.OnlyBoom (s.resume b h) b ∧ ((s.resume b h).boom b).level = 0 := askFlow_lone level quiet _

end Sys2Proof.Machine
end

section
/-! SUPPORT. What a pop leads to, by the level-0 context it makes active, with nobody waiting for flow (R164 to R166). -/

namespace Sys2Proof.Machine

/-- What a pop leaves alone: the store and the queues, and the others when the context it makes active reaches no one else. -/
structure State.PopKeeps (s t : State) (b : Slot) : Prop where
  store : State.SameStore s t
  queues : t.queues = s.queues
  others : (∀ sub h, (s.boom b).auto = .abandoning sub h → s.covers b s.retractFlow) →
    (∀ c, c ≠ b → t.boom c = s.boom c) ∧ (∀ c, c ≠ b → t.grant c = s.grant c) ∧ t.arbiter.reserve = s.arbiter.reserve

theorem State.OnlyBoom.popKeeps {s t : State} {b : Slot} (only : s.OnlyBoom t b) : s.PopKeeps t b :=
  ⟨only.store, only.lists.queues, fun _ => ⟨only.booms, only.grants, only.reserve⟩⟩

theorem popped_readings (x : Boom) : Boom.SameReadings x x.popped := ⟨rfl, rfl, rfl, rfl, rfl⟩

theorem popped_level (x : Boom) : x.popped.level = 0 := level_of_contexts rfl rfl

/-- The pop, on the part with its boom's interventions ended (R165). -/
theorem popAuto_written (s : State) (b : Slot) :
    ∃ q, s.popAuto b = (s.written b (s.boom b).popped s.arbiter q).popRequest b (s.movedAway b) := by
  unfold State.popAuto
  dsimp only
  obtain ⟨q, eq⟩ := changeBoom_written s b (s.boom b).popped
  exact ⟨q, by rw [eq]; rfl⟩

/-! ## By the context -/

section context

variable {s : State} {b : Slot} {d : Nat}

/-- A context that asks for nothing gives its flow back (R165). -/
theorem popRequest_rests (quiet : s.flowQuiet)
    (auto : (s.boom b).auto = .idle ∨ (∃ r, (s.boom b).auto = .logWait r) ∨ ∃ p, (s.boom b).auto = .observing p) :
    s.popRequest b d = s.reduceBoom b 0 := by
  have nobody : (s.reduceBoom b 0).evaluate = s.reduceBoom b 0 :=
    evaluate_nil (reduceBoom_alone (waitsAlone_of_quiet quiet b) 0)
  unfold State.popRequest
  rcases auto with auto | ⟨r, auto⟩ | ⟨p, auto⟩ <;> rw [auto] <;> exact nobody

theorem popRequest_cycle {sub : CycleSub} {h : Hole} (auto : (s.boom b).auto = .cycle sub h) :
    s.popRequest b d = s.popCycle b sub h d := by
  unfold State.popRequest; rw [auto]

theorem popRequest_abandoning {sub : AbandonSub} {h : Hole} (auto : (s.boom b).auto = .abandoning sub h) :
    s.popRequest b d = s.abandonGo b (h.addMoved d) := by
  unfold State.popRequest; rw [auto]

/-- The boom of a popped exception (R165). -/
def Boom.exceptionPopped (x : Boom) (ps : Params) (f : ExFrame) (h : Hole) (d : Nat) : Boom :=
  { x with auto := .exception f (h.popped ps d) }

/-- A popped exception keeps the flow its response left it (R134, R165). -/
theorem popRequest_exception {f : ExFrame} {h : Hole} (quiet : s.flowQuiet) (auto : (s.boom b).auto = .exception f h) :
    ∃ a, s.popRequest b d = s.written b ((s.boom b).exceptionPopped s.params f h d) a s.link.boomStatus ∧
      s.arbiter.Holds a b (s.grantStopped b f.raisedIn) := by
  have holds := reduceBoom_holds (waitsAlone_of_quiet quiet b) (s.stopTarget f.raisedIn)
  rw [stopTarget_min] at holds
  unfold State.popRequest State.popException
  rw [auto]
  exact ⟨_, evaluate_nil holds.nobody, holds⟩

theorem raised_halted_level (x : Boom) (cs : List Cond) (f : ExFrame) (h : Hole) : ((x.raise cs).halted f h).level = x.level := rfl

/-- Any pop of a cycle reaches its own boom alone. -/
theorem popCycle_lone (level : (s.boom b).level = 0) (quiet : s.flowQuiet) (sub : CycleSub) (h : Hole) :
    s.OnlyBoom (s.popCycle b sub h d) b ∧ ((s.popCycle b sub h d).boom b).level = 0 := by
  by_cases raises : 10 * s.params.reentryTolerance < d ∨ (h.chuckReleased = true ∧ 5 ≤ h.phase.num ∧ h.phase.num ≤ 9)
  · obtain ⟨only, ⟨f, own, -⟩, -⟩ := popCycle_stops (s := s) (b := b) (sub := sub) (h := h) (d := d) (waitsAlone_of_quiet quiet b) raises
    exact ⟨only, by rw [own, raised_halted_level, (cyclePopped_keeps _ _ _ _ _).1, level]⟩
  · have lone := State.Lone.setBoom (cyclePopped_readings (s.boom b) s.params sub h d) (cyclePopped_keeps _ _ _ _ _).1
    obtain ⟨only, level'⟩ := resume_lone (lone.level.trans level) (lone.quiet quiet) (h.popped s.params d)
    rw [popCycle_resumes raises]
    exact ⟨lone.only.trans only, level'⟩

/-- A popped abandoned hole: ended at home, retracting with its flow, or waiting for it (R46, R165). -/
theorem abandonGo_keeps {h : Hole} (level : (s.boom b).level = 0) (unloaded : (s.boom b).loaderOut = none) (quiet : s.flowQuiet)
    {v : State} (auto : ∃ sub h, (v.boom b).auto = .abandoning sub h) (only : v.OnlyBoom s b)
    (same : v.covers b v.retractFlow → s.covers b s.retractFlow) :
    v.PopKeeps (s.abandonGo b h) b ∧ ((s.abandonGo b h).boom b).level = 0 := by
  by_cases home : s.depth b ≤ 10 * s.params.homeTolerance
  · have ends : s.abandonGo b h = s.endHole b h := if_pos (decide_eq_true home)
    obtain ⟨⟨context, boom⟩, grant, booms, grants, reserve, -, -, store, queues⟩ := endHole_ends (b := b) quiet h
    rw [ends]
    exact ⟨⟨only.store.trans store, queues.trans only.lists.queues, fun _ =>
        ⟨fun c ne => (booms c ne).trans (only.booms c ne), fun c ne => (grants c ne).trans (only.grants c ne), reserve.trans only.reserve⟩⟩,
      by rw [boom]; exact level⟩
  · by_cases covered : s.covers b s.retractFlow
    · obtain ⟨a, q, eq, holds⟩ := abandonGo_retracts (h := h) level unloaded quiet (Nat.not_le.1 home) covered
      rw [eq]
      have moves := written_onlyBoom (x := (s.boom b).abandonMoved s.driveOn (-(s.params.retractFeed : Int)) h) holds
        ⟨rfl, rfl, rfl, rfl, rfl⟩ q
      exact ⟨(only.trans moves).popKeeps, by rw [written_boom]; exact level⟩
    · have waits : s.abandonGo b h =
          ((s.changeBoom b { (s.boom b).still with auto := .abandoning .waitFlow h }).topUpBoom b .urgent s.retractFlow).evaluate := by
        unfold State.abandonGo
        rw [if_neg (by simpa [State.atHome] using Nat.not_le.1 home), if_neg (fun held => covered (Or.inl held))]
      have books : s.SameBooks (s.abandonGo b h) := by
        rw [waits]
        exact ((State.SameBooks.evaluate _).after (State.SameBooks.topUpBoom _ _ _ _)).after (State.SameBooks.changeBoom s b _)
      have granted := evaluate_granted
        ((s.changeBoom b { (s.boom b).still with auto := .abandoning .waitFlow h }).topUpBoom b .urgent s.retractFlow) b
      obtain ⟨sub, k, stands⟩ := auto
      refine ⟨⟨only.store.trans books.store, books.lists.queues.trans only.lists.queues, fun within =>
        absurd (same (within sub k stands)) covered⟩, ?_⟩
      rw [waits, granted.level, State.topUpBoom_boom, changeBoom_boom]
      exact level

end context

/-! ## All of them -/

theorem abandonMoved_moved (x : Boom) (drive : Bool) (feed : Int) (h : Hole) :
    ∃ g, (x.abandonMoved drive feed h).auto = .abandoning (if drive then .active else .driveHeld) g ∧
      g.movedDistance = h.movedDistance ∧ g.phase = h.phase ∧ g.plan = h.plan := by
  cases drive
  · exact ⟨h, rfl, rfl, rfl, rfl⟩
  · exact ⟨{ h with retractTicks := 0 }, rfl, rfl, rfl, rfl⟩

section pop

variable {s : State} {b : Slot} {q : Four Bool}

/-- The part with the boom's interventions ended, its context about to make its request (R165). -/
def State.atPop (s : State) (b : Slot) (q : Four Bool) : State := s.written b (s.boom b).popped s.arbiter q

theorem atPop_boom : (s.atPop b q).boom b = (s.boom b).popped := written_boom _ _ _ _ _

theorem atPop_auto : ((s.atPop b q).boom b).auto = (s.boom b).auto := by rw [atPop_boom]; rfl

theorem atPop_level : ((s.atPop b q).boom b).level = 0 := by rw [atPop_boom, popped_level]

theorem atPop_only : s.OnlyBoom (s.atPop b q) b := written_unmoved (popped_readings _) q

theorem atPop_depth : (s.atPop b q).depth b = s.depth b := by
  unfold State.depth; rw [atPop_boom]; rfl

theorem popRests_pops (quiet : s.flowQuiet)
    (auto : (s.boom b).auto = .idle ∨ (∃ r, (s.boom b).auto = .logWait r) ∨ ∃ p, (s.boom b).auto = .observing p) :
    s.PoppedTo ((s.atPop b q).popRequest b (s.movedAway b)) b ∧ s.OnlyBoom ((s.atPop b q).popRequest b (s.movedAway b)) b ∧
      ((s.atPop b q).popRequest b (s.movedAway b)).boom b = (s.boom b).popped ∧
      ((s.atPop b q).popRequest b (s.movedAway b)).grant b = 0 := by
  have rests := popRequest_rests (s := s.atPop b q) (b := b) (d := s.movedAway b) quiet (by rw [atPop_auto]; exact auto)
  have alone : (s.atPop b q).waitsAlone b := waitsAlone_of_quiet quiet b
  have only := atPop_only.trans (State.Lone.reduceBoom alone 0).only
  have boom : ((s.atPop b q).reduceBoom b 0).boom b = (s.boom b).popped := atPop_boom (q := q)
  have grant : ((s.atPop b q).reduceBoom b 0).grant b = 0 := (reduceBoom_grant _ b 0).trans (Nat.zero_min _)
  rw [rests]
  have none : ∀ {P : Prop} {x : Auto}, (s.boom b).auto = x →
      ((∃ sub h, x = .cycle sub h) ∨ (∃ f h, x = .exception f h) ∨ ∃ sub h, x = .abandoning sub h) → P := by
    intro P x eq other
    rw [eq] at auto
    rcases auto with h | ⟨_, h⟩ | ⟨_, h⟩ <;> rw [h] at other <;> rcases other with ⟨_, _, k⟩ | ⟨_, _, k⟩ | ⟨_, _, k⟩ <;> cases k
  exact ⟨{
    level := by rw [boom, popped_level]
    exception := fun f h eq => none eq (Or.inr (Or.inl ⟨f, h, rfl⟩))
    logWait := fun r eq => by rw [boom]; exact ⟨eq, grant, rfl, rfl, rfl⟩
    abandoning := fun sub h eq => none eq (Or.inr (Or.inr ⟨sub, h, rfl⟩))
    moved := fun sub h eq => none eq (Or.inl ⟨sub, h, rfl⟩)
    resumed := fun sub h eq => none eq (Or.inl ⟨sub, h, rfl⟩) }, only, boom, grant⟩

theorem popException_pops {f : ExFrame} {h : Hole} (quiet : s.flowQuiet) (auto : (s.boom b).auto = .exception f h) :
    s.PoppedTo ((s.atPop b q).popRequest b (s.movedAway b)) b ∧ s.OnlyBoom ((s.atPop b q).popRequest b (s.movedAway b)) b := by
  obtain ⟨a, eq, holds⟩ := popRequest_exception (s := s.atPop b q) (b := b) (d := s.movedAway b) quiet (atPop_auto.trans auto)
  rw [atPop_boom] at eq
  rw [eq]
  have only := atPop_only.trans (written_onlyBoom (x := (s.boom b).popped.exceptionPopped (s.atPop b q).params f h (s.movedAway b))
    holds (by rw [atPop_boom]; exact ⟨rfl, rfl, rfl, rfl, rfl⟩) (s.atPop b q).link.boomStatus)
  refine ⟨{
    level := by rw [written_boom]; exact popped_level (s.boom b)
    exception := fun g k same => ?_
    logWait := fun r same => absurd (auto.symm.trans same) nofun
    abandoning := fun sub k same => absurd (auto.symm.trans same) nofun
    moved := fun sub k same => absurd (auto.symm.trans same) nofun
    resumed := fun sub k same => absurd (auto.symm.trans same) nofun }, only⟩
  injection auto.symm.trans same with frame hole
  subst frame hole
  rw [written_boom, written_grant, holds.given]
  exact ⟨rfl, rfl, rfl, rfl, rfl⟩

theorem popAbandoning_pops {sub : AbandonSub} {h : Hole} (quiet : s.flowQuiet) (auto : (s.boom b).auto = .abandoning sub h) :
    s.PoppedTo ((s.atPop b q).popRequest b (s.movedAway b)) b ∧ s.PopKeeps ((s.atPop b q).popRequest b (s.movedAway b)) b := by
  rw [popRequest_abandoning (atPop_auto.trans auto)]
  have unloaded : ((s.atPop b q).boom b).loaderOut = none := by rw [atPop_boom]; rfl
  obtain ⟨keeps, level⟩ := abandonGo_keeps (s := s.atPop b q) (b := b) (h := h.addMoved (s.movedAway b)) atPop_level unloaded quiet
    ⟨sub, h, auto⟩ atPop_only id
  refine ⟨{
    level := level
    exception := fun g k same => absurd (auto.symm.trans same) nofun
    logWait := fun r same => absurd (auto.symm.trans same) nofun
    abandoning := fun sub' k same away covered => ?_
    moved := fun sub' k same => absurd (auto.symm.trans same) nofun
    resumed := fun sub' k same => absurd (auto.symm.trans same) nofun }, keeps⟩
  injection auto.symm.trans same with _ hole
  subst hole
  obtain ⟨a, p, eq, holds⟩ := abandonGo_retracts (s := s.atPop b q) (b := b) (h := h.addMoved (s.movedAway b)) atPop_level unloaded
    quiet (by rw [atPop_depth]; exact away) covered
  obtain ⟨g, context, moved, phase, plan⟩ := abandonMoved_moved ((s.atPop b q).boom b) (s.atPop b q).driveOn
    (-((s.atPop b q).params.retractFeed : Int)) (h.addMoved (s.movedAway b))
  rw [eq, written_boom, written_grant, holds.given, context, ← driveOn_if]
  exact ⟨g, rfl, moved, phase, plan, rfl⟩

theorem popCycle_pops {sub : CycleSub} {h : Hole} (quiet : s.flowQuiet) (heard : s.link.silent = false)
    (auto : (s.boom b).auto = .cycle sub h) :
    s.PoppedTo ((s.atPop b q).popRequest b (s.movedAway b)) b ∧ s.OnlyBoom ((s.atPop b q).popRequest b (s.movedAway b)) b := by
  rw [popRequest_cycle (atPop_auto.trans auto)]
  obtain ⟨only, level⟩ := popCycle_lone (s := s.atPop b q) (b := b) (d := s.movedAway b) atPop_level quiet sub h
  refine ⟨{
    level := level
    exception := fun g k same => absurd (auto.symm.trans same) nofun
    logWait := fun r same => absurd (auto.symm.trans same) nofun
    abandoning := fun sub' k same => absurd (auto.symm.trans same) nofun
    moved := fun sub' k same raises => ?_
    resumed := fun sub' k same near held still drive => ?_ }, atPop_only.trans only⟩
  all_goals
    injection auto.symm.trans same with context hole
    subst context hole
  · obtain ⟨-, ⟨f, boom, kind, cause, operand, phase⟩, grant⟩ :=
      popCycle_stops (s := s.atPop b q) (b := b) (sub := sub) (waitsAlone_of_quiet quiet b) raises
    refine ⟨f, (h.popped (s.atPop b q).params (s.movedAway b)).stopped, by rw [boom]; rfl, kind, cause, operand, phase, rfl, rfl, ?_,
      grant⟩
    rw [boom]
    show CondSet.has (Boom.raise _ [.movedWhileAway]).accrued .movedWhileAway = true
    rw [raise_accrued_has]
    exact Bool.or_true _
  · have calm : ¬ (10 * (s.atPop b q).params.reentryTolerance < s.movedAway b ∨
        (h.chuckReleased = true ∧ 5 ≤ h.phase.num ∧ h.phase.num ≤ 9)) := by
      rintro (far | ⟨released, -⟩)
      · exact Nat.not_lt.2 near far
      · exact absurd (held.symm.trans released) (by decide)
    rw [popCycle_resumes calm, popped_near (ps := (s.atPop b q).params) (Nat.not_lt.2 near), resume_asks (Or.inr (show (h.addMoved (s.movedAway b)).chuckReleased = false from held))]
    have direct : (h.addMoved (s.movedAway b)).viaReEngage = false := by
      show (h.phase.reEngages && (h.chuckReleased || h.moved)) = false
      rw [held, still]
      exact Bool.and_false _
    generalize hy : ((s.atPop b q).boom b).cyclePopped (s.atPop b q).params sub h (s.movedAway b) = y
    have keeps := cyclePopped_keeps ((s.atPop b q).boom b) (s.atPop b q).params sub h (s.movedAway b)
    rw [hy] at keeps
    obtain ⟨g, answered⟩ := askFlow_answers (s := (s.atPop b q).setBoom b y) (b := b) (h := h.addMoved (s.movedAway b))
      (by rw [State.setBoom_boom, keeps.1, atPop_level]) quiet drive heard direct
    refine ⟨g, answered.asked, ?_⟩
    have current := answered.boom.sets.1
    rw [State.setBoom_boom, keeps.2.2.1, atPop_boom] at current
    rcases answered.hole with rfl | rfl <;> exact ⟨rfl, rfl, rfl, rfl, rfl, current⟩

/-- Any pop with nobody waiting for flow and the link not silent (R165, R166). -/
theorem popAuto_pops (quiet : s.flowQuiet) (heard : s.link.silent = false) :
    s.PoppedTo (s.popAuto b) b ∧ s.PopKeeps (s.popAuto b) b := by
  obtain ⟨q, eq⟩ := popAuto_written s b
  have eq : s.popAuto b = (s.atPop b q).popRequest b (s.movedAway b) := eq
  rw [eq]
  cases auto : (s.boom b).auto with
  | idle =>
    obtain ⟨pops, only, -⟩ := popRests_pops (q := q) quiet (Or.inl auto)
    exact ⟨pops, only.popKeeps⟩
  | cycle sub h =>
    obtain ⟨pops, only⟩ := popCycle_pops (q := q) quiet heard auto
    exact ⟨pops, only.popKeeps⟩
  | exception f h =>
    obtain ⟨pops, only⟩ := popException_pops (q := q) quiet auto
    exact ⟨pops, only.popKeeps⟩
  | abandoning sub h => exact popAbandoning_pops quiet auto
  | logWait r =>
    obtain ⟨pops, only, -⟩ := popRests_pops (q := q) quiet (Or.inr (Or.inl ⟨r, auto⟩))
    exact ⟨pops, only.popKeeps⟩
  | observing p =>
    obtain ⟨pops, only, -⟩ := popRests_pops (q := q) quiet (Or.inr (Or.inr ⟨p, auto⟩))
    exact ⟨pops, only.popKeeps⟩

end pop

end Sys2Proof.Machine
end

section
/-! SUPPORT. HANDBACK and RETRACT_CLEAR: their checks, and the pops they make (R158, R163 to R166). -/

namespace Sys2Proof.Machine

/-! ## A boom's flow and pops after what follows every event -/

section answered

variable {s u : State} {b : Slot}

theorem FlowAsked_answered {g : Hole} (asked : s.FlowAsked u b g) (kind tag : Byte) (payload : List Byte) :
    s.FlowAsked (u.noted.answered kind tag payload) b g := by
  unfold State.FlowAsked at asked ⊢
  rw [answered_boom, noted_boom, Boom.remember_auto, Boom.remember_feed, Boom.remember_rotation, answered_grant, noted_grant,
    answered_arbiter, noted_arbiter]
  exact asked

theorem State.PoppedTo.answered (pops : s.PoppedTo u b) (kind tag : Byte) (payload : List Byte) :
    s.PoppedTo (u.noted.answered kind tag payload) b := by
  have boom : (u.noted.answered kind tag payload).boom b = (u.boom b).remember (u.shownChuck b) := by rw [answered_boom, noted_boom]
  have grant : (u.noted.answered kind tag payload).grant b = u.grant b := by rw [answered_grant, noted_grant]
  constructor
  · rw [boom, Boom.remember_level]; exact pops.level
  · intro f h auto
    rw [boom, grant, Boom.remember_feed, Boom.remember_rotation, Boom.remember_chuck, Boom.remember_auto]
    exact pops.exception f h auto
  · intro r auto
    rw [boom, grant, Boom.remember_feed, Boom.remember_rotation, Boom.remember_chuck, Boom.remember_auto]
    exact pops.logWait r auto
  · intro sub h auto
    rw [boom, grant, Boom.remember_auto]
    exact pops.abandoning sub h auto
  · intro sub h auto
    rw [boom, grant, Boom.remember_auto, Boom.remember_accrued]
    exact pops.moved sub h auto
  · intro sub h auto near held still drive
    obtain ⟨g, asked, rest⟩ := pops.resumed sub h auto near held still drive
    refine ⟨g, FlowAsked_answered asked kind tag payload, ?_⟩
    rw [boom, Boom.remember_current]
    exact rest

theorem State.PopKeeps.answered (keeps : s.PopKeeps u b) (kind tag : Byte) (payload : List Byte) :
    State.SameStore s (u.noted.answered kind tag payload) ∧ (u.noted.answered kind tag payload).queues = s.queues ∧
      ((∀ sub h, (s.boom b).auto = .abandoning sub h → s.covers b s.retractFlow) →
        State.SameOthers s (u.noted.answered kind tag payload) b) := by
  refine ⟨answered_sameStore _ _ _ keeps.store, by rw [answered_queues, noted_queues, keeps.queues], fun within => ?_⟩
  obtain ⟨booms, grants, reserve⟩ := keeps.others within
  exact answered_sameOthers _ _ _ keeps.store booms grants reserve

end answered

/-- What a pop leads to and keeps does not look at the link of the part before it. -/
theorem popped_of_link {s t : State} {b : Slot} {l : Link} (pops : (s.withLink l).PoppedTo t b) (keeps : (s.withLink l).PopKeeps t b) :
    s.PoppedTo t b ∧ s.PopKeeps t b :=
  ⟨⟨pops.level, pops.exception, pops.logWait, pops.abandoning, pops.moved, pops.resumed⟩,
    ⟨(withLink_sameStore s l).trans keeps.store, keeps.queues, keeps.others⟩⟩

/-! ## A context that asks for nothing -/

theorem changeBoom_shows {s : State} {b : Slot} {x : Boom} (fits : s.fits b = true) (shown : x.view ≠ (s.boom b).view) :
    s.changeBoom b x = s.written b x s.arbiter (s.link.boomStatus.set b true) := by
  unfold State.changeBoom State.queueStatus
  rw [if_neg shown, if_pos (by exact fits)]
  rfl

/-- An idle boom's view shows its takeover (R20, R152). -/
theorem view_taken {x : Boom} (level : x.level = 1) (auto : x.auto = .idle) : x.popped.view ≠ x.view := by
  obtain ⟨retract, m, manual⟩ := level_one level
  have before : x.view.state = 6 := by unfold Boom.view; rw [retract, manual]
  have after : x.popped.view.state = x.auto.view.state := rfl
  rw [auto] at after
  intro same
  rw [same, before] at after
  exact absurd after (by decide)

/-- HANDBACK over an IDLE context (R165). -/
theorem popAuto_idle {s : State} {b : Slot} (fits : s.fits b = true) (quiet : s.flowQuiet) (level : (s.boom b).level = 1)
    (auto : (s.boom b).auto = .idle) :
    s.OnlyBoom (s.popAuto b) b ∧ (s.popAuto b).boom b = (s.boom b).popped ∧ (s.popAuto b).grant b = 0 ∧
      (s.popAuto b).link.boomStatus.get b = true := by
  have shows : s.changeBoom b (s.boom b).popped = s.atPop b (s.link.boomStatus.set b true) :=
    changeBoom_shows fits (view_taken level auto)
  have pops : s.popAuto b = (s.atPop b (s.link.boomStatus.set b true)).popRequest b (s.movedAway b) := by
    unfold State.popAuto
    dsimp only
    rw [shows]
    rfl
  obtain ⟨-, only, boom, grant⟩ := popRests_pops (q := s.link.boomStatus.set b true) quiet (Or.inl auto)
  have rests := popRequest_rests (s := s.atPop b (s.link.boomStatus.set b true)) (b := b) (d := s.movedAway b) quiet
    (by rw [atPop_auto]; exact Or.inl auto)
  rw [pops]
  refine ⟨only, boom, grant, ?_⟩
  rw [rests]
  exact four_get_set_self _ _ _

/-! ## The decisions -/

theorem reqHandback_refused {s : State} {boom : Byte} {b : Slot} (named : s.slotOf boom = some b) (level : (s.boom b).level ≠ 1) :
    reqHandback boom s = s.refuse .refusedState := by
  unfold reqHandback; rw [named]; dsimp only; rw [activeManual_none level]

theorem reqHandback_accepted {s : State} {boom : Byte} {b : Slot} (named : s.slotOf boom = some b) (quiet : s.flowQuiet)
    (level : (s.boom b).level = 1) : reqHandback boom s = (s.popAuto b).done := by
  obtain ⟨-, m, manual⟩ := level_one level
  unfold reqHandback
  rw [named]
  dsimp only
  rw [activeManual_of_level level manual, withdrawBoom_alone (waitsAlone_of_quiet quiet b), unwaited_of_nil quiet]

theorem handback_pops {s : State} {tag boom : Byte} {b : Slot} (ready : s.ready) (named : s.slotOf boom = some b)
    (requested : s.requested = none) (quiet : s.flowQuiet) (level : (s.boom b).level = 1) {l : Link} (same : s.heard = s.withLink l)
    (store : State.SameStore s ((s.withLink l).popAuto b)) :
    exec (.handback tag boom) s = .next (((s.withLink l).popAuto b).noted.answered 0x95 tag (le1 0)) :=
  request_plain (r := .handback boom) ready
    ((congrArg (reqHandback boom) same).trans (reqHandback_accepted (s := s.withLink l) named quiet level))
    (Or.inl (store.requested.trans requested))

/-- Settles O45: the checks fail one by one, and the takeover's pop leads where its level-0 context's own request does. -/
theorem handbackPopsTheTakeover : Obligations.HandbackPopsTheTakeover := by
  refine ⟨fun s tag boom ready settled unfitted => request_refused (r := .handback boom) ready settled
      (by simp only [handleRequest, reqHandback, heard_slotOf, unfitted]),
    fun s tag boom b ready named => ⟨fun settled level => request_refused (r := .handback boom) ready settled
      (reqHandback_refused (by rw [heard_slotOf, named]) (by rw [heard_boom]; exact level)),
      fun requested quiet level auto => ?_⟩,
    fun s tag boom b ready requested quiet named level => ?_⟩
  all_goals obtain ⟨l, same⟩ : ∃ l, s.heard = s.withLink l := heard_link s
  · obtain ⟨only, boom_eq, grant, shown⟩ := popAuto_idle (s := s.withLink l) (b := b) (fits_of_slotOf named) quiet level auto
    have only : s.OnlyBoom ((s.withLink l).popAuto b) b := by rw [← same] at only ⊢; exact only.of_heard
    have executed := handback_pops (tag := tag) ready named requested quiet level same only.store
    obtain ⟨readings, store, lists, others⟩ := only.answered 0x95 tag (le1 0)
    refine ⟨_, executed, answered_replies _ _ _ _, ?_, ?_, ?_, ?_, ?_, ?_, ?_, readings, store, lists, others⟩
    · rw [answered_boom, noted_boom, boom_eq, Boom.remember_level, popped_level]
    · rw [answered_boom, noted_boom, boom_eq, Boom.remember_auto]; exact auto
    · rw [answered_boom, noted_boom, boom_eq, Boom.remember_feed]; rfl
    · rw [answered_boom, noted_boom, boom_eq, Boom.remember_rotation]; rfl
    · rw [answered_boom, noted_boom, boom_eq, Boom.remember_chuck]; rfl
    · rw [answered_grant, noted_grant, grant]
    · rw [answered_boomStatus, noted_link, shown]
  · have silent : l.silent = false := by have := heard_silent s; rwa [same] at this
    obtain ⟨pops, keeps⟩ := popAuto_pops (s := s.withLink l) (b := b) quiet silent
    obtain ⟨pops, keeps⟩ := popped_of_link pops keeps
    obtain ⟨store, queues, others⟩ := keeps.answered 0x95 tag (le1 0)
    exact ⟨_, handback_pops ready named requested quiet level same keeps.store, answered_replies _ _ _ _, pops.answered _ _ _, store, queues,
      others⟩

end Sys2Proof.Machine
end

section
/-! SUPPORT. RETRACT_CLEAR: its checks, and the end of a retract over a takeover or over the level-0 context (R163 to R166). -/

namespace Sys2Proof.Machine

/-! ## The retract ends over a takeover -/

/-- The boom of a takeover that becomes active again as the retract over it ends (R164, R165). -/
def Boom.retractEnded (x : Boom) : Boom := { x.still with retract := none, chuck := x.chuckShown }

/-- A takeover's request, covered or not: the boom in MANUAL at rest, and nobody else's flow moved (R155). -/
theorem manualRequest_only {s : State} {b : Slot} (m : ManualCtx) (retract : (s.boom b).retract = none) (quiet : s.flowQuiet) :
    s.OnlyBoom (s.manualRequest b m) b ∧ ∃ sub, (s.manualRequest b m).boom b = (s.boom b).inManual m sub := by
  by_cases covered : s.covers b s.manualFlow
  · obtain ⟨a, q, eq, holds⟩ := manualRequest_ready (m := m) retract quiet covered
    rw [eq]
    exact ⟨written_onlyBoom (x := (s.boom b).inManual m .ready) holds ⟨rfl, rfl, rfl, rfl, rfl⟩ q, .ready, written_boom _ _ _ _ _⟩
  · obtain ⟨q, eq⟩ := manualRequest_waits (m := m) quiet covered
    rw [eq]
    have unmoved := written_unmoved (s := s) (x := (s.boom b).inManual m .waitFlow) ⟨rfl, rfl, rfl, rfl, rfl⟩ q
    have books := written_sameBooks s b ((s.boom b).inManual m .waitFlow)
      { s.arbiter with waitList := [newEntry s.clock (.boom b) .normal s.manualFlow] } q
    exact ⟨⟨books.store, books.lists, unmoved.booms, unmoved.grants, unmoved.reserve, unmoved.readings⟩, .waitFlow,
      written_boom _ _ _ _ _⟩

theorem popRetract_manual {s : State} {b : Slot} {m : ManualCtx} (manual : (s.boom b).manual = some m) (quiet : s.flowQuiet) :
    s.OnlyBoom (s.popRetract b) b ∧ ∃ sub, (s.popRetract b).boom b = (s.boom b).retractEnded.inManual m sub := by
  have ends : s.popRetract b = (s.changeBoom b (s.boom b).retractEnded).manualRequest b m := by
    unfold State.popRetract; rw [manual]; rfl
  obtain ⟨q, eq⟩ := changeBoom_written s b (s.boom b).retractEnded
  rw [ends, eq]
  have ended := written_unmoved (s := s) (x := (s.boom b).retractEnded) ⟨rfl, rfl, rfl, rfl, rfl⟩ q
  obtain ⟨only, sub, boom⟩ := manualRequest_only (s := s.written b (s.boom b).retractEnded s.arbiter q) (b := b) m
    (by rw [written_boom]; rfl) quiet
  rw [written_boom] at boom
  exact ⟨ended.trans only, sub, boom⟩

theorem popRetract_auto {s : State} {b : Slot} (manual : (s.boom b).manual = none) : s.popRetract b = s.popAuto b := by
  unfold State.popRetract; rw [manual]

theorem popAuto_rests {s : State} {b : Slot} (quiet : s.flowQuiet) (auto : (s.boom b).auto = .idle) :
    s.OnlyBoom (s.popAuto b) b ∧ (s.popAuto b).boom b = (s.boom b).popped ∧ (s.popAuto b).grant b = 0 := by
  obtain ⟨q, eq⟩ := popAuto_written s b
  obtain ⟨-, only, boom, grant⟩ := popRests_pops (q := q) quiet (Or.inl auto)
  rw [eq]
  exact ⟨only, boom, grant⟩

/-! ## The decisions -/

theorem retracted_false {x : Boom} (moving : ∀ r, x.retract = some r → r.sub ≠ .retracted) : x.retracted = false := by
  unfold Boom.retracted
  split
  · next r retract => exact decide_eq_false (moving r retract)
  · rfl

theorem retracted_true {x : Boom} {r : RetractCtx} (retract : x.retract = some r) (rests : r.sub = .retracted) :
    x.retracted = true := by
  unfold Boom.retracted; rw [retract]; exact decide_eq_true rests

theorem reqRetractClear_accepted {s : State} {boom : Byte} {b : Slot} {r : RetractCtx} (named : s.slotOf boom = some b)
    (retract : (s.boom b).retract = some r) (rests : r.sub = .retracted) (line : s.retractLine ≠ some true) :
    reqRetractClear boom s = (s.popRetract b).done := by
  have off : ¬ s.lineOn = true := by rw [lineOn_iff]; exact line
  unfold reqRetractClear
  rw [named]
  dsimp only
  rw [if_neg (by rw [retracted_true retract rests]; decide), if_neg off]

theorem retractClear_pops {s : State} {tag boom : Byte} {b : Slot} {r : RetractCtx} (ready : s.ready) (named : s.slotOf boom = some b)
    (requested : s.requested = none) (retract : (s.boom b).retract = some r) (rests : r.sub = .retracted)
    (line : s.retractLine ≠ some true) {l : Link} (same : s.heard = s.withLink l)
    (store : State.SameStore s ((s.withLink l).popRetract b)) :
    exec (.retractClear tag boom) s = .next (((s.withLink l).popRetract b).noted.answered 0x97 tag (le1 0)) :=
  request_plain (r := .retractClear boom) ready
    ((congrArg (reqRetractClear boom) same).trans (reqRetractClear_accepted (s := s.withLink l) named retract rests line))
    (Or.inl (store.requested.trans requested))

/-- Settles O48: the checks fail one by one, and the retract's end leads to the takeover below it or to the level-0 context. -/
theorem retractClearNeedsTheLine : Obligations.RetractClearNeedsTheLine := by
  refine ⟨fun s tag boom ready settled unfitted => request_refused (r := .retractClear boom) ready settled
      (by simp only [handleRequest, reqRetractClear, heard_slotOf, unfitted]),
    fun s tag boom b ready named => ⟨fun settled moving => request_refused (r := .retractClear boom) ready settled ?_,
      fun r retract rests => ⟨fun settled line => request_refused (r := .retractClear boom) ready settled ?_,
        fun line requested quiet => ⟨fun manual auto => ?_, fun m manual => ?_⟩⟩⟩,
    fun s tag boom b r ready requested quiet named retract rests manual line => ?_⟩
  · simp only [handleRequest, reqRetractClear, heard_slotOf, named, heard_boom, retracted_false moving, if_true]
  · simp only [handleRequest, reqRetractClear, heard_slotOf, named, heard_boom, retracted_true retract rests, heard_lineOn,
      (lineOn_iff s).2 line, if_true, Bool.true_eq_false, if_false]
  all_goals obtain ⟨l, same⟩ : ∃ l, s.heard = s.withLink l := heard_link s
  · obtain ⟨only, boom_eq, grant⟩ := popAuto_rests (s := s.withLink l) (b := b) quiet auto
    rw [← popRetract_auto (s := s.withLink l) manual] at only boom_eq grant
    have only : s.OnlyBoom ((s.withLink l).popRetract b) b := by rw [← same] at only ⊢; exact only.of_heard
    have executed := retractClear_pops (tag := tag) ready named requested retract rests line same only.store
    obtain ⟨readings, store, lists, others⟩ := only.answered 0x97 tag (le1 0)
    refine ⟨_, executed, answered_replies _ _ _ _, ?_, ?_, ?_, ?_, readings, store, lists, others⟩
    · rw [answered_boom, noted_boom, boom_eq, Boom.remember_level, popped_level]
    · rw [answered_boom, noted_boom, boom_eq, Boom.remember_auto]; exact auto
    · rw [answered_grant, noted_grant, grant]
    · rw [answered_boom, noted_boom, boom_eq, Boom.remember_chuck]; rfl
  · obtain ⟨only, sub, boom_eq⟩ := popRetract_manual (s := s.withLink l) (b := b) manual quiet
    have only : s.OnlyBoom ((s.withLink l).popRetract b) b := by rw [← same] at only ⊢; exact only.of_heard
    have executed := retractClear_pops (tag := tag) ready named requested retract rests line same only.store
    obtain ⟨readings, store, lists, others⟩ := only.answered 0x97 tag (le1 0)
    refine ⟨_, { m with sub := sub, hold := none }, executed, answered_replies _ _ _ _, ?_, ?_, rfl, ?_, ?_, ?_, readings, store,
      lists, others⟩
    all_goals rw [answered_boom, noted_boom, boom_eq]
    · rw [Boom.remember_level]
      exact level_of_manual (m := { m with sub := sub, hold := none }) rfl rfl
    · rw [Boom.remember_manual]; rfl
    · rw [Boom.remember_auto]; rfl
    · rw [Boom.remember_feed]; rfl
    · rw [Boom.remember_rotation]; rfl
  · have silent : l.silent = false := by have := heard_silent s; rwa [same] at this
    obtain ⟨pops, keeps⟩ := popAuto_pops (s := s.withLink l) (b := b) quiet silent
    obtain ⟨pops, keeps⟩ := popped_of_link pops keeps
    rw [← popRetract_auto (s := s.withLink l) manual] at pops keeps
    obtain ⟨store, queues, others⟩ := keeps.answered 0x97 tag (le1 0)
    exact ⟨_, retractClear_pops ready named requested retract rests line same keeps.store, answered_replies _ _ _ _,
      pops.answered _ _ _, store, queues, others⟩

end Sys2Proof.Machine
end

section
/-! SUPPORT. RESOLVE CONTINUE and SET_CARTRIDGES, with nobody waiting for flow and the boom free to move (R143 to R148). -/

namespace Sys2Proof.Machine

/-! ## A resolve that asks for its phase's flow -/

/-- A RESOLVE row whose accepted act asks for the flow of a hole `k` on the boom it has left as `y`. -/
theorem ResolveRow.lands {s u : State} {tag boom action : Byte} {v : Option Byte} {c : Instr} {b : Slot} {a : Action} {n : Nat}
    {f : ExFrame} {h k g : Hole} {y : Boom} {l : Link} (row : ResolveRow tag boom v action c) (ready : s.ready)
    (requested : s.requested = none) (named : s.slotOf boom = some b) (spelled : actionWith action v = some (a, n))
    (level : (s.boom b).level = 0) (auto : (s.boom b).auto = .exception f h) (same : s.heard = s.withLink l)
    (decided : resolveOn a n b f h (s.withLink l) = u.done) (readings : Boom.SameReadings (s.boom b) y)
    (answered : FlowAnswered ((s.withLink l).setBoom b y) u b k g) :
    exec c s = .next (u.noted.answered 0x90 tag (le1 0)) ∧ s.OnlyBoom u b ∧ s.FlowAsked u b g ∧ Boom.Moved y (u.boom b) := by
  obtain ⟨asked, only, moved⟩ := answered.of_setBoom (s := s.withLink l) readings
  have only : s.OnlyBoom u b := by rw [← same] at only; exact only.of_heard
  have decision : reqResolve boom action v s.heard = u.done := by
    rw [same]
    exact (reqResolve_on (s := s.withLink l) named spelled level auto).trans decided
  exact ⟨request_plain (r := .resolve boom action v) ready decision (Or.inl (only.store.requested.trans requested)) row.carries,
    only, asked, moved⟩

theorem enterPhase_setBoom_answers {s : State} {b : Slot} {y : Boom} {h : Hole} {p : Phase} (level : y.level = 0)
    (quiet : s.flowQuiet) (drive : s.drive = some true) (heard : s.link.silent = false)
    (direct : (h.enter p s.clock).viaReEngage = false) :
    ∃ g, FlowAnswered (s.setBoom b y.clearPhase) ((s.setBoom b y).enterPhase b h p) b (h.enter p s.clock) g := by
  obtain ⟨g, answered⟩ := enterPhase_answers (s := s.setBoom b y) (b := b) (h := h) (p := p) (by rw [State.setBoom_boom]; exact level)
    quiet drive heard direct
  rw [State.setBoom_boom, setBoom_setBoom] at answered
  exact ⟨g, answered⟩

theorem clearPhase_readings (x : Boom) : Boom.SameReadings x x.clearPhase := ⟨rfl, rfl, rfl, rfl, rfl⟩

/-! ## CONTINUE -/

/-- No test of R146 holds. -/
theorem causeStands_false {s : State} {b : Slot} {f : ExFrame} {h : Hole} (line : s.retractLine ≠ some true)
    (drive : s.drive = some true) (position : CondSet.has f.current .positionLost = true → (s.boom b).outNow.position = false)
    (bolt : ¬ ((h.phase = .inserting ∨ h.phase = .mixing) ∧ h.chuckReleased = true)) : s.causeStands b f h = false := by
  rw [← Bool.not_eq_true, causeStands_iff]
  rintro (on | ⟨-, off⟩ | ⟨lost, out⟩ | lost)
  · exact line ((lineOn_iff s).1 on)
  · exact absurd (((driveOn_iff s).2 drive).symm.trans off) (by decide)
  · exact absurd ((position lost).symm.trans out) (by decide)
  · exact bolt lost

theorem resolveContinueOn_goes {s : State} {b : Slot} {f : ExFrame} {h : Hole} (stands : s.causeStands b f h = false) :
    resolveOn .resume 0 b f h s = (s.continueFrame b f (h.noteResolve f.cause .resume)).done := by
  show resolveContinueOn b f h s = _
  unfold resolveContinueOn
  rw [stands]
  rfl

/-- A hole with its cartridge count set by a resolve (R148). -/
def Hole.replanned (h : Hole) (f : ExFrame) (n : Nat) : Hole := { h.noteResolve f.cause .setCartridges with planned := some n }

theorem resolveCartridgesOn_goes {s : State} {n : Nat} {b : Slot} {f : ExFrame} {h : Hole} (sets : f.setsCartridges = true)
    (low : 1 ≤ n) (high : n ≤ 6) (stands : s.causeStands b f h = false) :
    resolveOn .setCartridges n b f h s = (s.continueFrame b f (h.replanned f n)).done := by
  show resolveCartridgesOn n b f h s = _
  unfold resolveCartridgesOn
  rw [sets, stands, if_neg (by decide), if_neg (by omega)]
  rfl

theorem continueFrame_prePhase {s : State} {b : Slot} {f : ExFrame} {h : Hole} (kind : f.kind = .prePhase) :
    s.continueFrame b f h = (s.setBoom b ((s.boom b).clearPosted.gapTested h.phase)).enterPhase b h h.phase := by
  unfold State.continueFrame; rw [kind]; rfl

theorem continueFrame_mixShort {s : State} {b : Slot} {f : ExFrame} {h : Hole} (kind : f.kind = .inPhase) (cause : f.cause = .mixShort) :
    s.continueFrame b f h = s.enterPhase b { h with mixEnd := some f.time } .holding := by
  unfold State.continueFrame; rw [kind]; exact if_pos cause

theorem continueFrame_inPhase {s : State} {b : Slot} {f : ExFrame} {h : Hole} (kind : f.kind = .inPhase) (cause : f.cause ≠ .mixShort) :
    s.continueFrame b f h = (s.setBoom b ((s.boom b).gapTested h.phase)).resume b h := by
  unfold State.continueFrame; rw [kind]; exact if_neg cause

theorem gapTested_fields (x : Boom) (p : Phase) :
    (x.gapTested p).level = x.level ∧ (x.gapTested p).current = x.current ∧ (x.gapTested p).posted = x.posted ∧
      (x.gapTested p).accrued = x.accrued ∧ (x.gapTested p).seen = x.seen ∧ (x.gapTested p).depth = x.depth ∧
      Boom.SameReadings x (x.gapTested p) := by
  rw [gapTested_keeps]; exact ⟨rfl, rfl, rfl, rfl, rfl, rfl, ⟨rfl, rfl, rfl, rfl, rfl⟩⟩

theorem gapTested_profile (x : Boom) (p : Phase) :
    (x.gapTested p).profile = if p = .collaring ∨ p = .drilling then x.profile.gapTest x.depth else x.profile := by
  unfold Boom.gapTested
  cases p <;> simp [Phase.drills]

/-- A phase entered by CONTINUE of a PRE_PHASE frame, or resumed by CONTINUE of another, goes straight to its own flow. -/
theorem enter_unflagged {h : Hole} (held : h.chuckReleased = false) (still : h.moved = false) (p : Phase) (now : Tick) :
    (h.enter p now).viaReEngage = false := by
  have flags : (h.enter p now).chuckReleased = false ∧ (h.enter p now).moved = false := by
    cases p with
    | releasing => exact ⟨rfl, still⟩
    | _ => exact ⟨held, still⟩
  unfold Hole.viaReEngage
  rw [flags.1, flags.2]
  exact Bool.and_false _

/-- The counts of a hole that no phase entry and no start changes (R27). -/
structure Hole.SameCounts (h g : Hole) : Prop where
  plan : g.plan = h.plan
  planned : g.planned = h.planned
  computed : g.computed = h.computed
  resolveCount : g.resolveCount = h.resolveCount
  resolves : g.resolves = h.resolves
  mixEnd : g.mixEnd = h.mixEnd

theorem started_counts {k g : Hole} {depth : Nat} (hole : g = k.startMotion depth ∨ g = { k with torqueRun := [] }) :
    Hole.SameCounts k g ∧ g.phase = k.phase := by
  rcases hole with rfl | rfl <;> exact ⟨⟨rfl, rfl, rfl, rfl, rfl, rfl⟩, rfl⟩

theorem enter_counts (h : Hole) (p : Phase) (now : Tick) : Hole.SameCounts h (h.enter p now) := by
  cases p <;> exact ⟨rfl, rfl, rfl, rfl, rfl, rfl⟩

theorem Hole.SameCounts.trans {h k g : Hole} (one : Hole.SameCounts h k) (two : Hole.SameCounts k g) : Hole.SameCounts h g :=
  ⟨two.plan.trans one.plan, two.planned.trans one.planned, two.computed.trans one.computed,
    two.resolveCount.trans one.resolveCount, two.resolves.trans one.resolves, two.mixEnd.trans one.mixEnd⟩

/-- The resumed hole keeps its phase's progress (R31, R145). -/
structure Hole.SameProgress (h g : Hole) : Prop where
  loaded : g.loaded = h.loaded
  indexDone : g.indexDone = h.indexDone
  mixSum : g.mixSum = h.mixSum
  mixStart : g.mixStart = h.mixStart
  resinStart : g.resinStart = h.resinStart
  torqueStart : g.torqueStart = h.torqueStart
  peak : g.peak = h.peak

theorem started_progress {k g : Hole} {depth : Nat} (hole : g = k.startMotion depth ∨ g = { k with torqueRun := [] }) :
    Hole.SameProgress k g := by
  rcases hole with rfl | rfl <;> exact ⟨rfl, rfl, rfl, rfl, rfl, rfl, rfl⟩

/-! ## Where CONTINUE and SET_CARTRIDGES lead -/

section lead

variable {s : State} {tag boom action : Byte} {v : Option Byte} {c : Instr} {b : Slot} {a : Action} {n : Nat} {f : ExFrame} {h : Hole}

/-- The boom an accepted CONTINUE or SET_CARTRIDGES of a PRE_PHASE frame leaves to the phase's entry (R144). -/
def Boom.continued (x : Boom) (p : Phase) : Boom := (x.clearPosted.gapTested p).clearPhase

/-- An accepted CONTINUE or SET_CARTRIDGES of a PRE_PHASE frame, its hole counted as `k`, enters its phase (R144, R148). -/
theorem ResolveRow.enters {k : Hole} (row : ResolveRow tag boom v action c) (ready : s.ready) (requested : s.requested = none)
    (quiet : s.flowQuiet) (named : s.slotOf boom = some b) (spelled : actionWith action v = some (a, n))
    (level : (s.boom b).level = 0) (auto : (s.boom b).auto = .exception f h) (drive : s.drive = some true) (kind : f.kind = .prePhase)
    (decided : ∀ l, resolveOn a n b f h (s.withLink l) = ((s.withLink l).continueFrame b f k).done)
    (direct : (k.enter k.phase s.clock).viaReEngage = false) :
    ∃ u g, exec c s = .next (u.noted.answered 0x90 tag (le1 0)) ∧ s.OnlyBoom u b ∧ s.FlowAsked u b g ∧
      Boom.Moved ((s.boom b).continued k.phase) (u.boom b) ∧ Hole.SameCounts k g ∧ g.phase = k.phase := by
  obtain ⟨l, same⟩ : ∃ l, s.heard = s.withLink l := heard_link s
  have silent : l.silent = false := by have := heard_silent s; rwa [same] at this
  obtain ⟨-, current, posted, -, -, -, readings⟩ := gapTested_fields (s.boom b).clearPosted k.phase
  have level' : ((s.boom b).clearPosted.gapTested k.phase).level = 0 :=
    (gapTested_fields (s.boom b).clearPosted k.phase).1.trans level
  obtain ⟨g, answered⟩ := enterPhase_setBoom_answers (s := s.withLink l) (b := b) (h := k) (p := k.phase) level' quiet drive silent direct
  have readings : Boom.SameReadings (s.boom b) ((s.boom b).continued k.phase) :=
    ⟨readings.raw, readings.lastGood, readings.inForce, readings.posLoss, readings.enabled⟩
  obtain ⟨counts, phase⟩ := started_counts answered.hole
  have goes := (decided l).trans (congrArg State.done (continueFrame_prePhase kind))
  obtain ⟨executed, only, asked, moved⟩ := row.lands ready requested named spelled level auto same goes readings answered
  exact ⟨_, g, executed, only, asked, moved, (enter_counts k k.phase s.clock).trans counts, phase.trans (enter_phase _ _ _)⟩

/-- CONTINUE of MIX_SHORT ends MIXING at the frame's time and enters HOLDING (R98). -/
theorem continueMixShort_enters (ready : s.ready) (requested : s.requested = none) (quiet : s.flowQuiet)
    (named : s.slotOf boom = some b) (level : (s.boom b).level = 0) (auto : (s.boom b).auto = .exception f h)
    (drive : s.drive = some true) (kind : f.kind = .inPhase) (cause : f.cause = .mixShort)
    (held : h.chuckReleased = false) (still : h.moved = false)
    (decided : ∀ l, resolveOn .resume 0 b f h (s.withLink l) =
      ((s.withLink l).continueFrame b f (h.noteResolve f.cause .resume)).done) :
    ∃ u g, exec (.resolveContinue tag boom none) s = .next (u.noted.answered 0x90 tag (le1 0)) ∧ s.OnlyBoom u b ∧ s.FlowAsked u b g ∧
      Boom.Moved (s.boom b).clearPhase (u.boom b) ∧
      Hole.SameCounts { h.noteResolve f.cause .resume with mixEnd := some f.time } g ∧ g.phase = .holding := by
  obtain ⟨l, same⟩ : ∃ l, s.heard = s.withLink l := heard_link s
  have silent : l.silent = false := by have := heard_silent s; rwa [same] at this
  generalize hk : ({ h.noteResolve f.cause .resume with mixEnd := some f.time } : Hole) = k
  have direct : (k.enter .holding s.clock).viaReEngage = false := by
    rw [← hk]; exact enter_unflagged held still .holding s.clock
  obtain ⟨g, answered⟩ := enterPhase_answers (s := s.withLink l) (b := b) (h := k) (p := .holding) level quiet drive silent direct
  obtain ⟨counts, phase⟩ := started_counts answered.hole
  have goes := (decided l).trans (congrArg State.done (continueFrame_mixShort kind cause))
  rw [hk] at goes
  obtain ⟨executed, only, asked, moved⟩ :=
    (ResolveRow.resume (tag := tag) (boom := boom) (v := none)).lands ready requested named rfl level auto same goes (clearPhase_readings _) answered
  exact ⟨_, g, executed, only, asked, moved, (enter_counts k .holding s.clock).trans counts, phase⟩

/-- CONTINUE of any other IN_PHASE frame resumes its phase with its progress (R145). -/
theorem continuePhase_resumes (ready : s.ready) (requested : s.requested = none) (quiet : s.flowQuiet)
    (named : s.slotOf boom = some b) (level : (s.boom b).level = 0) (auto : (s.boom b).auto = .exception f h)
    (drive : s.drive = some true) (kind : f.kind = .inPhase) (cause : f.cause ≠ .mixShort)
    (held : h.chuckReleased = false) (still : h.moved = false)
    (decided : ∀ l, resolveOn .resume 0 b f h (s.withLink l) =
      ((s.withLink l).continueFrame b f (h.noteResolve f.cause .resume)).done) :
    ∃ u g, exec (.resolveContinue tag boom none) s = .next (u.noted.answered 0x90 tag (le1 0)) ∧ s.OnlyBoom u b ∧ s.FlowAsked u b g ∧
      Boom.Moved ((s.boom b).gapTested h.phase) (u.boom b) ∧
      Hole.SameCounts (h.noteResolve f.cause .resume) g ∧ Hole.SameProgress h g ∧ g.phase = h.phase := by
  obtain ⟨l, same⟩ : ∃ l, s.heard = s.withLink l := heard_link s
  have silent : l.silent = false := by have := heard_silent s; rwa [same] at this
  generalize hk : h.noteResolve f.cause .resume = k at decided
  have direct : k.viaReEngage = false := by
    rw [← hk]
    show (h.phase.reEngages && (h.chuckReleased || h.moved)) = false
    rw [held, still]
    exact Bool.and_false _
  have kept : k.chuckReleased = false := by rw [← hk]; exact held
  have phased : k.phase = h.phase := by rw [← hk]; rfl
  have progress : Hole.SameProgress h k := by rw [← hk]; exact ⟨rfl, rfl, rfl, rfl, rfl, rfl, rfl⟩
  obtain ⟨level', -, -, -, -, -, readings⟩ := gapTested_fields (s.boom b) k.phase
  obtain ⟨g, answered⟩ := askFlow_answers (s := (s.withLink l).setBoom b ((s.boom b).gapTested k.phase)) (b := b) (h := k)
    (by rw [State.setBoom_boom, level', level]) quiet drive silent direct
  obtain ⟨counts, phase⟩ := started_counts answered.hole
  have started := started_progress answered.hole
  have goes := (decided l).trans (congrArg State.done ((continueFrame_inPhase kind cause).trans (resume_asks (Or.inr kept))))
  obtain ⟨executed, only, asked, moved⟩ :=
    (ResolveRow.resume (tag := tag) (boom := boom) (v := none)).lands ready requested named rfl level auto same goes readings answered
  exact ⟨_, g, executed, only, asked, by rw [← phased]; exact moved, counts,
    ⟨started.loaded.trans progress.loaded, started.indexDone.trans progress.indexDone, started.mixSum.trans progress.mixSum,
      started.mixStart.trans progress.mixStart, started.resinStart.trans progress.resinStart,
      started.torqueStart.trans progress.torqueStart, started.peak.trans progress.peak⟩, phase.trans phased⟩

end lead

/-! ## The obligation -/

theorem continued_fields (x : Boom) (p : Phase) :
    (x.continued p).current = 0 ∧ (x.continued p).posted = 0 ∧ (x.continued p).accrued = x.accrued ∧
      (x.continued p).seen = Quad.fill false ∧
      (x.continued p).profile = if p = .collaring ∨ p = .drilling then x.profile.gapTest x.depth else x.profile := by
  obtain ⟨-, -, posted, accrued, -, -, -⟩ := gapTested_fields x.clearPosted p
  exact ⟨rfl, posted, accrued, rfl, gapTested_profile x.clearPosted p⟩

theorem noteResolve_list {h : Hole} (room : h.resolves.length < 6) (cause : Cond) (a : Action) :
    (h.noteResolve cause a).resolves = h.resolves ++ [(cause, a)] := if_pos room

/-- CONTINUE and SET_CARTRIDGES into RETRACT_DRILL (R144, R148). -/
theorem resolve_entersRetract {s : State} {tag boom : Byte} {b : Slot} {f : ExFrame} {h : Hole} (ready : s.ready)
    (requested : s.requested = none) (quiet : s.flowQuiet) (named : s.slotOf boom = some b) (level : (s.boom b).level = 0)
    (auto : (s.boom b).auto = .exception f h) (kind : f.kind = .prePhase) (phase : h.phase = .retractDrill)
    (line : s.retractLine ≠ some true) (drive : s.drive = some true)
    (position : CondSet.has f.current .positionLost = true → (s.boom b).outNow.position = false) {c : Instr} {a : Action}
    {planned : Option Nat}
    (row : (c = .resolveContinue tag boom none ∧ a = .resume ∧ planned = h.planned) ∨
      (∃ n : Byte, c = .resolveSetCartridges tag boom (some n) ∧ a = .setCartridges ∧ planned = some n.toNat ∧
        1 ≤ n.toNat ∧ n.toNat ≤ 6 ∧ (CondSet.has f.posted .poorAnchor = true ∨ CondSet.has f.posted .shortResin = true))) :
    ∃ u g, exec c s = .next (u.noted.answered 0x90 tag (le1 0)) ∧ s.OnlyBoom u b ∧ s.FlowAsked u b g ∧
      Boom.Moved ((s.boom b).continued .retractDrill) (u.boom b) ∧
      Hole.SameCounts { h.noteResolve f.cause a with planned := planned } g ∧ g.phase = .retractDrill := by
  have stands : ∀ l, (s.withLink l).causeStands b f h = false := fun l =>
    causeStands_false (s := s.withLink l) line drive position (by rw [phase]; rintro ⟨other | other, -⟩ <;> cases other)
  have direct : ∀ k : Hole, k.phase = .retractDrill → (k.enter k.phase s.clock).viaReEngage = false := fun k same =>
    enter_direct (by rw [same]; rfl) k s.clock
  rcases row with ⟨rfl, rfl, rfl⟩ | ⟨n, rfl, rfl, rfl, low, high, sets⟩
  · obtain ⟨u, g, executed, only, asked, moved, counts, same⟩ := (ResolveRow.resume (tag := tag) (boom := boom) (v := none)).enters
      (k := h.noteResolve f.cause .resume) ready requested quiet named rfl level auto drive kind
      (fun l => resolveContinueOn_goes (stands l)) (direct _ phase)
    rw [show (h.noteResolve f.cause .resume).phase = .retractDrill from phase] at moved
    exact ⟨u, g, executed, only, asked, moved,
      ⟨counts.plan, counts.planned, counts.computed, counts.resolveCount, counts.resolves, counts.mixEnd⟩, same.trans phase⟩
  · obtain ⟨u, g, executed, only, asked, moved, counts, same⟩ :=
      (ResolveRow.setCartridges (tag := tag) (boom := boom) (v := some n)).enters (k := h.replanned f n.toNat) ready requested quiet
        named rfl level auto drive kind (fun l => resolveCartridgesOn_goes ((setsCartridges_iff f).2 ⟨kind, sets⟩) low high (stands l))
        (direct _ phase)
    rw [show (h.replanned f n.toNat).phase = .retractDrill from phase] at moved
    exact ⟨u, g, executed, only, asked, moved, counts, same.trans phase⟩

/-- Settles O41: an accepted CONTINUE or SET_CARTRIDGES asks for the flow of the phase it enters or resumes. -/
theorem resolveEntersTheNextPhase : Obligations.ResolveEntersTheNextPhase := by
  refine ⟨fun s tag boom b f h ready requested quiet named level auto kind phase room line drive position covered c a planned row => ?_,
    fun s tag boom b f h ready requested quiet named level auto line drive position held still room => ?_⟩
  · obtain ⟨u, g, executed, only, asked, moved, counts, same⟩ :=
      resolve_entersRetract ready requested quiet named level auto kind phase line drive position row
    obtain ⟨current, posted, accrued, -, profile⟩ := continued_fields (s.boom b) .retractDrill
    have demand : s.demandOf g.phase = min s.params.demandRetractDrill s.params.pumpCapacity := by rw [same]; rfl
    obtain ⟨active, grant, -⟩ := asked.1 (by rw [demand]; exact covered)
    obtain ⟨readings, store, lists, others⟩ := only.answered 0x90 tag (le1 0)
    refine ⟨_, g, executed, answered_replies _ _ _ _, ?_, same, counts.planned, counts.computed, counts.resolveCount,
      counts.resolves.trans (noteResolve_list room _ _), counts.plan, ?_, ?_, ?_, ?_, ?_, readings, store, lists, others⟩
    · rw [answered_boom, noted_boom, Boom.remember_auto, active]
    · rw [answered_boom, noted_boom, Boom.remember_current, moved.sets.1, current]
    · rw [answered_boom, noted_boom, Boom.remember_posted, moved.sets.2.1, posted]
    · rw [answered_boom, noted_boom, Boom.remember_accrued, moved.sets.2.2.1, accrued]
    · rw [answered_boom, noted_boom, Boom.remember_profile, moved.profile, profile]; rfl
    · rw [answered_grant, noted_grant, grant, demand]
  · have stands : ∀ l, (s.withLink l).causeStands b f h = false := fun l =>
      causeStands_false (s := s.withLink l) line drive position (by rintro ⟨-, lost⟩; exact absurd (held.symm.trans lost) (by decide))
    have decided := fun l => resolveContinueOn_goes (stands l)
    have listed := noteResolve_list room f.cause .resume
    cases kind : f.kind with
    | prePhase =>
      obtain ⟨u, g, executed, only, asked, moved, counts, same⟩ :=
        (ResolveRow.resume (tag := tag) (boom := boom) (v := none)).enters ready requested quiet named rfl level auto drive kind decided
          (enter_unflagged (h := h.noteResolve f.cause .resume) held still _ _)
      obtain ⟨current, posted, accrued, seen, profile⟩ := continued_fields (s.boom b) h.phase
      obtain ⟨readings, store, lists, others⟩ := only.answered 0x90 tag (le1 0)
      have boom_eq : ((u.noted.answered 0x90 tag (le1 0)).boom b) = (u.boom b).remember (u.shownChuck b) := by rw [answered_boom, noted_boom]
      refine ⟨_, g, executed, answered_replies _ _ _ _, counts.plan, counts.planned, counts.resolveCount, counts.resolves.trans listed,
        ?_, FlowAsked_answered asked _ _ _, fun _ => ⟨same, ?_, ?_, ?_⟩, nofun, nofun, ?_, readings, store, lists, others⟩
      all_goals rw [boom_eq]
      · rw [Boom.remember_accrued, moved.sets.2.2.1]; exact accrued
      · rw [Boom.remember_current, moved.sets.1]; exact current
      · rw [Boom.remember_seen, moved.sets.2.2.2.1]; exact seen
      · rw [Boom.remember_posted, moved.sets.2.1]; exact posted
      · rw [Boom.remember_profile, moved.profile]
        exact profile.trans (if_congr ⟨fun p => ⟨Or.inl rfl, p⟩, fun p => p.2⟩ rfl rfl)
    | inPhase =>
      by_cases cause : f.cause = .mixShort
      · obtain ⟨u, g, executed, only, asked, moved, counts, same⟩ :=
          continueMixShort_enters (tag := tag) ready requested quiet named level auto drive kind cause held still decided
        obtain ⟨readings, store, lists, others⟩ := only.answered 0x90 tag (le1 0)
        have boom_eq : ((u.noted.answered 0x90 tag (le1 0)).boom b) = (u.boom b).remember (u.shownChuck b) := by rw [answered_boom, noted_boom]
        refine ⟨_, g, executed, answered_replies _ _ _ _, counts.plan, counts.planned, counts.resolveCount, counts.resolves.trans listed,
          ?_, FlowAsked_answered asked _ _ _, nofun, fun _ _ => ⟨same, counts.mixEnd, ?_, ?_⟩, fun _ other => absurd cause other, ?_,
          readings, store, lists, others⟩
        all_goals rw [boom_eq]
        · rw [Boom.remember_accrued, moved.sets.2.2.1]; rfl
        · rw [Boom.remember_current, moved.sets.1]; rfl
        · rw [Boom.remember_posted, moved.sets.2.1]; rfl
        · rw [Boom.remember_profile, moved.profile, if_neg]
          · rfl
          · rintro ⟨pre | other, -⟩
            · cases pre
            · exact other cause
      · obtain ⟨u, g, executed, only, asked, moved, counts, progress, same⟩ :=
          continuePhase_resumes (tag := tag) ready requested quiet named level auto drive kind cause held still decided
        obtain ⟨-, current, posted, accrued, seen, -, -⟩ := gapTested_fields (s.boom b) h.phase
        obtain ⟨readings, store, lists, others⟩ := only.answered 0x90 tag (le1 0)
        have boom_eq : ((u.noted.answered 0x90 tag (le1 0)).boom b) = (u.boom b).remember (u.shownChuck b) := by rw [answered_boom, noted_boom]
        refine ⟨_, g, executed, answered_replies _ _ _ _, counts.plan, counts.planned, counts.resolveCount, counts.resolves.trans listed,
          ?_, FlowAsked_answered asked _ _ _, nofun, fun _ short => absurd short cause, fun _ _ => ⟨same, progress.loaded,
          progress.indexDone, progress.mixSum, progress.mixStart, progress.resinStart, progress.torqueStart, progress.peak,
          counts.mixEnd, ?_, ?_, ?_⟩, ?_, readings, store, lists, others⟩
        all_goals rw [boom_eq]
        · rw [Boom.remember_accrued, moved.sets.2.2.1, accrued]
        · rw [Boom.remember_current, moved.sets.1, current]
        · rw [Boom.remember_seen, moved.sets.2.2.2.1, seen]
        · rw [Boom.remember_posted, moved.sets.2.1, posted]
        · rw [Boom.remember_profile, moved.profile, gapTested_profile]
          exact if_congr ⟨fun p => ⟨Or.inr cause, p⟩, fun p => p.2⟩ rfl rfl

end Sys2Proof.Machine
end

section
/-! SUPPORT. RESOLVE RETRY, with nobody waiting for flow and the boom free to move (R96, R97, R105, R106, R147), and RE_ENGAGE
entered with its flow (R32). -/

namespace Sys2Proof.Machine

/-! ## RE_ENGAGE entered -/

/-- A boom that may move goes through RE_ENGAGE (R28, R32). -/
theorem startCycle_engages {s : State} {b : Slot} {h : Hole} {now : Bool} (drive : s.drive = some true)
    (heard : s.link.silent = false) (via : h.viaReEngage = true) :
    ∃ q x, s.startCycle b h now = s.written b x s.arbiter q ∧ x.auto = .cycle .reEngage { h with torqueRun := [] } ∧
      x.chuck = .closed ∧ x.rotation = 0 ∧ (now = true → x.feed = h.plan.recipe.insertFeed) ∧ Boom.Moved (s.boom b) x := by
  have faultless : s.startFaults = [] := by simp [State.startFaults, State.driveOn, drive, heard]
  have goes : s.stopCause b [] = none := by simp [State.stopCause, stoppingCause]
  rw [State.startCycle, faultless, goes]
  dsimp only [State.moveOff]
  rw [if_pos via]
  obtain ⟨q, eq⟩ := changeBoom_written s b { s.boom b with
    auto := .cycle .reEngage { h with torqueRun := [] }, chuck := .closed
    feed := if now then (h.plan.recipe.insertFeed : Int) else 0, rotation := 0 }
  exact ⟨q, _, eq, rfl, rfl, rfl, fun yes => by rw [yes]; rfl, ⟨rfl, rfl, rfl, rfl, rfl⟩, ⟨rfl, rfl, rfl, rfl, rfl⟩, rfl,
    ⟨rfl, rfl, rfl, rfl, rfl⟩, id⟩

/-- What RE_ENGAGE is entered with when its flow is covered (R32). -/
structure EngageAnswered (s t : State) (b : Slot) (h : Hole) : Prop where
  context : (t.boom b).auto = .cycle .reEngage { h with torqueRun := [] }
  chuck : (t.boom b).chuck = .closed
  rotation : (t.boom b).rotation = 0
  feed : s.demandOf .inserting ≤ s.grant b → (t.boom b).feed = h.plan.recipe.insertFeed
  grant : t.grant b = s.demandOf .inserting
  only : s.OnlyBoom t b
  moved : Boom.Moved (s.boom b) (t.boom b)

theorem askFlow_engages {s : State} {b : Slot} {h : Hole} (level : (s.boom b).level = 0) (quiet : s.flowQuiet)
    (drive : s.drive = some true) (heard : s.link.silent = false) (via : h.viaReEngage = true)
    (covered : s.covers b (s.demandOf .inserting)) : EngageAnswered s (s.askFlow b h) b h := by
  have asked : s.askedFlow h = s.demandOf .inserting := by unfold State.askedFlow; rw [via]; rfl
  unfold State.askFlow
  rw [asked]
  split
  next held =>
    obtain ⟨q, x, eq, auto, chuck, rotation, feed, moved⟩ :=
      startCycle_engages (s := s.reduceBoom b (s.demandOf .inserting)) (b := b) (now := true) drive heard via
    have holds := reduceBoom_holds (waitsAlone_of_quiet quiet b) (s.demandOf .inserting)
    rw [Nat.min_eq_left held] at holds
    rw [eq, evaluate_nil (by exact holds.nobody)]
    have only : s.OnlyBoom (s.written b x (s.reduceBoom b (s.demandOf .inserting)).arbiter q) b :=
      written_onlyBoom holds moved.readings q
    have boom : (s.written b x (s.reduceBoom b (s.demandOf .inserting)).arbiter q).boom b = x := written_boom _ _ _ _ _
    refine ⟨?_, ?_, ?_, fun _ => ?_, holds.given, only, ?_⟩
    · exact (congrArg Boom.auto boom).trans auto
    · exact (congrArg Boom.chuck boom).trans chuck
    · exact (congrArg Boom.rotation boom).trans rotation
    · exact (congrArg Boom.feed boom).trans (feed rfl)
    · exact boom.symm ▸ moved
  next short =>
    have fit := covered.resolve_left short
    have waits : s.waitForFlow b h =
        s.changeBoom b { (s.boom b).still.cancelLoader with auto := .cycle .waitFlow { h with torqueRun := [] } } := rfl
    rw [waits]
    obtain ⟨y, hy⟩ : ∃ y, y = { (s.boom b).still.cancelLoader with auto := .cycle .waitFlow { h with torqueRun := [] } } := ⟨_, rfl⟩
    obtain ⟨p, eq⟩ := changeBoom_written s b y
    rw [← hy, eq]
    have told := tell_waiting_cycle (s := s.written b y (s.arbiter.grantedTo b (s.demandOf .inserting)) p) (b := b)
      (h := { h with torqueRun := [] }) (by rw [written_boom, hy]; exact level) (by rw [written_boom, hy]) false
    obtain ⟨q, x, eq', auto, chuck, rotation, -, moved⟩ :=
      startCycle_engages (s := s.written b y (s.arbiter.grantedTo b (s.demandOf .inserting)) p) (b := b)
        (h := { h with torqueRun := [] }) (now := false) drive heard via
    rw [written_written, written_arbiter] at eq'
    rw [topUpBoom_granted (s := s.written b y s.arbiter p) quiet fit (told.trans eq') rfl]
    rw [written_boom] at moved
    have moved : Boom.Moved (s.boom b) x := by
      obtain ⟨readings, sets, profile, contexts, loader⟩ := moved
      rw [hy] at readings sets profile contexts loader
      exact ⟨⟨readings.1, readings.2, readings.3, readings.4, readings.5⟩, sets, profile, contexts, fun _ => loader rfl⟩
    refine ⟨?_, ?_, ?_, fun held => absurd held short, (grantedTo_holds _ _ _).given, written_onlyBoom (grantedTo_holds _ _ _) moved.readings q, ?_⟩
    all_goals rw [written_boom]
    · exact auto
    · exact chuck
    · exact rotation
    · exact moved

/-! ## RETRY -/

theorem resolveRetryOn_goes {s : State} {b : Slot} {f : ExFrame} {h : Hole} {k : RetryKind} (kind : f.retryKind = some k)
    (early : h.retryTooLate s.clock k = false) (line : s.retractLine ≠ some true) (bolt : h.boltLost = false) :
    resolveOn .retry 0 b f h s = (s.retryFrame b (h.noteResolve f.cause .retry) k).done := by
  have off : s.lineOn = false := by rw [← Bool.not_eq_true, lineOn_iff]; exact line
  show resolveRetryOn b f h s = _
  unfold resolveRetryOn
  rw [kind]
  dsimp only
  rw [early, off, bolt]
  rfl

theorem resolveRetryOn_late {s : State} {b : Slot} {f : ExFrame} {h : Hole} {k : RetryKind} (kind : f.retryKind = some k)
    (late : h.retryTooLate s.clock k = true) : resolveOn .retry 0 b f h s = s.refuse .tooLate := by
  show resolveRetryOn b f h s = _
  unfold resolveRetryOn
  rw [kind]
  exact if_pos late

theorem boltLost_false {h : Hole} (kept : ¬ ((h.phase = .inserting ∨ h.phase = .mixing) ∧ h.chuckReleased = true)) :
    h.boltLost = false := by
  rw [← Bool.not_eq_true, boltLost_iff]; exact kept

section retry

variable {s : State} {tag boom : Byte} {b : Slot} {f : ExFrame} {h : Hole}

theorem retry_late {k : RetryKind} (ready : s.ready) (requested : s.requested = none) (named : s.slotOf boom = some b)
    (level : (s.boom b).level = 0) (auto : (s.boom b).auto = .exception f h) (kind : f.retryKind = some k)
    (late : h.retryTooLate s.clock k = true) :
    exec (.resolveRetry tag boom none) s = .next (s.refused 0x90 tag .tooLate) := by
  obtain ⟨l, same⟩ : ∃ l, s.heard = s.withLink l := heard_link s
  exact (ResolveRow.retry (tag := tag) (boom := boom) (v := none)).on ready (Or.inl requested) named rfl level auto
    (by rw [same]; exact resolveRetryOn_late kind late)

/-- The hole of a retorque: counted, and TORQUING entered anew (R105). -/
def Hole.retorqued (h : Hole) (f : ExFrame) (now : Tick) : Hole :=
  ({ h.noteResolve f.cause .retry with retorques := h.retorques + 1 } : Hole).enter .torquing now

/-- The boom of a retorque, its posted and current sets emptied (R27, R105, R132). -/
def Boom.retorqued (x : Boom) : Boom := x.clearPosted.clearPhase

theorem retryFrame_retorque (s : State) (b : Slot) (f : ExFrame) (h : Hole) :
    s.retryFrame b (h.noteResolve f.cause .retry) .retorque =
      (s.setBoom b (s.boom b).retorqued).askFlow b (h.retorqued f s.clock) := by
  show (s.setBoom b (s.boom b).clearPosted).enterPhase b _ .torquing = _
  unfold State.enterPhase
  rw [State.setBoom_boom, setBoom_setBoom]
  rfl

/-- A retorque of an unflagged hole asks for TORQUING's flow (R105). -/
theorem retorque_asks (ready : s.ready) (requested : s.requested = none) (quiet : s.flowQuiet) (named : s.slotOf boom = some b)
    (level : (s.boom b).level = 0) (auto : (s.boom b).auto = .exception f h) (held : h.chuckReleased = false)
    (still : h.moved = false) (line : s.retractLine ≠ some true) (drive : s.drive = some true) (kind : f.kind = .prePhase)
    (posted : CondSet.has f.posted .underTension = true) (early : h.retorques < 2) :
    ∃ u g, exec (.resolveRetry tag boom none) s = .next (u.noted.answered 0x90 tag (le1 0)) ∧ s.OnlyBoom u b ∧ s.FlowAsked u b g ∧
      Boom.Moved (s.boom b).retorqued (u.boom b) ∧
      (g = (h.retorqued f s.clock).startMotion (s.depth b) ∨ g = { h.retorqued f s.clock with torqueRun := [] }) := by
  obtain ⟨l, same⟩ : ∃ l, s.heard = s.withLink l := heard_link s
  have silent : l.silent = false := by have := heard_silent s; rwa [same] at this
  have direct : (h.retorqued f s.clock).viaReEngage = false := by
    show (true && (h.chuckReleased || h.moved)) = false
    rw [held, still]; rfl
  have decided := resolveRetryOn_goes (s := s.withLink l) (b := b) (h := h) (retryKind_retorque kind posted)
    (decide_eq_false (Nat.not_le.2 early)) line (boltLost_false (by rintro ⟨-, lost⟩; exact absurd (held.symm.trans lost) (by decide)))
  rw [retryFrame_retorque] at decided
  obtain ⟨g, answered⟩ := askFlow_answers (s := (s.withLink l).setBoom b (s.boom b).retorqued) (b := b) (h := h.retorqued f s.clock)
    (by rw [State.setBoom_boom]; exact level) quiet drive silent direct
  have hole := answered.hole
  rw [depth_setBoom] at hole
  obtain ⟨executed, only, asked, moved⟩ := (ResolveRow.retry (tag := tag) (boom := boom) (v := none)).lands (y := (s.boom b).retorqued)
    ready requested named rfl level auto same decided ⟨rfl, rfl, rfl, rfl, rfl⟩ answered
  exact ⟨_, g, executed, only, asked, moved, hole⟩

/-- A RETRY that resumes its phase asks for its flow (R97, R147). -/
theorem retry_resumes {m : Hole} (ready : s.ready) (requested : s.requested = none) (quiet : s.flowQuiet)
    (named : s.slotOf boom = some b) (level : (s.boom b).level = 0) (auto : (s.boom b).auto = .exception f h)
    (drive : s.drive = some true)
    (decided : ∀ l, resolveOn .retry 0 b f h (s.withLink l) = ((s.withLink l).resume b m).done) (held : m.chuckReleased = false)
    (direct : m.viaReEngage = false) :
    ∃ u g, exec (.resolveRetry tag boom none) s = .next (u.noted.answered 0x90 tag (le1 0)) ∧ s.OnlyBoom u b ∧ s.FlowAsked u b g ∧
      Boom.Moved (s.boom b) (u.boom b) ∧ (g = m.startMotion (s.depth b) ∨ g = { m with torqueRun := [] }) := by
  obtain ⟨l, same⟩ : ∃ l, s.heard = s.withLink l := heard_link s
  have silent : l.silent = false := by have := heard_silent s; rwa [same] at this
  have self : (s.withLink l).setBoom b (s.boom b) = s.withLink l := setBoom_self (s.withLink l) b
  obtain ⟨g, answered⟩ := askFlow_answers (s := s.withLink l) (b := b) (h := m) level quiet drive silent direct
  have hole := answered.hole
  have goes := (decided l).trans (congrArg State.done (resume_asks (Or.inr held)))
  have answered : FlowAnswered ((s.withLink l).setBoom b (s.boom b)) ((s.withLink l).askFlow b m) b m g := by
    rw [self]; exact answered
  obtain ⟨executed, only, asked, moved⟩ := (ResolveRow.retry (tag := tag) (boom := boom) (v := none)).lands ready requested named rfl
    level auto same goes (Boom.SameReadings.refl _) answered
  exact ⟨_, g, executed, only, asked, moved, hole⟩

/-- A retorque of a flagged hole goes through RE_ENGAGE (R32, R105). -/
theorem retorque_engages (ready : s.ready) (requested : s.requested = none) (quiet : s.flowQuiet) (named : s.slotOf boom = some b)
    (level : (s.boom b).level = 0) (auto : (s.boom b).auto = .exception f h) (flagged : h.chuckReleased = true ∨ h.moved = true)
    (phase : h.phase = .releasing) (line : s.retractLine ≠ some true) (drive : s.drive = some true) (kind : f.kind = .prePhase)
    (posted : CondSet.has f.posted .underTension = true) (early : h.retorques < 2) (covered : s.covers b (s.demandOf .inserting)) :
    ∃ u, exec (.resolveRetry tag boom none) s = .next (u.noted.answered 0x90 tag (le1 0)) ∧ s.OnlyBoom u b ∧
      EngageAnswered (s.setBoom b (s.boom b).retorqued) u b (h.retorqued f s.clock) := by
  obtain ⟨l, same⟩ : ∃ l, s.heard = s.withLink l := heard_link s
  have silent : l.silent = false := by have := heard_silent s; rwa [same] at this
  have via : (h.retorqued f s.clock).viaReEngage = true := by
    show (true && (h.chuckReleased || h.moved)) = true
    rcases flagged with flag | flag <;> rw [flag]
    · rfl
    · rw [Bool.or_true]; rfl
  have decided := resolveRetryOn_goes (s := s.withLink l) (b := b) (h := h) (retryKind_retorque kind posted)
    (decide_eq_false (Nat.not_le.2 early)) line
    (boltLost_false (by rw [phase]; rintro ⟨other | other, -⟩ <;> cases other))
  rw [retryFrame_retorque] at decided
  have answered := askFlow_engages (s := (s.withLink l).setBoom b (s.boom b).retorqued) (b := b) (h := h.retorqued f s.clock)
    (by rw [State.setBoom_boom]; exact level) quiet drive silent via covered
  have lone := State.Lone.setBoom (s := s.withLink l) (b := b) (x := (s.boom b).retorqued) ⟨rfl, rfl, rfl, rfl, rfl⟩ rfl
  have only := lone.only.trans answered.only
  have only : s.OnlyBoom (((s.withLink l).setBoom b (s.boom b).retorqued).askFlow b (h.retorqued f s.clock)) b := by
    rw [← same] at only ⊢
    exact only.of_heard
  refine ⟨_, request_plain (r := .resolve boom 1 none) ready (?_ : reqResolve boom 1 none s.heard = State.done _)
    (Or.inl (only.store.requested.trans requested)), only, ?_⟩
  · rw [same]
    exact (reqResolve_on (s := s.withLink l) named rfl level auto).trans decided
  · obtain ⟨context, chuck, rotation, feed, grant, reached, moved⟩ := answered
    have alike : (s.setBoom b (s.boom b).retorqued).OnlyBoom
        (((s.withLink l).setBoom b (s.boom b).retorqued).askFlow b (h.retorqued f s.clock)) b :=
      ⟨⟨reached.store.1, reached.store.2, reached.store.3, reached.store.4, reached.store.5, reached.store.6, reached.store.7,
          reached.store.8, reached.store.9, reached.store.10⟩,
        ⟨reached.lists.1, reached.lists.2, reached.lists.3, reached.lists.4⟩, reached.booms, reached.grants, reached.reserve,
        reached.readings⟩
    exact ⟨context, chuck, rotation, feed, grant, alike, moved⟩

end retry

/-- Settles O42: the frame says which RETRY it is, its limit whether it comes too late, and an accepted one asks for its flow. -/
theorem resolveRetryByFrame : Obligations.ResolveRetryByFrame := by
  refine ⟨fun s tag boom b f h ready requested quiet named level auto held still line drive =>
      ⟨fun kind posted late => retry_late ready requested named level auto (retryKind_retorque kind posted) (decide_eq_true late),
        fun kind posted early covered => ?_,
        fun kind cause late => retry_late ready requested named level auto (retryKind_mix kind cause) late,
        fun kind cause early phase covered => ?_⟩,
    fun s tag boom b f h ready requested quiet named level auto line drive =>
      ⟨fun kind cause phase held => ?_, fun kind posted early flagged phase covered => ?_⟩⟩
  · obtain ⟨u, g, executed, only, asked, moved, hole⟩ :=
      retorque_asks (tag := tag) ready requested quiet named level auto held still line drive kind posted early
    have figures : g.phase = .torquing ∧ g.retorques = h.retorques + 1 ∧ g.torqueRun = [] ∧ g.peak = 0 ∧ g.finalTorque = none ∧
        g.tension = none ∧ g.torqueStart = none := by
      rcases hole with rfl | rfl <;> exact ⟨rfl, rfl, rfl, rfl, rfl, rfl, rfl⟩
    have active := (asked.1 (by rw [figures.1]; exact covered)).1
    obtain ⟨readings, store, lists, others⟩ := only.answered 0x90 tag (le1 0)
    obtain ⟨phase, count, run, peak, final, tension, start⟩ := figures
    refine ⟨_, g, executed, answered_replies _ _ _ _, ?_, phase, count, run, peak, final, tension, start, ?_, ?_, ?_, readings, store,
      lists, others⟩
    all_goals rw [answered_boom, noted_boom]
    · rw [Boom.remember_auto, active]
    · rw [Boom.remember_posted, moved.sets.2.1]; rfl
    · rw [Boom.remember_current, moved.sets.1]; rfl
    · rw [Boom.remember_accrued, moved.sets.2.2.1]; rfl
  · have direct : ({ h.noteResolve f.cause .retry with mixSum := 0, mixStart := none } : Hole).viaReEngage = false := by
      show (h.phase.reEngages && _) = false
      rw [phase]; rfl
    obtain ⟨u, g, executed, only, asked, moved, hole⟩ := retry_resumes (tag := tag)
      (m := { h.noteResolve f.cause .retry with mixSum := 0, mixStart := none }) ready requested quiet named level auto drive
      (fun l => resolveRetryOn_goes (s := s.withLink l) (retryKind_mix kind cause) early line
        (boltLost_false (by rintro ⟨-, lost⟩; exact absurd (held.symm.trans lost) (by decide)))) held direct
    have figures : g.phase = .mixing ∧ g.mixSum = 0 ∧ g.mixStart = none ∧ g.resinStart = h.resinStart := by
      rcases hole with rfl | rfl <;> exact ⟨phase, rfl, rfl, rfl⟩
    have active := (asked.1 (by rw [figures.1]; exact covered)).1
    obtain ⟨readings, store, lists, others⟩ := only.answered 0x90 tag (le1 0)
    obtain ⟨phase', sum, start, resin⟩ := figures
    refine ⟨_, g, executed, answered_replies _ _ _ _, ?_, phase', sum, start, resin, ?_, ?_, ?_, readings, store, lists, others⟩
    all_goals rw [answered_boom, noted_boom]
    · rw [Boom.remember_auto, active]
    · rw [Boom.remember_current, moved.sets.1]
    · rw [Boom.remember_posted, moved.sets.2.1]
    · rw [Boom.remember_seen, moved.sets.2.2.2.1]
  · have direct : (h.noteResolve f.cause .retry).viaReEngage = false := by
      show (h.phase.reEngages && _) = false
      rcases phase with phase | phase <;> rw [phase] <;> rfl
    obtain ⟨u, g, executed, only, asked, moved, hole⟩ := retry_resumes (tag := tag) (m := h.noteResolve f.cause .retry) ready requested
      quiet named level auto drive
      (fun l => resolveRetryOn_goes (s := s.withLink l) (retryKind_loader kind cause) rfl line
        (boltLost_false (by rintro ⟨-, lost⟩; exact absurd (held.symm.trans lost) (by decide)))) held direct
    obtain ⟨readings, store, lists, others⟩ := only.answered 0x90 tag (le1 0)
    have figures : g.phase = h.phase ∧ g.loaded = h.loaded ∧ g.indexDone = h.indexDone ∧
        g.resolveCount = min (h.resolveCount + 1) 65535 := by
      rcases hole with rfl | rfl <;> exact ⟨rfl, rfl, rfl, rfl⟩
    obtain ⟨phase', loaded, index, count⟩ := figures
    refine ⟨_, g, executed, answered_replies _ _ _ _, FlowAsked_answered asked _ _ _, phase', loaded, index, count, ?_, ?_, fun calm => ?_,
      readings, store, lists, others⟩
    all_goals rw [answered_boom, noted_boom]
    · rw [Boom.remember_current, moved.sets.1]
    · rw [Boom.remember_posted, moved.sets.2.1]
    · rw [Boom.remember_handshake, moved.loader calm]
  · obtain ⟨u, executed, only, context, chuck, rotation, feed, grant, -, moved⟩ :=
      retorque_engages (tag := tag) ready requested quiet named level auto flagged phase line drive kind posted early covered
    obtain ⟨readings, store, lists, others⟩ := only.answered 0x90 tag (le1 0)
    refine ⟨_, { h.retorqued f s.clock with torqueRun := [] }, executed, answered_replies _ _ _ _, ?_, rfl, rfl, rfl, rfl, rfl, ?_, ?_, ?_,
      fun held => ?_, ?_, readings, store, lists, others⟩
    · rw [answered_boom, noted_boom, Boom.remember_auto, context]
    · rw [answered_boom, noted_boom, Boom.remember_chuck, chuck]
    · rw [answered_boom, noted_boom, Boom.remember_rotation, rotation]
    · rw [answered_grant, noted_grant, grant]; rfl
    · rw [answered_boom, noted_boom, Boom.remember_feed, feed held]; rfl
    · rw [answered_boom, noted_boom, Boom.remember_posted, moved.sets.2.1, State.setBoom_boom]; rfl

end Sys2Proof.Machine
end

section
/-! SUPPORT. RESERVE_FLOW and RELEASE_FLOW: what a top-up, a reduction and an evaluation do to the reserve, whose entry is the only
one, and the back-off that makes room for it (R115, R116, R119 to R125). -/

namespace Sys2Proof.Machine

/-! ## One entry alone -/

/-- With an empty wait list a top-up places the requester's entry alone (R116). -/
theorem topUp_quiet {a : Arbiter} (quiet : a.waitList = []) (now : Tick) (r : Requester) (cls : FlowClass) (n : Nat) :
    a.topUp now r cls n = { a with waitList := [newEntry now r cls n] } := by
  simp [Arbiter.topUp, Arbiter.entryOf, quiet, placeEntry]

/-- A top-up of the only entry, in its own class, replaces its demand in its place (R116). -/
theorem topUp_lone {a : Arbiter} {e : WaitEntry} (lone : a.waitList = [e]) (now : Tick) (n : Nat) :
    a.topUp now e.requester e.cls n = { a with waitList := [{ e with demand := n }] } := by
  simp [Arbiter.topUp, Arbiter.entryOf, lone]

/-- The arbiter after the reserve's entry, the only one, has been granted (R112, R119). -/
def Arbiter.reserving (a : Arbiter) (n : Nat) : Arbiter :=
  { a with reserve := n, grantList := a.grantList.filter (fun q => q ≠ .reserve) ++ [.reserve], waitList := [] }

theorem award_reserve {a : Arbiter} {e : WaitEntry} (lone : a.waitList = [e]) (who : e.requester = .reserve) :
    a.award e = a.reserving e.demand := by
  simp [Arbiter.award, Arbiter.setGrant, Arbiter.withdraw, Arbiter.reserving, lone, who]

/-- The reserve's entry, the only one, is granted when it fits, and the reply shows the grant itself (R119, R125). -/
theorem evaluateInReserve_grants {s : State} {e : WaitEntry} (lone : s.arbiter.waitList = [e]) (who : e.requester = .reserve)
    (fits : e.demand - s.arbiter.reserve ≤ s.free) :
    s.evaluateInReserve = { s with arbiter := s.arbiter.reserving e.demand } := by
  have fuel : s.evaluationFuel = 8 + 1 := by simp [State.evaluationFuel, lone]
  have fits' : e.demand - s.arbiter.grantOf e.requester ≤ s.free := by simpa [who, Arbiter.grantOf] using fits
  unfold State.evaluateInReserve
  rw [fuel, evaluateWith_grants lone fits', State.awardEntry, award_reserve lone who, who]
  exact evaluateWith_nil rfl _ _

/-- An URGENT head that neither fits nor passes the backoff test ends the evaluation (R118, R120). -/
theorem evaluateWith_short {s : State} {e : WaitEntry} {rest : List WaitEntry} (head : s.arbiter.waitList = e :: rest)
    (short : s.free < e.demand - s.arbiter.grantOf e.requester)
    (held : e.cls ≠ .urgent ∨ s.free + s.backableFlow < e.demand - s.arbiter.grantOf e.requester) (q : Bool) (n : Nat) :
    State.evaluateWith q n s = s := by
  cases n with
  | zero => rfl
  | succ n =>
    simp only [State.evaluateWith, head]
    rw [if_neg (by omega), if_neg]
    rintro ⟨urgent, room⟩
    rcases held with normal | short
    · exact normal urgent
    · omega

/-! ## The reserve's acts -/

/-- RESERVE_FLOW's top-up with nobody waiting, granted at once (R116, R119). -/
theorem topUpReserve_grants {s : State} (quiet : s.arbiter.waitList = []) {n : Nat} (fits : n - s.arbiter.reserve ≤ s.free) :
    s.topUpReserve n = { s with arbiter := s.arbiter.reserving n } := by
  unfold State.topUpReserve
  rw [topUp_quiet quiet]
  exact evaluateInReserve_grants (e := newEntry s.clock .reserve .urgent n) rfl rfl fits

/-- RESERVE_FLOW's top-up with nobody waiting and no room to be made (R116, R120). -/
theorem topUpReserve_waits {s : State} (quiet : s.arbiter.waitList = []) {n : Nat}
    (short : s.free + s.backableFlow < n - s.arbiter.reserve) :
    s.topUpReserve n =
      { s with arbiter := { s.arbiter with waitList := [newEntry s.clock .reserve .urgent n] } } := by
  unfold State.topUpReserve
  rw [topUp_quiet quiet]
  exact evaluateWith_short (e := newEntry s.clock .reserve .urgent n)
    (s := { s with arbiter := { s.arbiter with waitList := [newEntry s.clock .reserve .urgent n] } }) rfl (Nat.lt_of_le_of_lt (Nat.le_add_right _ _) short)
    (.inr short) _ _

/-- The reserve's own entry, URGENT, is the only one. -/
def Arbiter.ReserveWaits (a : Arbiter) (e : WaitEntry) : Prop :=
  a.waitList = [e] ∧ e.requester = .reserve ∧ e.cls = .urgent

/-- RESERVE_FLOW's top-up of the reserve's own entry, granted at once (R116, R119). -/
theorem topUpReserve_regrants {s : State} {e : WaitEntry} (waits : s.arbiter.ReserveWaits e) {n : Nat}
    (fits : n - s.arbiter.reserve ≤ s.free) : s.topUpReserve n = { s with arbiter := s.arbiter.reserving n } := by
  obtain ⟨lone, who, urgent⟩ := waits
  unfold State.topUpReserve
  rw [← who, ← urgent, topUp_lone lone]
  exact evaluateInReserve_grants (e := { e with demand := n }) rfl who fits

/-- RESERVE_FLOW's top-up of the reserve's own entry with no room to be made (R116, R120). -/
theorem topUpReserve_rewaits {s : State} {e : WaitEntry} (waits : s.arbiter.ReserveWaits e) {n : Nat}
    (short : s.free + s.backableFlow < n - s.arbiter.reserve) :
    s.topUpReserve n = { s with arbiter := { s.arbiter with waitList := [{ e with demand := n }] } } := by
  obtain ⟨lone, who, urgent⟩ := waits
  have short' : s.free + s.backableFlow < n - s.arbiter.grantOf e.requester := by simpa [who, Arbiter.grantOf] using short
  unfold State.topUpReserve
  rw [← who, ← urgent, topUp_lone lone]
  exact evaluateWith_short (e := { e with demand := n })
    (s := { s with arbiter := { s.arbiter with waitList := [{ e with demand := n }] } }) rfl (Nat.lt_of_le_of_lt (Nat.le_add_right _ _) short') (.inr short') _ _

/-- The arbiter with the reserve at `n` and nobody waiting; a reserve of 0 is in no grant list (R112, R115). -/
def Arbiter.reservedAt (a : Arbiter) (n : Nat) : Arbiter :=
  { a with reserve := n, waitList := [],
           grantList := if n = 0 then a.grantList.filter (fun q => q ≠ .reserve) else a.grantList }

/-- The reserve's reduction, no other requester waiting (R115). -/
theorem reduceReserve_eq {s : State} (own : ∀ e ∈ s.arbiter.waitList, e.requester = .reserve) {n : Nat}
    (below : n ≤ s.arbiter.reserve) : s.reduceReserve n = { s with arbiter := s.arbiter.reservedAt n } := by
  have reduced : s.arbiter.reduce .reserve n = s.arbiter.reservedAt n := by
    have level : min n s.arbiter.reserve = n := Nat.min_eq_left below
    by_cases zero : n = 0 <;>
      simpa [Arbiter.reduce, Arbiter.grantOf, Arbiter.setGrant, Arbiter.withdraw, Arbiter.reservedAt, level, zero] using own
  unfold State.reduceReserve
  rw [reduced]
  exact evaluate_nil rfl

/-! ## The requests -/

/-- RESERVE_FLOW between its bounds asks for the amount brought under the capacity. -/
theorem reqReserveFlow_above {n : Half} {s : State} (low : 1 ≤ n.toNat) (high : n.toNat ≤ 400)
    (above : s.arbiter.reserve < min n.toNat s.params.pumpCapacity) :
    reqReserveFlow n s =
      (s.topUpReserve (min n.toNat s.params.pumpCapacity)).reserveAnswer
        (if (s.topUpReserve (min n.toNat s.params.pumpCapacity)).reserveWaits then .waiting else .ok) := by
  unfold reqReserveFlow
  rw [if_neg (by omega)]
  exact if_pos above

theorem reqReserveFlow_below {n : Half} {s : State} (low : 1 ≤ n.toNat) (high : n.toNat ≤ 400)
    (below : min n.toNat s.params.pumpCapacity ≤ s.arbiter.reserve)
    (news : min n.toNat s.params.pumpCapacity < s.arbiter.reserve ∨ s.reserveWaits = true) :
    reqReserveFlow n s = (s.reduceReserve (min n.toNat s.params.pumpCapacity)).reserveAnswer .ok := by
  unfold reqReserveFlow
  rw [if_neg (by omega)]
  dsimp only [Params.effective]
  rw [if_neg (by omega), if_neg]
  rintro ⟨same, idle⟩
  rcases news with less | waits
  · omega
  · simp [idle] at waits

theorem reqReleaseFlow_releases {s : State} (news : 0 < s.arbiter.reserve ∨ s.reserveWaits = true) :
    reqReleaseFlow s = (s.reduceReserve 0).done := by
  unfold reqReleaseFlow
  rw [if_neg]
  rintro ⟨zero, idle⟩
  rcases news with less | waits
  · omega
  · simp [idle] at waits

end Sys2Proof.Machine

end

section
/-! SUPPORT. RESERVE_FLOW by R123's table and RELEASE_FLOW by R124, with nobody waiting and with the reserve's own entry waiting. -/

namespace Sys2Proof.Machine

/-- Whether a mode change is due depends on the booms' grants alone of the arbiter (R179). -/
theorem heard_arbiter_settled {s : State} (settled : s.settled) {a : Arbiter} (grants : a.grants = s.arbiter.grants) :
    ({ s.heard with arbiter := a } : State).settled := by
  refine settled_of_same (heard_settled settled) rfl (fun _ => rfl) fun b => ?_
  have grant : ({ s.heard with arbiter := a } : State).grant b = s.heard.grant b := by
    rw [heard_grant]
    exact congrArg (fun g => Four.get g b) grants
  unfold State.quiet
  rw [grant]
  rfl

@[simp] theorem heard_backableFlow (s : State) : s.heard.backableFlow = s.backableFlow := by
  obtain ⟨l, h⟩ := heard_link s; rw [h]; rfl

/-- A RESERVE_FLOW that leaves this arbiter behind is answered with its reserve and the demand of its entry (R123). -/
theorem reserveFlow_answered {s : State} {tag : Byte} {n : Half} {a : Arbiter} {st : Status} (ready : s.ready)
    (settled : s.settled)
    (decided : reqReserveFlow n s.heard = ({ s.heard with arbiter := a } : State).reserveAnswer st)
    (grants : a.grants = s.arbiter.grants := by rfl) (accepted : st.code < 8 := by decide) :
    exec (.reserveFlow tag n) s =
      .next (({ s.heard with arbiter := a } : State).noted.answered 0x98 tag
        (le1 st.code ++ (le2 a.reserve ++ le2 (a.entryDemand .reserve)))) :=
  request_answered (r := .reserveFlow n) (kind := 0x98) ready decided (heard_arbiter_settled settled grants) accepted

theorem reserveWaits_of_lone {a : Arbiter} {e : WaitEntry} (lone : a.waitList = [e]) (who : e.requester = .reserve) :
    a.entryOf .reserve = some e := by
  simp [Arbiter.entryOf, lone, who]

/-- RESERVE_FLOW above the reserve's grant, granted (R119, R123). -/
theorem reserveFlow_granted {s : State} {tag : Byte} {n : Half} (ready : s.ready) (settled : s.settled)
    (low : 1 ≤ n.toNat) (high : n.toNat ≤ 400) (above : s.arbiter.reserve < min n.toNat s.params.pumpCapacity)
    (topped : s.heard.topUpReserve (min n.toNat s.params.pumpCapacity) =
      { s.heard with arbiter := s.arbiter.reserving (min n.toNat s.params.pumpCapacity) }) :
    exec (.reserveFlow tag n) s =
      .next (({ s.heard with arbiter := s.arbiter.reserving (min n.toNat s.params.pumpCapacity) } : State).noted.answered
        0x98 tag (le1 0 ++ (le2 (min n.toNat s.params.pumpCapacity) ++ le2 0))) := by
  refine reserveFlow_answered (st := .ok) ready settled ?_
  rw [reqReserveFlow_above low high (by simpa using above), heard_params, topped]
  rfl

/-- RESERVE_FLOW above the reserve's grant, left waiting (R120, R123). -/
theorem reserveFlow_waits {s : State} {tag : Byte} {n : Half} {e : WaitEntry} (ready : s.ready) (settled : s.settled)
    (low : 1 ≤ n.toNat) (high : n.toNat ≤ 400) (above : s.arbiter.reserve < min n.toNat s.params.pumpCapacity)
    (who : e.requester = .reserve)
    (topped : s.heard.topUpReserve (min n.toNat s.params.pumpCapacity) =
      { s.heard with arbiter := { s.arbiter with waitList := [e] } }) :
    exec (.reserveFlow tag n) s =
      .next (({ s.heard with arbiter := { s.arbiter with waitList := [e] } } : State).noted.answered 0x98 tag
        (le1 2 ++ (le2 s.arbiter.reserve ++ le2 e.demand))) := by
  have entry : ({ s.arbiter with waitList := [e] } : Arbiter).entryOf .reserve = some e := reserveWaits_of_lone rfl who
  have demand : ({ s.arbiter with waitList := [e] } : Arbiter).entryDemand .reserve = e.demand := by
    simp [Arbiter.entryDemand, entry]
  rw [← demand]
  refine reserveFlow_answered (st := .waiting) ready settled ?_
  rw [reqReserveFlow_above low high (by simpa using above), heard_params, topped,
    if_pos (by simp [State.reserveWaits, entry])]

/-- RESERVE_FLOW at or below the reserve's grant reduces it (R115, R123). -/
theorem reserveFlow_reduced {s : State} {tag : Byte} {n : Half} (ready : s.ready) (settled : s.settled)
    (low : 1 ≤ n.toNat) (high : n.toNat ≤ 400) (below : min n.toNat s.params.pumpCapacity ≤ s.arbiter.reserve)
    (news : min n.toNat s.params.pumpCapacity < s.arbiter.reserve ∨ s.reserveWaits = true)
    (own : ∀ e ∈ s.arbiter.waitList, e.requester = .reserve) :
    exec (.reserveFlow tag n) s =
      .next (({ s.heard with arbiter := s.arbiter.reservedAt (min n.toNat s.params.pumpCapacity) } : State).noted.answered
        0x98 tag (le1 0 ++ (le2 (min n.toNat s.params.pumpCapacity) ++ le2 0))) := by
  refine reserveFlow_answered (st := .ok) ready settled ?_
  have news' : min n.toNat s.heard.params.pumpCapacity < s.heard.arbiter.reserve ∨ s.heard.reserveWaits = true := by
    simpa [State.reserveWaits] using news
  rw [reqReserveFlow_below low high (by simpa using below) news', heard_params,
    reduceReserve_eq (by simpa using own) (by simpa using below), heard_arbiter]

/-- RELEASE_FLOW of a reserve that holds flow or waits for it takes both away (R115, R124). -/
theorem releaseFlow_releases {s : State} {tag : Byte} (ready : s.ready) (settled : s.settled)
    (news : 0 < s.arbiter.reserve ∨ s.reserveWaits = true) (own : ∀ e ∈ s.arbiter.waitList, e.requester = .reserve) :
    exec (.releaseFlow tag) s =
      .next (({ s.heard with arbiter := s.arbiter.reservedAt 0 } : State).noted.answered 0x99 tag (le1 0)) := by
  have decided : reqReleaseFlow s.heard = ({ s.heard with arbiter := s.arbiter.reservedAt 0 } : State).done := by
    rw [reqReleaseFlow_releases (by simpa [State.reserveWaits] using news),
      reduceReserve_eq (by simpa using own) (Nat.zero_le _), heard_arbiter]
  exact request_plain (r := .releaseFlow) (st := .ok) ready decided (heard_arbiter_settled settled rfl)

/-- The reserve at a figure above 0 and nobody waiting: the grant list is as it was (R112). -/
theorem reservedAt_pos {a : Arbiter} {n : Nat} (pos : 0 < n) : a.reservedAt n = { a with reserve := n, waitList := [] } := by
  unfold Arbiter.reservedAt
  rw [if_neg (by omega)]

/-- R123's table and R124 with nobody waiting. -/
theorem reserveFlow_quiet {s : State} (tag : Byte) (ready : s.ready) (settled : s.settled) (quiet : s.flowQuiet) :
    (∀ n : Half, n.toNat < 1 ∨ 400 < n.toNat → exec (.reserveFlow tag n) s = .next (s.refused 0x98 tag .badArg)) ∧
    (∀ n : Half, 1 ≤ n.toNat → n.toNat ≤ 400 → min n.toNat s.params.pumpCapacity = s.arbiter.reserve →
      exec (.reserveFlow tag n) s =
        .next (s.heard.noted.answered 0x98 tag (le1 3 ++ (le2 s.arbiter.reserve ++ le2 0)))) ∧
    (s.arbiter.reserve = 0 → exec (.releaseFlow tag) s = .next (s.refused 0x99 tag .already)) := by
  have idle : s.heard.reserveWaits = false := by simp [State.reserveWaits, Arbiter.entryOf, quiet]
  refine ⟨fun n out => ?_, fun n low high same => ?_, fun zero => ?_⟩
  · exact request_refused (r := .reserveFlow n) ready settled (if_pos out)
  · have decided : reqReserveFlow n s.heard = ({ s.heard with arbiter := s.heard.arbiter } : State).reserveAnswer .already := by
      unfold reqReserveFlow
      rw [if_neg (by omega)]
      dsimp only [Params.effective]
      rw [heard_params, heard_arbiter, same, if_neg (Nat.lt_irrefl _), if_pos ⟨rfl, idle⟩]
      obtain ⟨l, h⟩ := heard_link s
      rw [h]
    have demand : s.heard.arbiter.entryDemand .reserve = 0 := by simp [Arbiter.entryDemand, Arbiter.entryOf, quiet]
    have answered := reserveFlow_answered (tag := tag) ready settled decided (by rw [heard_arbiter])
    rw [demand, heard_arbiter] at answered
    rw [answered]
    obtain ⟨l, h⟩ := heard_link s
    rw [h]
    rfl
  · exact request_refused (r := .releaseFlow) ready settled (if_pos ⟨by simpa using zero, idle⟩)

/-- R123's table and R124 where the reserve's own entry is the only one. -/
theorem reserveFlow_waiting {s : State} (tag : Byte) {e : WaitEntry} (ready : s.ready) (settled : s.settled)
    (waits : s.arbiter.ReserveWaits e) {n : Half} (low : 1 ≤ n.toNat) (high : n.toNat ≤ 400)
    (above : s.arbiter.reserve < min n.toNat s.params.pumpCapacity) :
    (min n.toNat s.params.pumpCapacity - s.arbiter.reserve ≤ s.free →
      exec (.reserveFlow tag n) s =
        .next (({ s.heard with arbiter := s.arbiter.reserving (min n.toNat s.params.pumpCapacity) } : State).noted.answered
          0x98 tag (le1 0 ++ (le2 (min n.toNat s.params.pumpCapacity) ++ le2 0)))) ∧
    (s.free + s.backableFlow < min n.toNat s.params.pumpCapacity - s.arbiter.reserve →
      exec (.reserveFlow tag n) s =
        .next (({ s.heard with
          arbiter := { s.arbiter with waitList := [{ e with demand := min n.toNat s.params.pumpCapacity }] } } :
            State).noted.answered 0x98 tag
          (le1 2 ++ (le2 s.arbiter.reserve ++ le2 (min n.toNat s.params.pumpCapacity))))) := by
  have waits' : s.heard.arbiter.ReserveWaits e := by simpa using waits
  refine ⟨fun fits => ?_, fun short => ?_⟩
  · refine reserveFlow_granted ready settled low high above ?_
    rw [topUpReserve_regrants waits' (by simpa using fits), heard_arbiter]
  · refine reserveFlow_waits (e := { e with demand := _ }) ready settled low high above waits.2.1 ?_
    rw [topUpReserve_rewaits waits' (by simpa using short), heard_arbiter]

end Sys2Proof.Machine

end

section
/-! SUPPORT. Backing off a holder: the boom, the arbiter and the free flow it leaves, and the evaluation whose head calls for it
(R30, R118, R120, R121). -/

namespace Sys2Proof.Machine

/-! ## One boom backed off -/

/-- A boom as backed off: at rest, its hole kept (R30, R121). -/
def Boom.backedOff (x : Boom) (h : Hole) : Boom :=
  { x with feed := 0, rotation := 0, loaderOut := none, handshake := .none, auto := .cycle .backedOff h }

/-- The marked entry a back-off places (R121). -/
def State.backEntry (s : State) (b : Slot) : WaitEntry :=
  { requester := .boom b, cls := .normal, demand := s.grant b, join := s.clock, waitStart := s.clock, backedOff := true }

theorem takeBack_eq (s : State) (b : Slot) :
    s.arbiter.takeBack s.clock b =
      { s.arbiter with
        grants := s.arbiter.grants.set b 0
        grantList := s.arbiter.grantList.filter (fun q => q ≠ .boom b)
        waitList := placeEntry (s.backEntry b) s.arbiter.waitList } := rfl

theorem backedOff_view {x : Boom} {h : Hole} (running : x.running = some (.active, h)) : (x.backedOff h).view ≠ x.view := by
  obtain ⟨level, auto⟩ := running_context running
  obtain ⟨retract, manual⟩ := level_zero level
  have before : x.view.sub = CycleSub.active.code := by unfold Boom.view; rw [retract, manual, auto]; rfl
  have after : (x.backedOff h).view.sub = CycleSub.backedOff.code := by
    unfold Boom.view Boom.backedOff; rw [retract, manual]; rfl
  intro same
  rw [same, before] at after
  exact absurd after (by decide)

/-- Backing off a boom is taking its flow and standing it in line; a fitted boom's BOOM_STATUS is queued (R30, R121, R192). -/
theorem backOff_eq {s : State} {b : Slot} {h : Hole} (running : (s.boom b).running = some (.active, h)) :
    s.backOff b =
      ({ s with arbiter := s.arbiter.takeBack s.clock b } : State).changeBoom b ((s.boom b).backedOff h) := by
  obtain ⟨level, auto⟩ := running_context running
  unfold State.backOff
  simp only [auto]
  rfl

theorem backOff_written {s : State} {b : Slot} {h : Hole} (running : (s.boom b).running = some (.active, h)) :
    ∃ q, s.backOff b = s.written b ((s.boom b).backedOff h) (s.arbiter.takeBack s.clock b) q := by
  rw [backOff_eq running]
  exact changeBoom_written { s with arbiter := s.arbiter.takeBack s.clock b } b ((s.boom b).backedOff h)

/-- What one grant is set to, the sum of the five follows. -/
theorem total_set (a : Arbiter) (b : Slot) (n : Nat) :
    ({ a with grants := a.grants.set b n } : Arbiter).total + a.grants.get b = a.total + n := by
  cases b <;> simp [Arbiter.total, Four.set, Four.get] <;> omega

theorem takeBack_total (s : State) (b : Slot) : (s.arbiter.takeBack s.clock b).total + s.grant b = s.arbiter.total :=
  total_set s.arbiter b 0

/-- The grant a back-off takes becomes free (R109, R121). -/
theorem backOff_free {s : State} {b : Slot} {h : Hole} (running : (s.boom b).running = some (.active, h)) (safe : s.flowSafe) :
    (s.backOff b).free = s.free + s.grant b := by
  obtain ⟨q, eq⟩ := backOff_written running
  have total := takeBack_total s b
  have capacity : s.arbiter.total ≤ s.params.pumpCapacity := safe
  rw [eq]
  change s.params.pumpCapacity - (s.arbiter.takeBack s.clock b).total = s.params.pumpCapacity - s.arbiter.total + s.grant b
  omega

theorem backable_iff (s : State) (b : Slot) :
    s.backable b = true ↔ ∃ h, (s.boom b).running = some (.active, h) ∧ h.phase.flowClass = .normal := by
  unfold State.backable
  split
  case h_1 h running => rw [running]; simp
  case h_2 other =>
    constructor
    · intro no; exact absurd no (by decide)
    · rintro ⟨h, running, -⟩
      exact absurd running (other h)

/-! ## The walk of the grant list -/

theorem backOffUntil_covered {s : State} {need : Nat} (covered : need ≤ s.free) (rs : List Requester) :
    State.backOffUntil need rs s = s := by
  cases rs with
  | nil => rfl
  | cons r rs => unfold State.backOffUntil; exact if_pos covered

theorem backOffUntil_reserve {s : State} {need : Nat} (short : s.free < need) (rs : List Requester) :
    State.backOffUntil need (.reserve :: rs) s = State.backOffUntil need rs s := by
  rw [State.backOffUntil, if_neg (Nat.not_le.2 short)]

theorem backOffUntil_spares {s : State} {need : Nat} {b : Slot} (short : s.free < need) (spared : s.backable b = false)
    (rs : List Requester) : State.backOffUntil need (.boom b :: rs) s = State.backOffUntil need rs s := by
  rw [State.backOffUntil, if_neg (Nat.not_le.2 short)]
  simp only [spared]
  exact if_neg Bool.false_ne_true

theorem backOffUntil_takes {s : State} {need : Nat} {b : Slot} (short : s.free < need) (eligible : s.backable b = true)
    (rs : List Requester) : State.backOffUntil need (.boom b :: rs) s = State.backOffUntil need rs (s.backOff b) := by
  rw [State.backOffUntil, if_neg (Nat.not_le.2 short)]
  simp only [eligible]
  exact if_pos trivial

/-- An URGENT head the eligible holders can make room for has them backed off, and is looked at again (R120). -/
theorem evaluateWith_backs {s : State} {q : Bool} {n : Nat} {e : WaitEntry} {es : List WaitEntry}
    (head : s.arbiter.waitList = e :: es) (short : s.free < e.demand - s.arbiter.grantOf e.requester)
    (urgent : e.cls = .urgent) (room : e.demand - s.arbiter.grantOf e.requester ≤ s.free + s.backableFlow) :
    State.evaluateWith q (n + 1) s =
      State.evaluateWith q n
        (State.backOffUntil (e.demand - s.arbiter.grantOf e.requester) s.arbiter.grantList.reverse s) := by
  simp only [State.evaluateWith, head]
  rw [if_neg (Nat.not_le.2 short), if_pos ⟨urgent, room⟩]

/-- The sum over the eligible holders, spelled by slot (R120). -/
theorem backableFlow_eq (s : State) :
    s.backableFlow =
      (if s.backable .s1 then s.grant .s1 else 0) + (if s.backable .s2 then s.grant .s2 else 0) +
        (if s.backable .s3 then s.grant .s3 else 0) + (if s.backable .s4 then s.grant .s4 else 0) := by
  simp [State.backableFlow, Slot.all]
  omega

theorem grant_le_backableFlow {s : State} {b : Slot} (eligible : s.backable b = true) : s.grant b ≤ s.backableFlow := by
  rw [backableFlow_eq]
  cases b <;> simp only [eligible, if_true] <;> omega

end Sys2Proof.Machine

end

section
/-! SUPPORT. A RESERVE_FLOW that backs the newest holder off, and O49. -/

namespace Sys2Proof.Machine

/-- The reserve's entry, the only one, needs more than is free, and the newest holder is an eligible boom whose grant makes the
room (R120). -/
structure State.NewestYields (s : State) (b : Slot) (h : Hole) (n : Nat) : Prop where
  safe : s.flowSafe
  running : (s.boom b).running = some (.active, h)
  eligible : h.phase.flowClass = .normal
  newest : s.arbiter.grantList.getLast? = some (.boom b)
  short : s.free < n - s.arbiter.reserve
  room : n - s.arbiter.reserve ≤ s.free + s.grant b

theorem State.NewestYields.backable {s : State} {b : Slot} {h : Hole} {n : Nat} (yields : s.NewestYields b h n) :
    s.backable b = true := (backable_iff s b).2 ⟨h, yields.running, yields.eligible⟩

/-- The walk backs off the newest holder and ends there (R120). -/
theorem backOffUntil_newest {s : State} {b : Slot} {h : Hole} {n : Nat} (yields : s.NewestYields b h n) :
    State.backOffUntil (n - s.arbiter.reserve) s.arbiter.grantList.reverse s = s.backOff b := by
  obtain ⟨older, list⟩ := List.getLast?_eq_some_iff.1 yields.newest
  rw [list, List.reverse_append]
  change State.backOffUntil _ (.boom b :: older.reverse) s = _
  rw [backOffUntil_takes yields.short yields.backable]
  exact backOffUntil_covered (by rw [backOff_free yields.running yields.safe]; exact yields.room) _

/-- The marked entry of the boom backed off for the reserve stands behind the reserve's URGENT one (R114). -/
theorem placeEntry_behind_reserve (s : State) (b : Slot) {e : WaitEntry} (urgent : e.cls = .urgent) :
    placeEntry (s.backEntry b) [e] = [e, s.backEntry b] := by
  simp [placeEntry, goesBehind, State.backEntry, urgent, FlowClass.rank]

/-- The arbiter as the reserve has been granted in place of the boom backed off for it (R119 to R121). -/
def State.yielded (s : State) (b : Slot) (n : Nat) : Arbiter :=
  { grants := s.arbiter.grants.set b 0, reserve := n,
    grantList := (s.arbiter.grantList.filter (fun q => q ≠ .boom b)).filter (fun q => q ≠ .reserve) ++ [.reserve],
    waitList := [s.backEntry b] }

theorem award_yielded {s : State} {b : Slot} {n : Nat} {e : WaitEntry} (lone : s.arbiter.waitList = [e])
    (who : e.requester = .reserve) (urgent : e.cls = .urgent) (demand : e.demand = n) :
    (s.arbiter.takeBack s.clock b).award e = s.yielded b n := by
  rw [takeBack_eq, lone, placeEntry_behind_reserve s b urgent]
  simp [Arbiter.award, Arbiter.setGrant, Arbiter.withdraw, State.yielded, who, demand, State.backEntry]

/-- The evaluation whose only entry is the reserve's: the newest holder is backed off, the reserve granted, and the holder's own
entry does not fit behind it (R118 to R121). -/
theorem evaluateInReserve_backs {s : State} {b : Slot} {h : Hole} {e : WaitEntry} (waits : s.arbiter.ReserveWaits e)
    (yields : s.NewestYields b h e.demand) :
    ∃ q, s.evaluateInReserve = s.written b ((s.boom b).backedOff h) (s.yielded b e.demand) q := by
  obtain ⟨lone, who, urgent⟩ := waits
  have fuel : s.evaluationFuel = 7 + 1 + 1 := by simp [State.evaluationFuel, lone]
  have need : e.demand - s.arbiter.grantOf e.requester = e.demand - s.arbiter.reserve := by rw [who]; rfl
  have free := backOff_free yields.running yields.safe
  have total := takeBack_total s b
  obtain ⟨q, backed⟩ := backOff_written yields.running
  have short := yields.short
  have room := yields.room
  have held := grant_le_backableFlow yields.backable
  refine ⟨q, ?_⟩
  unfold State.evaluateInReserve
  rw [fuel, evaluateWith_backs lone (by omega) urgent (by omega), need, backOffUntil_newest yields]
  have waiting : (s.backOff b).arbiter.waitList = [e, s.backEntry b] := by
    rw [backed, ← placeEntry_behind_reserve s b urgent, ← lone]
    rfl
  have reserve : (s.backOff b).arbiter.grantOf e.requester = s.arbiter.reserve := by rw [backed, who]; rfl
  rw [evaluateWith_grants waiting (by rw [reserve, free]; omega), State.awardEntry, who]
  have awarded : ({ s.backOff b with arbiter := (s.backOff b).arbiter.award e } : State) =
      s.written b ((s.boom b).backedOff h) (s.yielded b e.demand) q := by
    rw [backed, written_arbiter, award_yielded lone who urgent rfl]
    rfl
  rw [awarded]
  change State.evaluateWith true 7 (s.written b ((s.boom b).backedOff h) (s.yielded b e.demand) q) = _
  have safe : s.arbiter.total ≤ s.params.pumpCapacity := yields.safe
  have given : (s.yielded b e.demand).total + s.arbiter.reserve = (s.arbiter.takeBack s.clock b).total + e.demand := by
    simp only [Arbiter.total, State.yielded, takeBack_eq]
    omega
  have left : (s.written b ((s.boom b).backedOff h) (s.yielded b e.demand) q).free =
      s.params.pumpCapacity - (s.yielded b e.demand).total := rfl
  have none : (s.yielded b e.demand).grantOf (s.backEntry b).requester = 0 := four_get_set_self _ _ _
  refine evaluateWith_short (e := s.backEntry b) (rest := []) rfl ?_ (.inl (by exact FlowClass.noConfusion)) _ _
  rw [left, written_arbiter, none]
  change _ < s.grant b - 0
  have free' : s.free = s.params.pumpCapacity - s.arbiter.total := rfl
  omega

/-- RESERVE_FLOW's top-up with nobody waiting, for which the newest holder is backed off (R116, R120, R121). -/
theorem topUpReserve_backs {s : State} {b : Slot} {h : Hole} {n : Nat} (quiet : s.flowQuiet) (yields : s.NewestYields b h n) :
    ∃ q, s.topUpReserve n = s.written b ((s.boom b).backedOff h) (s.yielded b n) q := by
  unfold State.topUpReserve
  rw [topUp_quiet quiet]
  exact evaluateInReserve_backs (e := newEntry s.clock .reserve .urgent n)
    (s := { s with arbiter := { s.arbiter with waitList := [newEntry s.clock .reserve .urgent n] } })
    ⟨rfl, rfl, rfl⟩
    { safe := yields.safe, running := yields.running, eligible := yields.eligible, newest := yields.newest,
      short := yields.short, room := yields.room }

/-- The answer to a RESERVE_FLOW for which the newest holder is backed off (R120, R121, R123). -/
theorem reserveFlow_backs {s : State} (tag : Byte) {n : Half} {b : Slot} {h : Hole} (ready : s.ready)
    (requested : s.requested = none) (quiet : s.flowQuiet) (low : 1 ≤ n.toNat) (high : n.toNat ≤ 400)
    (above : s.arbiter.reserve < min n.toNat s.params.pumpCapacity)
    (yields : s.NewestYields b h (min n.toNat s.params.pumpCapacity)) :
    ∃ q, exec (.reserveFlow tag n) s =
      .next ((s.heard.written b ((s.boom b).backedOff h) (s.yielded b (min n.toNat s.params.pumpCapacity)) q).noted.answered
        0x98 tag (le1 0 ++ (le2 (min n.toNat s.params.pumpCapacity) ++ le2 0))) := by
  obtain ⟨l, same⟩ := heard_link s
  have yields' : s.heard.NewestYields b h (min n.toNat s.params.pumpCapacity) := by
    rw [same]
    exact { safe := yields.safe, running := yields.running, eligible := yields.eligible, newest := yields.newest,
            short := yields.short, room := yields.room }
  obtain ⟨q, topped⟩ := topUpReserve_backs (s := s.heard) (by rw [State.flowQuiet, heard_arbiter]; exact quiet) yields'
  have after : s.heard.yielded b (min n.toNat s.params.pumpCapacity) = s.yielded b (min n.toNat s.params.pumpCapacity) := by
    rw [same]; rfl
  rw [after, heard_boom] at topped
  refine ⟨q, ?_⟩
  have entry : (s.yielded b (min n.toNat s.params.pumpCapacity)).entryOf .reserve = none := by
    simp [Arbiter.entryOf, State.yielded, State.backEntry]
  have demand : (s.yielded b (min n.toNat s.params.pumpCapacity)).entryDemand .reserve = 0 := by
    simp [Arbiter.entryDemand, entry]
  have settled : (s.heard.written b ((s.boom b).backedOff h) (s.yielded b (min n.toNat s.params.pumpCapacity)) q).settled :=
    Or.inl ((heard_requested s).trans requested)
  rw [← demand]
  refine request_answered (r := .reserveFlow n) (kind := 0x98) (st := .ok) ready ?_ settled
  change reqReserveFlow n s.heard = _
  rw [reqReserveFlow_above low high (by simpa using above), heard_params, topped, if_neg (by simp [State.reserveWaits, entry])]
  rfl

/-- Settles O49: with nobody waiting, and with the reserve's own entry waiting, the evaluation has the reserve's entry alone to look
at; where the newest holder yields, it is backed off, the reserve granted, and the holder's entry left as the only one. -/
theorem reserveByItsTable : Obligations.ReserveByItsTable := by
  refine ⟨fun s tag ready settled quiet => ?_, fun s tag e ready settled lone who urgent => ?_,
    fun s tag n b h ready requested quiet safe low high fits running normal newest above short room => ?_⟩
  · obtain ⟨out, same, nothing⟩ := reserveFlow_quiet tag ready settled quiet
    have own : ∀ e ∈ s.arbiter.waitList, e.requester = .reserve := by simp [quiet]
    have quiet' : s.heard.arbiter.waitList = [] := by simpa using quiet
    refine ⟨out, fun n low high => ⟨same n low high, fun less pos => ?_, fun above fits => ?_, fun above tight => ?_⟩, nothing,
      fun held => ?_⟩
    · rw [reserveFlow_reduced ready settled low high (by omega) (.inl less) own, reservedAt_pos (by omega), ← quiet]
    · rw [reserveFlow_granted ready settled low high above (by
        rw [topUpReserve_grants quiet' (by simpa using fits), heard_arbiter]), Arbiter.reserving, ← quiet]
    · refine reserveFlow_waits (e := newEntry s.clock .reserve .urgent (min n.toNat s.params.pumpCapacity)) ready settled low
        high above rfl ?_
      have joins (a : Nat) : newEntry s.heard.clock .reserve .urgent a = newEntry s.clock .reserve .urgent a := by rw [heard_clock]
      rw [topUpReserve_waits quiet' (by simpa using tight), heard_arbiter, joins]
    · rw [releaseFlow_releases ready settled (.inl held) own, Arbiter.reservedAt, if_pos rfl, ← quiet]
  · have waits : s.arbiter.ReserveWaits e := ⟨lone, who, urgent⟩
    have own : ∀ e' ∈ s.arbiter.waitList, e'.requester = .reserve := by simp [lone, who]
    have stands : s.reserveWaits = true := by simp [State.reserveWaits, reserveWaits_of_lone lone who]
    refine ⟨fun n low high pos => ⟨fun below => ?_, fun above => (reserveFlow_waiting tag ready settled waits low high above).1,
      fun above => (reserveFlow_waiting tag ready settled waits low high above).2⟩, ?_⟩
    · rw [reserveFlow_reduced ready settled low high below (.inr stands) own, reservedAt_pos (by omega)]
    · rw [releaseFlow_releases ready settled (.inr stands) own, Arbiter.reservedAt, if_pos rfl]
  · obtain ⟨q, taken⟩ := reserveFlow_backs tag ready requested quiet low high above
      { safe := safe, running := running, eligible := normal, newest := newest, short := short, room := room }
    have books := State.SameBooks.trans ⟨heard_sameStore s, heard_sameLists s⟩
      (written_sameBooks s.heard b ((s.boom b).backedOff h) (s.yielded b (min n.toNat s.params.pumpCapacity)) q)
    refine ⟨_, taken, answered_replies _ _ _ _, ?_, ?_, ?_, ?_, ?_, ?_, ?_, ?_, fun c ne => ⟨?_, ?_⟩,
      answered_sameStore _ _ _ books.store, answered_sameLists _ _ _ books.lists⟩
    · rw [answered_arbiter, noted_arbiter, written_arbiter, State.yielded]
    · rw [answered_boom, noted_boom, Boom.remember_auto, written_boom, Boom.backedOff]
    · rw [answered_boom, noted_boom, Boom.remember_feed, written_boom, Boom.backedOff]
    · rw [answered_boom, noted_boom, Boom.remember_rotation, written_boom, Boom.backedOff]
    · rw [answered_boom, noted_boom, Boom.remember_handshake, written_boom, Boom.backedOff]
    · rw [answered_boom, noted_boom, Boom.remember_chuck, written_boom, Boom.backedOff]
    · rw [answered_grant, noted_grant, written_grant]
      exact four_get_set_self _ _ _
    · rw [answered_arbiter, noted_arbiter, written_arbiter, State.yielded, State.backEntry]
    · rw [answered_boom]
      exact noted_boom_of_same books.store ((written_boom_of_ne _ _ _ _ _ ne).trans (heard_boom s c))
    · rw [answered_grant, noted_grant, written_grant]
      exact four_get_set_of_ne _ _ ne

end Sys2Proof.Machine

end

section
/-! SUPPORT. Where a marked entry and a top-up's entry stand in the wait list (R114, R116, R121). -/

namespace Sys2Proof.Machine

/-! ## Behind whom an entry goes -/

/-- A marked NORMAL entry goes behind every URGENT, CURING and marked one (R114, R121). -/
theorem goesBehind_backEntry (s : State) (b : Slot) :
    goesBehind (s.backEntry b) = fun e => decide (e.cls ≠ .normal ∨ e.backedOff = true) := by
  funext e
  cases cls : e.cls <;> cases marked : e.backedOff <;> simp [goesBehind, State.backEntry, FlowClass.rank, cls, marked]

/-- An unmarked entry goes behind every entry of a class before its own, and in its own class behind the marked ones, the ones that
joined earlier, and those of its own tick up to its slot (R114). -/
theorem goesBehind_newEntry (now : Tick) (r : Requester) (cls : FlowClass) (demand : Nat) (e : WaitEntry) :
    goesBehind (newEntry now r cls demand) e = true ↔
      (e.cls = .urgent ∧ cls ≠ .urgent) ∨ (e.cls = .curing ∧ cls = .normal) ∨
        (e.cls = cls ∧ (e.backedOff = true ∨ (e.join = now ∧ e.requester.num ≤ r.num) ∨
          (e.join ≠ now ∧ e.joinAhead = false))) := by
  have same : e.cls = cls → (goesBehind (newEntry now r cls demand) e = true ↔
      e.backedOff = true ∨ (e.join = now ∧ e.requester.num ≤ r.num) ∨ (e.join ≠ now ∧ e.joinAhead = false)) := by
    intro same
    cases marked : e.backedOff with
    | true => simp [goesBehind, newEntry, same, marked]
    | false =>
      by_cases joined : e.join = now
      · have ranked : goesBehind (newEntry now r cls demand) e = decide (e.requester.num ≤ r.num) := by
          simp only [goesBehind, newEntry, same, marked, joined, ne_eq, not_true_eq_false, if_false, if_true]
          rfl
        rw [ranked, decide_eq_true_iff]
        simp [joined]
      · simp [goesBehind, newEntry, same, marked, joined]
  by_cases own : e.cls = cls
  · rw [same own, own]
    cases cls <;> simp
  · have apart : e.cls.rank ≠ cls.rank := by
      intro ranks
      apply own
      revert ranks
      cases e.cls <;> cases cls <;> simp [FlowClass.rank]
    have ranked : goesBehind (newEntry now r cls demand) e = decide (e.cls.rank < cls.rank) := by
      unfold goesBehind
      exact if_pos apart
    rw [ranked, decide_eq_true_iff]
    revert own
    cases e.cls <;> cases cls <;> simp [FlowClass.rank]

/-! ## Ordered lists -/

/-- Where what `p` asks for comes first, the entries taken while `p` holds are all that satisfy it. -/
theorem takeWhile_eq_filter {α : Type} {R : α → α → Prop} {p : α → Bool} (down : ∀ a b, R a b → p b = true → p a = true)
    {l : List α} (ordered : l.Pairwise R) : l.takeWhile p = l.filter p ∧ l.dropWhile p = l.filter (fun a => !p a) := by
  induction ordered with
  | nil => exact ⟨rfl, rfl⟩
  | @cons a l first rest ih =>
    cases holds : p a with
    | true => simp [holds, ih.1, ih.2]
    | false =>
      have none : ∀ b ∈ l, p b = false := fun b mem => by
        rw [← Bool.not_eq_true]
        exact fun pb => by simp [down a b (first b mem) pb] at holds
      have nothing : l.filter p = [] := by simpa [List.filter_eq_nil_iff] using none
      have everything : l.filter (fun a => !p a) = l := by simpa [List.filter_eq_self] using none
      simp [holds, nothing, everything]

/-- In the order R114 gives, the entries ahead of the unmarked NORMAL ones come first. -/
theorem ahead_of_unmarked {a b : WaitEntry} (order : a.place ≤ b.place)
    (ahead : decide (b.cls ≠ .normal ∨ b.backedOff = true) = true) : decide (a.cls ≠ .normal ∨ a.backedOff = true) = true := by
  have place (e : WaitEntry) : decide (e.cls ≠ .normal ∨ e.backedOff = true) = true ↔ e.place ≤ 2 := by
    cases cls : e.cls <;> cases marked : e.backedOff <;> simp [WaitEntry.place, cls, marked]
  exact (place a).2 (order.trans ((place b).1 ahead))

/-! ## A back-off's entry in its place -/

theorem backOff_waitList {s : State} {b : Slot} {h : Hole} (running : (s.boom b).running = some (.active, h)) :
    (s.backOff b).arbiter.waitList =
      s.arbiter.waitList.takeWhile (fun e => decide (e.cls ≠ .normal ∨ e.backedOff = true)) ++
        s.backEntry b :: s.arbiter.waitList.dropWhile (fun e => decide (e.cls ≠ .normal ∨ e.backedOff = true)) := by
  obtain ⟨q, backed⟩ := backOff_written running
  rw [backed, written_arbiter, takeBack_eq, ← goesBehind_backEntry s b]
  exact placeEntry_eq _ _

/-- Backing off a fitted boom queues its BOOM_STATUS (R192). -/
theorem backOff_shows {s : State} {b : Slot} {h : Hole} (fits : s.fits b = true)
    (running : (s.boom b).running = some (.active, h)) : (s.backOff b).link.boomStatus.get b = true := by
  rw [backOff_eq running, changeBoom_shows (by exact fits) (by exact backedOff_view running)]
  exact four_get_set_self _ _ _

/-! ## A top-up's entry in its place -/

theorem topUp_places {a : Arbiter} {r : Requester} (absent : ∀ e ∈ a.waitList, e.requester ≠ r) (now : Tick) (cls : FlowClass)
    (demand : Nat) :
    a.topUp now r cls demand = { a with waitList := placeEntry (newEntry now r cls demand) a.waitList } := by
  have none : a.entryOf r = none := by simpa [Arbiter.entryOf] using absent
  unfold Arbiter.topUp
  rw [none]

section held

variable {a : Arbiter} {l m : List WaitEntry} {w : WaitEntry} {r : Requester} (list : a.waitList = l ++ w :: m)
  (who : w.requester = r) (others : ∀ e ∈ l ++ m, e.requester ≠ r)

include list who others

theorem entryOf_held : a.entryOf r = some w := by
  have before : ∀ e ∈ l, e.requester ≠ r := fun e mem => others e (List.mem_append_left _ mem)
  have none : l.find? (fun e => decide (e.requester = r)) = none := by simpa using before
  simp [Arbiter.entryOf, list, none, who]

theorem withdraw_held : (a.withdraw r).waitList = l ++ m := by
  have before : l.filter (fun e => decide (e.requester ≠ r)) = l :=
    List.filter_eq_self.2 fun e mem => by simpa using others e (List.mem_append_left _ mem)
  have behind : m.filter (fun e => decide (e.requester ≠ r)) = m :=
    List.filter_eq_self.2 fun e mem => by simpa using others e (List.mem_append_right _ mem)
  unfold Arbiter.withdraw
  rw [list, List.filter_append, before, List.filter_cons_of_neg (by simpa using who), behind]

theorem replace_held (demand : Nat) :
    a.waitList.map (fun e => if e.requester = r then { e with demand := demand } else e) =
      l ++ { w with demand := demand } :: m := by
  have before : l.map (fun e => if e.requester = r then { e with demand := demand } else e) = l :=
    (List.map_congr_left (g := id) fun e mem => if_neg (others e (List.mem_append_left _ mem))).trans l.map_id
  have behind : m.map (fun e => if e.requester = r then { e with demand := demand } else e) = m :=
    (List.map_congr_left (g := id) fun e mem => if_neg (others e (List.mem_append_right _ mem))).trans m.map_id
  rw [list, List.map_append, List.map_cons, before, behind, if_pos who]

theorem topUp_replaces (now : Tick) (demand : Nat) :
    a.topUp now r w.cls demand = { a with waitList := l ++ { w with demand := demand } :: m } := by
  unfold Arbiter.topUp
  rw [entryOf_held list who others]
  dsimp only
  rw [if_pos rfl, replace_held list who others]

theorem topUp_moves {cls : FlowClass} (other : w.cls ≠ cls) (now : Tick) (demand : Nat) :
    a.topUp now r cls demand = { a with waitList := placeEntry (newEntry now r cls demand) (l ++ m) } := by
  unfold Arbiter.topUp
  rw [entryOf_held list who others]
  dsimp only
  rw [if_neg other, withdraw_held list who others]
  rfl

end held

/-- Settles O51: a back-off's entry is placed by R114's order, which in an ordered list separates the unmarked NORMAL entries from
the rest; a top-up's entry is placed, its demand replaced, or it is placed anew without the old one. -/
theorem backoffTakesTheGrant : Obligations.BackoffTakesTheGrant := by
  refine ⟨fun s b h entry fits running made => ?_, fun a now r cls demand entry ahead made spec => ?_⟩
  · obtain ⟨q, backed⟩ := backOff_written running
    have place : (s.backOff b).arbiter.waitList = _ := backOff_waitList running
    rw [show s.backEntry b = entry from made.symm] at place
    refine ⟨?_, ?_, place, fun served => ?_, ?_, backOff_shows fits running, fun c ne => ⟨?_, ?_⟩⟩
    · rw [backed, written_grant]
      exact four_get_set_self _ _ _
    · rw [backed, written_arbiter, takeBack_eq]
      simp
    · have ordered := takeWhile_eq_filter (R := fun d e : WaitEntry => d.place ≤ e.place)
        (fun _ _ => ahead_of_unmarked) (List.pairwise_map.1 served.order)
      rw [place, ordered.1, ordered.2]
      congr 3
      funext e
      cases e.cls <;> cases e.backedOff <;> simp
    · rw [backed, written_boom, Boom.backedOff]
    · rw [backed, written_boom_of_ne _ _ _ _ _ ne]
    · rw [backed, written_grant]
      exact four_get_set_of_ne _ _ ne
  · have behind : goesBehind entry = ahead := by
      funext e
      rw [Bool.eq_iff_iff, spec e, made]
      exact goesBehind_newEntry now r cls demand e
    have new : newEntry now r cls demand = entry := made.symm
    refine ⟨fun absent => ?_, fun l w m list who others => ⟨fun same => ?_, fun other => ?_⟩⟩
    · rw [topUp_places absent, new, placeEntry_eq, behind]
    · rw [← same, topUp_replaces list who others]
    · rw [topUp_moves list who others other, new, placeEntry_eq, behind]

end Sys2Proof.Machine

end

section
/-! SUPPORT. The rules of the invariant of flow and lists, one for each thing a command writes: a boom, the arbiter, or nothing of
what the invariant looks at (R109, R113, R114, R172, R175, R179). -/

namespace Sys2Proof.Machine

/-! ## What the invariant sees of a boom -/

/-- The state code a level-0 context shows (R200): 0 for IDLE, 4 for LOG_WAIT. -/
def Auto.code (a : Auto) : Nat := a.view.state

theorem Auto.code_idle (a : Auto) : a = .idle ↔ a.code = 0 := by cases a <;> simp [Auto.code, Auto.view]

theorem Auto.code_logWait (a : Auto) : (∃ r, a = .logWait r) ↔ a.code = 4 := by cases a <;> simp [Auto.code, Auto.view]

theorem Auto.holdsNone_code (a : Auto) : a.holdsNone = true ↔ a.code = 0 ∨ a.code = 4 ∨ a.code = 5 := by
  cases a <;> simp [Auto.holdsNone, Auto.code, Auto.view]

theorem holdsNone_same {a d : Auto} (code : d.code = a.code) : d.holdsNone = a.holdsNone := by
  rw [Bool.eq_iff_iff, Auto.holdsNone_code, Auto.holdsNone_code, code]

/-- A hole is under way: CYCLE, EXCEPTION or ABANDONING. -/
theorem code_of_hole {a : Auto} (hole : a.holdsNone = false) : a.code ≠ 0 ∧ a.code ≠ 4 := by
  have none : ¬ a.holdsNone = true := by simp [hole]
  rw [Auto.holdsNone_code] at none
  omega

/-- The boom stands as it did: in a context of the same kind at the same level, and still waiting if it waited. -/
structure Boom.SameStanding (x y : Boom) : Prop where
  level : y.level = x.level
  code : y.auto.code = x.auto.code
  waits : x.waitsForFlow → y.waitsForFlow

theorem Boom.SameStanding.refl (x : Boom) : x.SameStanding x := ⟨rfl, rfl, id⟩

theorem Boom.SameStanding.trans {x y z : Boom} (h : x.SameStanding y) (k : y.SameStanding z) : x.SameStanding z :=
  ⟨k.level.trans h.level, k.code.trans h.code, k.waits ∘ h.waits⟩

/-- A boom in the same contexts stands as it did. -/
theorem Boom.SameStanding.of_contexts {x y : Boom} (auto : y.auto = x.auto) (retract : y.retract = x.retract)
    (manual : y.manual = x.manual) : x.SameStanding y :=
  ⟨level_same retract manual, by rw [auto], by unfold Boom.waitsForFlow; rw [auto, retract, manual]; exact id⟩

/-- A boom that waits is at an intervention level or has a hole under way. -/
theorem waits_not_restful {x : Boom} (waits : x.waitsForFlow) (level : x.level = 0) : x.auto.holdsNone = false := by
  obtain ⟨retract, manual⟩ := level_zero level
  unfold Boom.waitsForFlow at waits
  rw [retract, manual] at waits
  cases auto : x.auto <;> simp [auto, Auto.holdsNone] at waits ⊢

/-! ## Nothing of what the invariant looks at -/

/-- What the invariant looks at is as it was; the log may have grown. -/
structure State.SameFlow (s t : State) : Prop where
  capacity : t.params.pumpCapacity = s.params.pumpCapacity
  fits : ∀ b, t.fits b = s.fits b
  mode : t.mode = s.mode
  writers : t.writers = s.writers
  log : s.log.length ≤ t.log.length
  grants : t.arbiter.grants = s.arbiter.grants
  reserve : t.arbiter.reserve = s.arbiter.reserve
  requesters : t.arbiter.waitList.map WaitEntry.requester = s.arbiter.waitList.map WaitEntry.requester
  places : t.arbiter.waitList.map WaitEntry.place = s.arbiter.waitList.map WaitEntry.place
  booms : ∀ b, (s.boom b).SameStanding (t.boom b)

theorem State.SameFlow.refl (s : State) : s.SameFlow s :=
  ⟨rfl, fun _ => rfl, rfl, rfl, le_rfl, rfl, rfl, rfl, rfl, fun _ => Boom.SameStanding.refl _⟩

theorem State.SameFlow.trans {s t u : State} (h : s.SameFlow t) (k : t.SameFlow u) : s.SameFlow u :=
  ⟨k.capacity.trans h.capacity, fun b => (k.fits b).trans (h.fits b), k.mode.trans h.mode, k.writers.trans h.writers,
    h.log.trans k.log, k.grants.trans h.grants, k.reserve.trans h.reserve, k.requesters.trans h.requesters,
    k.places.trans h.places, fun b => (h.booms b).trans (k.booms b)⟩

theorem State.SameFlow.grant {s t : State} (h : s.SameFlow t) (b : Slot) : t.grant b = s.grant b := by
  unfold State.grant; rw [h.grants]

/-- An entry of the one wait list has its requester in the other. -/
theorem mem_requester {l : List WaitEntry} {e : WaitEntry} (mem : e ∈ l) : e.requester ∈ l.map WaitEntry.requester :=
  List.mem_map_of_mem mem

theorem State.Served.of_same {s t : State} (served : s.Served) (same : s.SameFlow t) : t.Served where
  capacity := by
    have total : t.arbiter.total = s.arbiter.total := by unfold Arbiter.total; rw [same.grants, same.reserve]
    unfold State.flowSafe
    rw [total, same.capacity]
    exact served.capacity
  entries e mem b who := by
    have listed := mem_requester mem
    rw [same.requesters] at listed
    obtain ⟨d, old, requester⟩ := List.mem_map.1 listed
    exact (same.booms b).waits (served.entries d old b (requester.trans who))
  once := by rw [same.requesters]; exact served.once
  order := by rw [same.places]; exact served.order
  restful b level none := by
    rw [same.grant]
    rw [(same.booms b).level] at level
    rw [holdsNone_same (same.booms b).code] at none
    exact served.restful b level none
  unfitted b fits := by
    rw [same.fits] at fits
    rw [(same.booms b).level, Auto.code_idle, (same.booms b).code, ← Auto.code_idle]
    exact served.unfitted b fits
  config mode b := by
    rw [same.mode] at mode
    rw [(same.booms b).level, Auto.code_idle, (same.booms b).code, ← Auto.code_idle]
    exact served.config mode b
  writersOnce := by rw [same.writers]; exact served.writersOnce
  writersWait b := by
    rw [same.writers, Auto.code_logWait, (same.booms b).code, ← Auto.code_logWait]
    exact served.writersWait b
  logFull some := by
    rw [same.writers] at some
    exact (served.logFull some).trans same.log

/-! ## The arbiter -/

/-- The rule for the arbiter: the sum within the capacity, entries only of booms that wait, each once and in their order, and no flow
for a boom without a hole. -/
theorem State.Served.withArbiter {s : State} (served : s.Served) {a : Arbiter} (capacity : a.total ≤ s.params.pumpCapacity)
    (entries : ∀ e ∈ a.waitList, ∀ b, e.requester = .boom b → (s.boom b).waitsForFlow)
    (once : (a.waitList.map WaitEntry.requester).Nodup) (order : (a.waitList.map WaitEntry.place).Pairwise (· ≤ ·))
    (restful : ∀ b, (s.boom b).level = 0 → (s.boom b).auto.holdsNone = true → a.grants.get b = 0) :
    ({ s with arbiter := a } : State).Served where
  capacity := capacity
  entries := entries
  once := once
  order := order
  restful := restful
  unfitted := served.unfitted
  config := served.config
  writersOnce := served.writersOnce
  writersWait := served.writersWait
  logFull := served.logFull

/-! ## A boom -/

/-- What a boom written in slot `b` must be, whatever becomes of the writers: it waits if it has an entry, is without flow when it rests
at level 0 without a hole, and is at rest where the slot is unfitted or the mode CONFIG. -/
structure State.Seats (s : State) (b : Slot) (x : Boom) : Prop where
  waits : s.entryless b ∨ x.waitsForFlow
  restful : x.level = 0 → x.auto.holdsNone = true → s.grant b = 0
  placed : (x.auto = .idle ∧ x.level = 0) ∨ (s.fits b = true ∧ s.mode ≠ .config)

/-- What a boom written in slot `b` must be: beside that, in LOG_WAIT exactly when it was. -/
structure State.Suits (s : State) (b : Slot) (x : Boom) : Prop extends s.Seats b x where
  writes : x.auto.code = 4 ↔ (s.boom b).auto.code = 4

/-- A boom, the writers and the log written at once: the writers are the booms in LOG_WAIT, each once, beside a full log. -/
theorem State.Served.setWriters {s : State} (served : s.Served) {b : Slot} {x : Boom} {ws : List Slot} {l : List BoltRecord}
    (seats : s.Seats b x) (once : ws.Nodup) (own : b ∈ ws ↔ x.auto.code = 4)
    (others : ∀ c, c ≠ b → (c ∈ ws ↔ c ∈ s.writers)) (full : ws ≠ [] → 48 ≤ l.length) :
    ({ s.setBoom b x with writers := ws, log := l } : State).Served := by
  have self : ({ s.setBoom b x with writers := ws, log := l } : State).boom b = x := State.setBoom_boom s b x
  have other : ∀ c, c ≠ b → ({ s.setBoom b x with writers := ws, log := l } : State).boom c = s.boom c := fun c ne =>
    State.setBoom_boom_of_ne s x ne
  refine ⟨served.capacity, fun e mem c who => ?_, served.once, served.order, fun c level none => ?_, fun c fits => ?_,
    fun mode c => ?_, once, fun c => ?_, full⟩ <;> rcases eq_or_ne c b with rfl | ne
  · rw [self]
    rcases seats.waits with free | waits
    · exact absurd who (free e mem)
    · exact waits
  · rw [other c ne]; exact served.entries e mem c who
  · rw [self] at level none; exact seats.restful level none
  · rw [other c ne] at level none; exact served.restful c level none
  · rw [self]
    rcases seats.placed with rests | ⟨fitted, -⟩
    · exact rests
    · exact absurd (fitted.symm.trans fits) (by decide)
  · rw [other c ne]; exact served.unfitted c fits
  · rw [self]
    rcases seats.placed with rests | ⟨-, drilling⟩
    · exact rests
    · exact absurd mode drilling
  · rw [other c ne]; exact served.config mode c
  · rw [self, Auto.code_logWait]; exact own
  · rw [other c ne, ← served.writersWait]; exact others c ne

theorem State.Served.setBoom {s : State} (served : s.Served) {b : Slot} {x : Boom} (suits : s.Suits b x) :
    (s.setBoom b x).Served :=
  served.setWriters (ws := s.writers) (l := s.log) suits.toSeats served.writersOnce
    (by rw [suits.writes, ← Auto.code_logWait]; exact served.writersWait b) (fun _ _ => Iff.rfl) served.logFull

/-! ## The link, and a boom's view -/

theorem State.Served.link {s : State} (served : s.Served) (l : Link) : ({ s with link := l } : State).Served :=
  served.of_same { State.SameFlow.refl s with }

theorem State.Served.changeBoom {s : State} (served : s.Served) {b : Slot} {x : Boom} (suits : s.Suits b x) :
    (s.changeBoom b x).Served := by
  obtain ⟨q, eq⟩ := changeBoom_link s b x
  rw [eq]
  exact (served.setBoom suits).link _

theorem State.Served.queueStatus {s : State} (served : s.Served) (b : Slot) : (s.queueStatus b).Served := by
  unfold State.queueStatus; split
  · exact served.link _
  · exact served

theorem State.Served.queueException {s : State} (served : s.Served) (b : Slot) (f : ExFrame) :
    (s.queueException b f).Served := by
  unfold State.queueException; split
  · exact served.link _
  · exact served

/-! ## Booms in use -/

/-- A boom that is not at rest is fitted, in a mode other than CONFIG. -/
theorem State.Served.inUse {s : State} (served : s.Served) {b : Slot} (busy : (s.boom b).auto.code ≠ 0 ∨ (s.boom b).level ≠ 0) :
    s.fits b = true ∧ s.mode ≠ .config := by
  have apart : ¬ ((s.boom b).auto = .idle ∧ (s.boom b).level = 0) := by
    rintro ⟨idle, level⟩
    rw [Auto.code_idle] at idle
    rcases busy with busy | busy <;> exact busy (by assumption)
  constructor
  · rw [← Bool.not_eq_false]
    exact fun unfitted => apart (served.unfitted b unfitted)
  · exact fun config => apart (served.config config b)

/-- A boom that does not wait has no entry (R113). -/
theorem State.Served.entryless {s : State} (served : s.Served) {b : Slot} (still : ¬ (s.boom b).waitsForFlow) :
    s.entryless b := fun e mem who => still (served.entries e mem b who)

/-- A boom that stands as it did may be written in any served state. -/
theorem State.Served.suits_same {s : State} (served : s.Served) {b : Slot} {x : Boom} (same : (s.boom b).SameStanding x) :
    s.Suits b x where
  waits := by
    by_cases waits : (s.boom b).waitsForFlow
    · exact .inr (same.waits waits)
    · exact .inl (served.entryless waits)
  restful level none := by
    rw [same.level] at level
    rw [holdsNone_same same.code] at none
    exact served.restful b level none
  placed := by
    by_cases busy : (s.boom b).auto.code ≠ 0 ∨ (s.boom b).level ≠ 0
    · exact .inr (served.inUse busy)
    · left
      rw [Auto.code_idle, same.code, same.level]
      omega
  writes := by rw [same.code]

theorem State.Served.setSame {s : State} (served : s.Served) {b : Slot} {x : Boom} (same : (s.boom b).SameStanding x) :
    (s.setBoom b x).Served := served.setBoom (served.suits_same same)

end Sys2Proof.Machine

end

section
/-! SUPPORT. What a reduction, a withdrawal, a top-up, a grant and a back-off keep of the invariant of flow and lists (R109, R113 to
R121). -/

namespace Sys2Proof.Machine

/-! ## Grants and their sum -/

/-- What one requester's grant is set to, the sum of the five follows. -/
theorem setGrant_total (a : Arbiter) (r : Requester) (n : Nat) : (a.setGrant r n).total + a.grantOf r = a.total + n := by
  cases r with
  | boom b => exact total_set a b n
  | reserve =>
    change a.grants.b1 + a.grants.b2 + a.grants.b3 + a.grants.b4 + n + a.reserve =
      a.grants.b1 + a.grants.b2 + a.grants.b3 + a.grants.b4 + a.reserve + n
    omega

theorem setGrant_get (a : Arbiter) (r : Requester) (n : Nat) (b : Slot) :
    (a.setGrant r n).grants.get b = if r = .boom b then n else a.grants.get b := by
  cases r with
  | reserve => rfl
  | boom c =>
    by_cases own : b = c
    · subst own; rw [if_pos rfl]; exact four_get_set_self _ _ _
    · rw [if_neg (by rintro ⟨⟩; exact own rfl)]; exact four_get_set_of_ne _ _ own

@[simp] theorem setGrant_waitList (a : Arbiter) (r : Requester) (n : Nat) : (a.setGrant r n).waitList = a.waitList := by
  cases r <;> rfl

@[simp] theorem setGrant_grantList (a : Arbiter) (r : Requester) (n : Nat) : (a.setGrant r n).grantList = a.grantList := by
  cases r <;> rfl

/-! ## Reductions and grants as writes of one grant and one entry -/

theorem reduce_waitList (a : Arbiter) (r : Requester) (n : Nat) :
    (a.reduce r n).waitList = a.waitList.filter (fun e => e.requester ≠ r) := by
  unfold Arbiter.reduce
  dsimp only
  split <;> simp [Arbiter.withdraw]

theorem reduce_grants (a : Arbiter) (r : Requester) (n : Nat) :
    (a.reduce r n).grants = (a.setGrant r (min n (a.grantOf r))).grants := by
  unfold Arbiter.reduce
  dsimp only
  split <;> simp [Arbiter.withdraw]

theorem reduce_total (a : Arbiter) (r : Requester) (n : Nat) :
    (a.reduce r n).total = (a.setGrant r (min n (a.grantOf r))).total := by
  unfold Arbiter.reduce Arbiter.total
  dsimp only
  split <;> simp [Arbiter.withdraw]

theorem reduce_total_le (a : Arbiter) (r : Requester) (n : Nat) : (a.reduce r n).total ≤ a.total := by
  have sum := setGrant_total a r (min n (a.grantOf r))
  rw [reduce_total]
  omega

theorem award_waitList (a : Arbiter) (e : WaitEntry) :
    (a.award e).waitList = a.waitList.filter (fun w => w.requester ≠ e.requester) := by
  simp [Arbiter.award, Arbiter.withdraw]

theorem award_grants (a : Arbiter) (e : WaitEntry) : (a.award e).grants = (a.setGrant e.requester e.demand).grants := rfl

theorem award_total (a : Arbiter) (e : WaitEntry) : (a.award e).total = (a.setGrant e.requester e.demand).total := rfl

/-- A grant that fits keeps the sum within the capacity (R109, R119). -/
theorem award_fits {s : State} {e : WaitEntry} (safe : s.flowSafe) (fits : e.demand - s.arbiter.grantOf e.requester ≤ s.free) :
    (s.arbiter.award e).total ≤ s.params.pumpCapacity := by
  have sum := setGrant_total s.arbiter e.requester e.demand
  have capacity : s.arbiter.total ≤ s.params.pumpCapacity := safe
  have free : s.free = s.params.pumpCapacity - s.arbiter.total := rfl
  rw [award_total]
  omega

/-! ## Entries in their order -/

/-- Where an entry is placed follows the order of classes and marks (R114). -/
theorem goesBehind_place (new e : WaitEntry) :
    if goesBehind new e then e.place ≤ new.place else new.place ≤ e.place := by
  by_cases class_ : e.cls = new.cls
  · cases marked : e.backedOff <;> cases newMarked : new.backedOff <;>
      cases cls : new.cls <;> simp [goesBehind, WaitEntry.place, class_, marked, newMarked, cls]
  · revert class_
    cases old : e.cls <;> cases cls : new.cls <;> simp [goesBehind, WaitEntry.place, old, cls, FlowClass.rank] <;>
      split <;> omega

theorem placeEntry_ordered {new : WaitEntry} {l : List WaitEntry} (ordered : l.Pairwise fun d e => d.place ≤ e.place) :
    (placeEntry new l).Pairwise fun d e => d.place ≤ e.place := by
  induction l with
  | nil => exact List.pairwise_singleton _ _
  | cons e es ih =>
    obtain ⟨first, rest⟩ := List.pairwise_cons.1 ordered
    have place := goesBehind_place new e
    unfold placeEntry
    cases behind : goesBehind new e with
    | true =>
      rw [behind, if_pos rfl] at place
      rw [if_pos rfl]
      refine List.pairwise_cons.2 ⟨fun x mem => ?_, ih rest⟩
      rcases (mem_placeEntry new es x).1 mem with rfl | old
      · exact place
      · exact first x old
    | false =>
      rw [behind, if_neg Bool.false_ne_true] at place
      rw [if_neg Bool.false_ne_true]
      refine List.pairwise_cons.2 ⟨fun x mem => ?_, ordered⟩
      rcases List.mem_cons.1 mem with rfl | old
      · exact place
      · exact place.trans (first x old)

theorem placeEntry_perm (new : WaitEntry) (l : List WaitEntry) : (placeEntry new l).Perm (new :: l) := by
  rw [placeEntry_eq]
  exact List.perm_middle.trans (by rw [List.takeWhile_append_dropWhile])

theorem placeEntry_once {new : WaitEntry} {l : List WaitEntry} (once : (l.map WaitEntry.requester).Nodup)
    (absent : ∀ e ∈ l, e.requester ≠ new.requester) : ((placeEntry new l).map WaitEntry.requester).Nodup := by
  rw [((placeEntry_perm new l).map WaitEntry.requester).nodup_iff, List.map_cons, List.nodup_cons]
  refine ⟨fun mem => ?_, once⟩
  obtain ⟨e, old, who⟩ := List.mem_map.1 mem
  exact absent e old who

namespace State.Served

variable {s : State} (served : s.Served)

include served

/-! ## Entries taken out -/

theorem listed : s.arbiter.waitList.Pairwise fun d e => d.place ≤ e.place := List.pairwise_map.1 served.order

/-- A wait list that has only lost entries is in order, each requester once. -/
theorem withArbiter_filter {a : Arbiter} {p : WaitEntry → Bool} (list : a.waitList = s.arbiter.waitList.filter p)
    (capacity : a.total ≤ s.params.pumpCapacity)
    (restful : ∀ b, (s.boom b).level = 0 → (s.boom b).auto.holdsNone = true → a.grants.get b = 0) :
    ({ s with arbiter := a } : State).Served := by
  have sub : a.waitList.Sublist s.arbiter.waitList := by rw [list]; exact List.filter_sublist
  exact served.withArbiter capacity (fun e mem => served.entries e (sub.subset mem)) (served.once.sublist (sub.map _))
    (served.order.sublist (sub.map _)) restful

theorem reduce (r : Requester) (n : Nat) : ({ s with arbiter := s.arbiter.reduce r n } : State).Served := by
  refine served.withArbiter_filter (reduce_waitList _ _ _) ((reduce_total_le _ _ _).trans served.capacity)
    fun b level none => ?_
  have zero : s.arbiter.grants.get b = 0 := served.restful b level none
  rw [reduce_grants, setGrant_get]
  split
  · next own => subst own; exact Nat.min_eq_zero_iff.2 (.inr zero)
  · exact zero

theorem reduceBoom (b : Slot) (n : Nat) : (s.reduceBoom b n).Served := served.reduce (.boom b) n

theorem withdraw (r : Requester) : ({ s with arbiter := s.arbiter.withdraw r } : State).Served :=
  served.withArbiter_filter (a := s.arbiter.withdraw r) rfl served.capacity served.restful

/-- A granted boom waits, so it is none of those that hold no flow. -/
theorem award {e : WaitEntry} (mem : e ∈ s.arbiter.waitList) (fits : e.demand - s.arbiter.grantOf e.requester ≤ s.free) :
    ({ s with arbiter := s.arbiter.award e } : State).Served := by
  refine served.withArbiter_filter (award_waitList _ _) (award_fits served.capacity fits) fun b level none => ?_
  rw [award_grants, setGrant_get]
  split
  · next who => exact absurd none (by rw [waits_not_restful (served.entries e mem b who) level]; decide)
  · exact served.restful b level none

/-! ## Entries placed -/

theorem place {a : Arbiter} {new : WaitEntry} (list : a.waitList = placeEntry new s.arbiter.waitList)
    (capacity : a.total ≤ s.params.pumpCapacity) (absent : ∀ e ∈ s.arbiter.waitList, e.requester ≠ new.requester)
    (waits : ∀ b, new.requester = .boom b → (s.boom b).waitsForFlow)
    (restful : ∀ b, (s.boom b).level = 0 → (s.boom b).auto.holdsNone = true → a.grants.get b = 0) :
    ({ s with arbiter := a } : State).Served := by
  refine served.withArbiter capacity (fun e mem b who => ?_) ?_ ?_ restful
  · rw [list] at mem
    rcases (mem_placeEntry _ _ _).1 mem with rfl | old
    · exact waits b who
    · exact served.entries e old b who
  · rw [list]; exact placeEntry_once served.once absent
  · rw [list]; exact List.pairwise_map.2 (placeEntry_ordered served.listed)

theorem topUp {r : Requester} (waits : ∀ b, r = .boom b → (s.boom b).waitsForFlow) (now : Tick) (cls : FlowClass) (n : Nat) :
    ({ s with arbiter := s.arbiter.topUp now r cls n } : State).Served := by
  unfold Arbiter.topUp
  cases entry : s.arbiter.entryOf r with
  | none =>
    have absent : ∀ e ∈ s.arbiter.waitList, e.requester ≠ r := by simpa [Arbiter.entryOf] using entry
    exact served.place (new := newEntry now r cls n) rfl served.capacity absent waits served.restful
  | some e =>
    dsimp only
    split
    · refine served.of_same { State.SameFlow.refl s with requesters := ?_, places := ?_ } <;>
        · simp only [List.map_map]
          refine List.map_congr_left fun w _ => ?_
          simp only [Function.comp_apply]
          split <;> rfl
    · have absent : ∀ w ∈ (s.arbiter.withdraw r).waitList, w.requester ≠ r := by simp [Arbiter.withdraw]
      exact (served.withdraw r).place (new := newEntry now r cls n) (a := { s.arbiter.withdraw r with
        waitList := placeEntry (newEntry now r cls n) (s.arbiter.withdraw r).waitList }) rfl served.capacity absent waits
        served.restful

theorem topUpBoom {b : Slot} (waits : (s.boom b).waitsForFlow) (cls : FlowClass) (n : Nat) :
    (s.topUpBoom b cls n).Served :=
  served.topUp (r := .boom b) (fun c who => by injection who with same; exact same ▸ waits) s.clock cls n

/-- The flow of a waiting boom without an entry is taken, and it stands in line for it (R121). -/
theorem takeBack {b : Slot} (free : s.entryless b) (waits : (s.boom b).waitsForFlow) (now : Tick) :
    ({ s with arbiter := s.arbiter.takeBack now b } : State).Served := by
  have sum : (s.arbiter.takeBack now b).total + s.arbiter.grants.get b = s.arbiter.total + 0 := total_set s.arbiter b 0
  have capacity : s.arbiter.total ≤ s.params.pumpCapacity := served.capacity
  refine served.place 
    (new := { requester := .boom b, cls := .normal, demand := s.arbiter.grants.get b, join := now, waitStart := now,
              backedOff := true }) rfl (by omega) free
    (fun c who => by injection who with same; exact same ▸ waits) fun c level none => ?_
  have own : c ≠ b := fun same => by
    rw [same] at none level
    exact absurd none (by rw [waits_not_restful waits level]; decide)
  exact (four_get_set_of_ne _ _ own).trans (served.restful c level none)

end State.Served

/-! ## Who has no entry -/

theorem reduceBoom_entryless (s : State) (b : Slot) (n : Nat) : (s.reduceBoom b n).entryless b := by
  intro e mem
  change e ∈ (s.arbiter.reduce (.boom b) n).waitList at mem
  rw [reduce_waitList] at mem
  simpa using (List.mem_filter.1 mem).2

theorem withdraw_entryless (s : State) (b : Slot) :
    ({ s with arbiter := s.arbiter.withdraw (.boom b) } : State).entryless b := by
  intro e mem
  simpa using (List.mem_filter.1 mem).2

theorem award_entryless {s : State} {e : WaitEntry} {b : Slot} (who : e.requester = .boom b) :
    ({ s with arbiter := s.arbiter.award e } : State).entryless b := by
  intro w mem
  change w ∈ (s.arbiter.award e).waitList at mem
  rw [award_waitList, who] at mem
  simpa using (List.mem_filter.1 mem).2

end Sys2Proof.Machine

end

section
/-! SUPPORT. Motion, back-off and the evaluation keep the invariant of flow and lists (R28, R118 to R121, R134). -/

namespace Sys2Proof.Machine

/-! ## Booms that may work on a hole -/

/-- The boom may work on a hole: fitted, out of CONFIG, at level 0 and not in LOG_WAIT. -/
structure State.Works (s : State) (b : Slot) : Prop where
  fits : s.fits b = true
  mode : s.mode ≠ .config
  level : (s.boom b).level = 0
  code : (s.boom b).auto.code ≠ 4

/-- The invariant holds, and a boom that may work on a hole has no entry. -/
structure State.Going (s : State) (b : Slot) : Prop where
  served : s.Served
  works : s.Works b
  free : s.entryless b

theorem State.Served.works {s : State} (served : s.Served) {b : Slot} (level : (s.boom b).level = 0)
    (hole : (s.boom b).auto.holdsNone = false) : s.Works b :=
  ⟨(served.inUse (.inl (code_of_hole hole).1)).1, (served.inUse (.inl (code_of_hole hole).1)).2, level, (code_of_hole hole).2⟩

/-- A boom with a hole under way may be written where it may work: without an entry, or waiting. -/
theorem State.Works.suits {s : State} {b : Slot} {x : Boom} (works : s.Works b) (waits : s.entryless b ∨ x.waitsForFlow)
    (hole : x.auto.holdsNone = false) : s.Suits b x where
  waits := waits
  restful _ none := absurd none (by rw [hole]; decide)
  placed := .inr ⟨works.fits, works.mode⟩
  writes := ⟨fun code => absurd code (code_of_hole hole).2, fun code => absurd code works.code⟩

theorem State.Works.setBoom {s : State} {b : Slot} {x : Boom} (works : s.Works b) (level : x.level = 0)
    (code : x.auto.code ≠ 4) : (s.setBoom b x).Works b :=
  ⟨works.fits, works.mode, by rw [State.setBoom_boom]; exact level, by rw [State.setBoom_boom]; exact code⟩

theorem State.Works.changeBoom {s : State} {b : Slot} {x : Boom} (works : s.Works b) (level : x.level = 0)
    (code : x.auto.code ≠ 4) : (s.changeBoom b x).Works b := by
  obtain ⟨q, eq⟩ := changeBoom_link s b x
  have set := works.setBoom level code
  rw [eq]
  exact ⟨set.fits, set.mode, set.level, set.code⟩

theorem State.Works.withArbiter {s : State} {b : Slot} (works : s.Works b) (a : Arbiter) :
    ({ s with arbiter := a } : State).Works b := ⟨works.fits, works.mode, works.level, works.code⟩

/-! ## A boom and the arbiter written in either order -/

theorem changeBoom_withArbiter (s : State) (b : Slot) (x : Boom) (a : Arbiter) :
    ({ s with arbiter := a } : State).changeBoom b x = { s.changeBoom b x with arbiter := a } := by
  unfold State.changeBoom State.queueStatus
  change (if x.view = (s.boom b).view then _ else if s.fits b = true then _ else _) = _
  split
  · rfl
  · change (if s.fits b = true then _ else _) =
      { (if s.fits b = true then _ else _ : State) with arbiter := a }
    split <;> rfl

theorem changeBoom_reduceBoom (s : State) (b : Slot) (x : Boom) (n : Nat) :
    (s.changeBoom b x).reduceBoom b n = (s.reduceBoom b n).changeBoom b x := by
  change ({ s.changeBoom b x with arbiter := (s.changeBoom b x).arbiter.reduce (.boom b) n } : State) = _
  rw [changeBoom_arbiter]
  exact (changeBoom_withArbiter s b x _).symm

namespace State.Served

variable {s : State} (served : s.Served)

include served

/-! ## Stops and starts -/

/-- A boom stopped in its hole: its entry goes with its flow (R134). -/
theorem stopBoom {b : Slot} (works : s.Works b) (h : Hole) (k : FrameKind) (c : Cond) (n : Nat) (p q : Phase) :
    (s.stopBoom b h k c n p q).Served := by
  unfold State.stopBoom
  dsimp only
  rw [changeBoom_reduceBoom]
  refine (((served.reduceBoom b _).changeBoom ?_).queueException b _).queueStatus b
  exact (works.withArbiter _).suits (.inl (reduceBoom_entryless s b _)) rfl

theorem stopInPhase {b : Slot} (works : s.Works b) (h : Hole) (c : Cond) (n : Nat) : (s.stopInPhase b h c n).Served :=
  served.stopBoom works h _ _ _ _ _

/-- A boom in the same contexts as before. -/
theorem setContexts {b : Slot} {x : Boom} (auto : x.auto = (s.boom b).auto := by rfl)
    (retract : x.retract = (s.boom b).retract := by rfl) (manual : x.manual = (s.boom b).manual := by rfl) :
    (s.setBoom b x).Served := served.setSame (Boom.SameStanding.of_contexts auto retract manual)

theorem raise (b : Slot) (cs : List Cond) : (s.raise b cs).Served := served.setContexts

end State.Served

theorem State.Works.setContexts {s : State} {b : Slot} {x : Boom} (works : s.Works b)
    (auto : x.auto = (s.boom b).auto := by rfl) (retract : x.retract = (s.boom b).retract := by rfl)
    (manual : x.manual = (s.boom b).manual := by rfl) : (s.setBoom b x).Works b :=
  works.setBoom ((level_same retract manual).trans works.level) (by rw [auto]; exact works.code)

theorem State.Works.raise {s : State} {b : Slot} (works : s.Works b) (cs : List Cond) : (s.raise b cs).Works b :=
  works.setContexts

namespace State.Going

variable {s : State} {b : Slot} (going : s.Going b)

include going

/-- A boom with a hole under way, at level 0. -/
theorem changeBoom {x : Boom} (level : x.level = 0) (hole : x.auto.holdsNone = false) : (s.changeBoom b x).Going b where
  served := going.served.changeBoom (going.works.suits (.inl going.free) hole)
  works := going.works.changeBoom level (code_of_hole hole).2
  free := by unfold State.entryless; rw [changeBoom_arbiter]; exact going.free

theorem setBoom {x : Boom} (level : x.level = 0) (hole : x.auto.holdsNone = false) : (s.setBoom b x).Going b where
  served := going.served.setBoom (going.works.suits (.inl going.free) hole)
  works := going.works.setBoom level (code_of_hole hole).2
  free := going.free

/-- A boom in the same contexts as before. -/
theorem setContexts {x : Boom} (auto : x.auto = (s.boom b).auto := by rfl)
    (retract : x.retract = (s.boom b).retract := by rfl) (manual : x.manual = (s.boom b).manual := by rfl) :
    (s.setBoom b x).Going b :=
  ⟨going.served.setContexts auto retract manual, going.works.setContexts auto retract manual, going.free⟩

theorem raise (cs : List Cond) : (s.raise b cs).Going b := going.setContexts

theorem reduceBoom (n : Nat) : (s.reduceBoom b n).Going b :=
  ⟨going.served.reduceBoom b n, going.works.withArbiter _, reduceBoom_entryless s b n⟩

theorem moveOff (h : Hole) (now : Bool) : (s.moveOff b h now).Served := by
  unfold State.moveOff
  dsimp only
  split <;> exact going.served.changeBoom (going.works.suits (.inl going.free) rfl)

theorem startCycle (h : Hole) (now : Bool) : (s.startCycle b h now).Served := by
  unfold State.startCycle
  split
  · exact (going.served.raise b _).stopInPhase (going.works.raise _) h _ _
  · exact going.moveOff h now

theorem moveAbandon (h : Hole) : (s.moveAbandon b h).Served := by
  unfold State.moveAbandon
  dsimp only
  split <;> exact going.served.changeBoom (going.works.suits (.inl going.free) rfl)

end State.Going

namespace State.Served

variable {s : State} (served : s.Served)

include served

/-- A boom at an intervention level is written at one, its level-0 context of the same kind. -/
theorem suits_away {b : Slot} {x : Boom} (away : (s.boom b).level ≠ 0) (stays : x.level ≠ 0)
    (waits : s.entryless b ∨ x.waitsForFlow) (code : x.auto.code = (s.boom b).auto.code) : s.Suits b x where
  waits := waits
  restful level := absurd level stays
  placed := .inr (served.inUse (.inr away))
  writes := by rw [code]

theorem moveRetract {b : Slot} {c : RetractCtx} (retract : (s.boom b).retract = some c) (free : s.entryless b)
    (r : RetractCtx) : (s.moveRetract b r).Served := by
  have away : (s.boom b).level ≠ 0 := by rw [level_two retract]; decide
  unfold State.moveRetract
  dsimp only
  split <;> exact served.changeBoom (served.suits_away away (by rw [level_two rfl]; decide) (.inl free) rfl)

/-! ## A grant told -/

/-- A requester that waited and has no entry any more is told of its grant (R119). -/
theorem tell (q : Bool) {r : Requester} (free : ∀ b, r = .boom b → s.entryless b)
    (waited : ∀ b, r = .boom b → (s.boom b).waitsForFlow) : (s.tell q r).Served := by
  cases r with
  | reserve =>
    unfold State.tell State.queueFlowGranted
    dsimp only
    split
    · exact served
    · exact served.link _
  | boom b =>
    have free := free b rfl
    have waited := waited b rfl
    unfold State.tell
    dsimp only
    split
    · next c retract =>
      split
      · exact served.moveRetract retract free c
      · exact served
    · next m retract manual =>
      have level := level_of_manual retract manual
      exact served.changeBoom (served.suits_away (by rw [level]; decide) (ne_of_eq_of_ne (level_of_manual retract rfl)
        (by decide)) (.inl free) rfl)
    · next h retract manual auto =>
      exact State.Going.startCycle
        ⟨served, served.works (level_of_contexts retract manual) (by rw [auto]; rfl), free⟩ h false
    · next h retract manual auto =>
      exact State.Going.startCycle
        ⟨served, served.works (level_of_contexts retract manual) (by rw [auto]; rfl), free⟩ h false
    · next h retract manual auto =>
      exact State.Going.moveAbandon
        ⟨served, served.works (level_of_contexts retract manual) (by rw [auto]; rfl), free⟩ h
    · exact served

theorem awardEntry (q : Bool) {e : WaitEntry} (mem : e ∈ s.arbiter.waitList)
    (fits : e.demand - s.arbiter.grantOf e.requester ≤ s.free) : (s.awardEntry q e).Served :=
  (served.award mem fits).tell q (fun _ who => award_entryless who) fun b who => served.entries e mem b who

/-! ## Back-off and the evaluation -/

theorem backOff {b : Slot} (eligible : s.backable b = true) : (s.backOff b).Served := by
  obtain ⟨h, running, -⟩ := (backable_iff s b).1 eligible
  obtain ⟨level, auto⟩ := running_context running
  obtain ⟨retract, manual⟩ := level_zero level
  have works := served.works level (by rw [auto]; rfl)
  have free : s.entryless b := served.entryless (by unfold Boom.waitsForFlow; rw [retract, manual, auto]; simp)
  have placed : (s.changeBoom b ((s.boom b).backedOff h)).Served := served.changeBoom (works.suits (.inl free) rfl)
  rw [backOff_eq running, changeBoom_withArbiter, ← changeBoom_arbiter s b ((s.boom b).backedOff h)]
  refine placed.takeBack (by unfold State.entryless; rw [changeBoom_arbiter]; exact free) ?_ _
  rw [changeBoom_boom]
  unfold Boom.waitsForFlow Boom.backedOff
  rw [retract, manual]
  exact .inr rfl

omit served in
theorem backOffUntil (need : Nat) (rs : List Requester) {s : State} (served : s.Served) :
    (State.backOffUntil need rs s).Served := by
  induction rs generalizing s with
  | nil => exact served
  | cons r rs ih =>
    unfold State.backOffUntil
    split
    · exact served
    · split
      · split
        · next eligible => exact ih (served.backOff eligible)
        · exact ih served
      · exact ih served

omit served in
theorem evaluateWith (q : Bool) (n : Nat) {s : State} (served : s.Served) : (State.evaluateWith q n s).Served := by
  induction n generalizing s with
  | zero => exact served
  | succ n ih =>
    unfold State.evaluateWith
    split
    · exact served
    · next e es list =>
      dsimp only
      split
      · next fits => exact ih (served.awardEntry q (by rw [list]; exact List.mem_cons_self) fits)
      · split
        · exact ih (served.backOffUntil _ _)
        · exact served

theorem evaluate : s.evaluate.Served := served.evaluateWith _ _

theorem withdrawBoom (b : Slot) : (s.withdrawBoom b).Served := by
  unfold State.withdrawBoom; split
  · exact served
  · exact (served.withdraw (.boom b)).evaluate

end State.Served

end Sys2Proof.Machine

end

section
/-! SUPPORT. The record log and the sequencer keep the invariant of flow and lists (R27, R43, R46, R134, R172, R175). -/

namespace Sys2Proof.Machine

/-! ## A withdrawal leaves its boom as it was -/

/-- A withdrawal leaves the boom as it was, without an entry: one that had an entry waited, and is not eligible for back-off. -/
theorem withdrawBoom_self {s : State} (served : s.Served) (b : Slot) :
    (s.withdrawBoom b).boom b = s.boom b ∧ (s.withdrawBoom b).entryless b := by
  unfold State.withdrawBoom
  split
  · next none => exact ⟨rfl, by simpa [State.entryless, Arbiter.entryOf] using none⟩
  · next e entry =>
    have waits : (s.boom b).waitsForFlow :=
      served.entries e (List.mem_of_find?_eq_some entry) b (by simpa using List.find?_some entry)
    have spared : s.backable b = false := by
      rw [← Bool.not_eq_true, backable_iff]
      rintro ⟨h, running, -⟩
      obtain ⟨level, auto⟩ := running_context running
      obtain ⟨retract, manual⟩ := level_zero level
      unfold Boom.waitsForFlow at waits
      rw [retract, manual, auto] at waits
      simp at waits
    have untouched := evaluateWith_untouched false (State.evaluationFuel { s with arbiter := s.arbiter.withdraw (.boom b) })
      { s with arbiter := s.arbiter.withdraw (.boom b) } (b := b) spared (withdraw_entryless s b)
    exact ⟨untouched.boom, untouched.entry (withdraw_entryless s b)⟩

theorem State.Works.of_books {s t : State} {b : Slot} (works : s.Works b) (books : s.SameBooks t)
    (boom : t.boom b = s.boom b) : t.Works b where
  fits := by unfold State.fits; rw [books.store.params]; exact works.fits
  mode := by rw [books.store.mode]; exact works.mode
  level := by rw [boom]; exact works.level
  code := by rw [boom]; exact works.code

/-- The boom waits in its cycle. -/
theorem waits_of_cycle {x : Boom} {h : Hole} (level : x.level = 0) (auto : x.auto = .cycle .waitFlow h) : x.waitsForFlow := by
  obtain ⟨retract, manual⟩ := level_zero level
  unfold Boom.waitsForFlow
  rw [retract, manual, auto]
  exact .inl rfl

theorem waits_of_abandon {x : Boom} {h : Hole} (level : x.level = 0) (auto : x.auto = .abandoning .waitFlow h) :
    x.waitsForFlow := by
  obtain ⟨retract, manual⟩ := level_zero level
  unfold Boom.waitsForFlow
  rw [retract, manual, auto]

/-! ## The log -/

theorem State.Going.emptyContext {s : State} {b : Slot} (going : s.Going b) (grant : s.grant b = 0) :
    (s.emptyContext b).Served :=
  going.served.changeBoom
    { waits := .inl going.free, restful := fun _ _ => grant, placed := .inr ⟨going.works.fits, going.works.mode⟩
      writes := ⟨fun code => (by cases code), fun code => absurd code going.works.code⟩ }

theorem writeRecord_sameFlow (s : State) (r : BoltRecord) : s.SameFlow (s.writeRecord r) :=
  { State.SameFlow.refl s with log := by simp [State.writeRecord, State.queueRecordReady] }

theorem State.Served.writeRecord {s : State} (served : s.Served) (r : BoltRecord) : (s.writeRecord r).Served :=
  served.of_same (writeRecord_sameFlow s r)

theorem State.Going.writeRecord {s : State} {b : Slot} (going : s.Going b) (r : BoltRecord) : (s.writeRecord r).Going b :=
  ⟨going.served.writeRecord r, ⟨going.works.fits, going.works.mode, going.works.level, going.works.code⟩, going.free⟩

/-- A boom without flow joins the waiting writers beside a full log (R175). -/
theorem State.Going.joinWriters {s : State} {b : Slot} (going : s.Going b) (grant : s.grant b = 0) (full : 48 ≤ s.log.length)
    (r : BoltRecord) :
    ({ s.changeBoom b { s.boom b with auto := .logWait r } with writers := s.writers ++ [b] } : State).Served := by
  have absent : b ∉ s.writers := by
    rw [going.served.writersWait, Auto.code_logWait]
    exact going.works.code
  have joined : ({ s.setBoom b { s.boom b with auto := .logWait r } with writers := s.writers ++ [b], log := s.log } :
      State).Served := by
    refine going.served.setWriters
      { waits := .inl going.free, restful := fun _ _ => grant, placed := .inr ⟨going.works.fits, going.works.mode⟩ }
      ?_ (by simp [Auto.code, Auto.view]) (fun c ne => by simp [ne]) fun _ => full
    exact going.served.writersOnce.append (List.nodup_singleton b) (by simpa using absent)
  obtain ⟨q, eq⟩ := changeBoom_link s b { s.boom b with auto := .logWait r }
  rw [eq]
  exact joined.link _

theorem State.Going.offerRecord {s : State} {b : Slot} (going : s.Going b) (grant : s.grant b = 0) (r : BoltRecord) :
    (s.offerRecord b r).Served := by
  unfold State.offerRecord
  split
  · exact (going.writeRecord r).emptyContext grant
  · next full => exact going.joinWriters grant (Nat.not_lt.1 full) r

namespace State.Served

variable {s : State} (served : s.Served) {b : Slot} (works : s.Works b)

include served works

/-- After a reduction the boom has no entry. -/
theorem reduced (n : Nat) : (s.reduceBoom b n).Going b :=
  ⟨served.reduceBoom b n, works.withArbiter _, reduceBoom_entryless s b n⟩

theorem endHole (h : Hole) : (s.endHole b h).Served := by
  have grant : (s.reduceBoom b 0).grant b = 0 := by rw [reduceBoom_grant]; exact Nat.zero_min _
  exact (((served.reduced works 0).setContexts).offerRecord grant _).evaluate

/-! ## The sequencer -/

omit works in
/-- A boom that waits for its flow from now on, with its request made. -/
theorem asks {x : Boom} (suits : s.Suits b x) (waits : x.waitsForFlow) (cls : FlowClass) (n : Nat) :
    ((s.changeBoom b x).topUpBoom b cls n).evaluate.Served :=
  ((served.changeBoom suits).topUpBoom (by rw [changeBoom_boom]; exact waits) cls n).evaluate

theorem askFlow (h : Hole) : (s.askFlow b h).Served := by
  unfold State.askFlow
  split
  · exact ((served.reduced works _).startCycle h true).evaluate
  · refine served.asks ?_ ?_ _ _
    · exact works.suits (.inr (waits_of_cycle works.level rfl)) rfl
    · exact waits_of_cycle works.level rfl

theorem enterPhase (h : Hole) (p : Phase) : (s.enterPhase b h p).Served :=
  askFlow (served.setContexts) works.setContexts _

theorem resume (h : Hole) : (s.resume b h).Served := served.askFlow works _

theorem cross (h : Hole) : (s.cross b h).Served := by
  unfold State.cross
  split
  · exact served.endHole works h
  · split
    · exact (served.stopBoom works h _ _ _ _ _).evaluate
    · exact served.enterPhase works h _

theorem endDrilling (h : Hole) : (s.endDrilling b h).Served :=
  cross (served.setContexts) works.setContexts _

theorem endMixing (h : Hole) : (s.endMixing b h).Served := served.cross works _

theorem endHolding (h : Hole) : (s.endHolding b h).Served := served.cross works _

theorem endTorquing (h : Hole) (n : Nat) (cs : List Cond) : (s.endTorquing b h n cs).Served :=
  cross (served.raise b _) (works.raise _) _

theorem abandonGo (h : Hole) : (s.abandonGo b h).Served := by
  unfold State.abandonGo
  split
  · exact served.endHole works h
  · split
    · exact ((served.reduced works _).moveAbandon h).evaluate
    · refine served.asks ?_ ?_ _ _
      · exact works.suits (.inr (waits_of_abandon works.level rfl)) rfl
      · exact waits_of_abandon works.level rfl

theorem abandonHole (h : Hole) : (s.abandonHole b h).Served := by
  have away := works.of_books (State.SameBooks.withdrawBoom s b) (withdrawBoom_self served b).1
  exact abandonGo ((served.withdrawBoom b).setContexts)
    away.setContexts _

theorem startHole (e : QueueEntry) (rest : List QueueEntry) (r : Recipe) : (s.startHole b e rest r).Served := by
  have taken : ({ s with queues := s.queues.set b rest } : State).Served := served.of_same { State.SameFlow.refl s with }
  have works' : ({ s with queues := s.queues.set b rest } : State).Works b :=
    ⟨works.fits, works.mode, works.level, works.code⟩
  exact enterPhase (taken.setContexts) works'.setContexts _ _

end State.Served

end Sys2Proof.Machine

end

section
/-! SUPPORT. A boom's sample keeps the invariant of flow and lists (R25, R47, R157, R161, R182). -/

namespace Sys2Proof.Machine

/-! ## Booms that stand as they did -/

/-- A hole replaced in its context leaves the boom standing as it did. -/
theorem Boom.SameStanding.of_hole {x y : Boom} {h : Hole} (auto : y.auto = x.auto.withHole h) (retract : y.retract = x.retract)
    (manual : y.manual = x.manual) : x.SameStanding y where
  level := level_same retract manual
  code := by rw [auto]; cases x.auto <;> rfl
  waits := by
    unfold Boom.waitsForFlow
    rw [auto, retract, manual]
    cases x.retract <;> cases x.manual <;> cases x.auto <;> exact id

/-- A takeover replaced by one in the same sub-state leaves the boom standing as it did. -/
theorem Boom.SameStanding.of_manual {x y : Boom} {m n : ManualCtx} (manual : x.manual = some m) (manual' : y.manual = some n)
    (sub : n.sub = m.sub) (auto : y.auto = x.auto) (retract : y.retract = x.retract) : x.SameStanding y where
  level := by
    unfold Boom.level
    rw [retract, manual, manual']
    cases x.retract <;> rfl
  code := by rw [auto]
  waits := by
    unfold Boom.waitsForFlow
    rw [auto, retract, manual, manual']
    cases x.retract with
    | some r => exact id
    | none => dsimp only; rw [sub]; exact id

/-- A retract replaced by one in the same sub-state leaves the boom standing as it did. -/
theorem Boom.SameStanding.of_retract {x y : Boom} {r c : RetractCtx} (retract : x.retract = some r) (retract' : y.retract = some c)
    (sub : c.sub = r.sub) (auto : y.auto = x.auto) : x.SameStanding y where
  level := (level_two retract').trans (level_two retract).symm
  code := by rw [auto]
  waits := by
    unfold Boom.waitsForFlow
    rw [retract, retract']
    dsimp only
    rw [sub]
    exact id

theorem running_of_contexts {x : Boom} {sub : CycleSub} {h : Hole} (retract : x.retract = none) (manual : x.manual = none)
    (auto : x.auto = .cycle sub h) : x.running = some (sub, h) := by
  unfold Boom.running
  rw [level_of_contexts retract manual, auto]
  rfl

namespace State.Going

variable {s : State} {b : Slot} (going : s.Going b)

include going

/-! ## ACTIVE samples, phase by phase -/

theorem driveBoom (h : Hole) (feed rotation : Int) : (s.driveBoom b h feed rotation).Going b :=
  going.setBoom going.works.level rfl

theorem drivePhase (h : Hole) : (s.drivePhase b h).Going b := going.driveBoom h _ _

theorem profileSample (h : Hole) : (s.profileSample b h).Going b := going.setContexts

theorem cross (h : Hole) : (s.cross b h).Served := going.served.cross going.works h

theorem collaringSample (h : Hole) : (s.collaringSample b h).Served := by
  have driven := (going.drivePhase h).profileSample h
  unfold State.collaringSample
  dsimp only
  split
  · exact driven.cross h
  · exact driven.served

theorem drillingSample (h : Hole) : (s.drillingSample b h).Served := by
  have driven := (going.drivePhase h).profileSample h
  unfold State.drillingSample
  dsimp only
  split
  · exact driven.served.endDrilling driven.works h
  · exact driven.served

theorem retractDrillSample (h : Hole) : (s.retractDrillSample b h).Served := by
  have driven := going.drivePhase h
  unfold State.retractDrillSample
  dsimp only
  split
  · exact driven.cross h
  · exact driven.served

theorem loaderSample (cmd : LoaderCmd) : (s.loaderSample b cmd).Served := by
  unfold State.loaderSample
  split
  · exact going.served.setContexts
  · exact going.served.setContexts
  · exact going.served

theorem resinLoadSample (h : Hole) : (s.resinLoadSample b h).Served := by
  have driven := going.drivePhase h
  unfold State.resinLoadSample
  dsimp only
  split
  · exact driven.cross h
  · exact driven.loaderSample _

theorem boltLoadSample (h : Hole) : (s.boltLoadSample b h).Served := by
  have driven := going.drivePhase h
  unfold State.boltLoadSample
  dsimp only
  split
  · exact driven.cross h
  · exact driven.setContexts.loaderSample _

theorem insertingSample (h : Hole) : (s.insertingSample b h).Served := by
  have driven := going.drivePhase h
  unfold State.insertingSample
  dsimp only
  split
  · exact driven.cross h
  · exact driven.served

/-- A condition raised stops the boom, and the arbiter looks again (R134). -/
theorem stops (h : Hole) (c : Cond) (n : Nat) : ((s.raise b [c]).stopInPhase b h c n).evaluate.Served :=
  ((going.served.raise b _).stopInPhase (going.works.raise _) h c n).evaluate

theorem mixingSample (h : Hole) : (s.mixingSample b h).Served := by
  have driven := going.drivePhase (h.addSpeed (s.boom b).inForce.speed)
  unfold State.mixingSample
  dsimp only
  split
  · exact driven.served.endMixing driven.works _
  · split
    · exact driven.stops _ _ _
    · exact driven.served

theorem holdingSample (h : Hole) : (s.holdingSample b h).Served := by
  have driven := going.drivePhase h
  unfold State.holdingSample
  dsimp only
  split
  · exact driven.served.endHolding driven.works h
  · exact driven.served

theorem torquingSample (h : Hole) : (s.torquingSample b h).Served := by
  have driven := going.drivePhase (h.takeTorque (s.boom b).inForce.torque)
  unfold State.torquingSample
  dsimp only
  split
  · exact driven.served.endTorquing driven.works _ _ _
  · split
    · exact driven.served.endTorquing driven.works _ _ _
    · exact driven.served

theorem driveRelease (h : Hole) : (s.driveRelease b h).Going b := by
  unfold State.driveRelease
  dsimp only
  split
  · exact (going.driveBoom _ _ _).setContexts
  · exact (going.driveBoom _ _ _).setContexts

theorem releasingSample (h : Hole) : (s.releasingSample b h).Served := by
  have driven := going.driveRelease h
  unfold State.releasingSample
  dsimp only
  split
  · exact driven.cross h
  · exact driven.served

theorem phaseSample (h : Hole) : (s.phaseSample b h).Served := by
  unfold State.phaseSample
  cases h.phase with
  | collaring => exact going.collaringSample h
  | drilling => exact going.drillingSample h
  | retractDrill => exact going.retractDrillSample h
  | resinLoad => exact going.resinLoadSample h
  | boltLoad => exact going.boltLoadSample h
  | inserting => exact going.insertingSample h
  | mixing => exact going.mixingSample h
  | holding => exact going.holdingSample h
  | torquing => exact going.torquingSample h
  | releasing => exact going.releasingSample h

/-! ## RE_ENGAGE -/

theorem seat (h : Hole) : (s.seat b h).Served := by
  unfold State.seat
  split
  · exact going.served.endHolding going.works _
  · exact going.served.askFlow going.works _

theorem engageSample (h : Hole) : (s.engageSample b h).Served := by
  have driven : (s.setBoom b
      { s.boom b with auto := .cycle .reEngage h, feed := (h.plan.recipe.insertFeed : Int), rotation := 0,
                      chuck := .closed }).Going b := going.setBoom going.works.level rfl
  unfold State.engageSample
  dsimp only
  split
  · exact driven.seat h
  · exact driven.served

/-! ## ABANDONING -/

theorem noteOverdue (was : Bool) : (s.noteOverdue b was).Going b := by
  unfold State.noteOverdue State.queueStatus
  split
  · split
    · exact ⟨going.served.link _, ⟨going.works.fits, going.works.mode, going.works.level, going.works.code⟩, going.free⟩
    · exact going
  · exact going

theorem abandonSample (sub : AbandonSub) (h : Hole) : (s.abandonSample b sub h).Served := by
  unfold State.abandonSample
  cases sub with
  | active =>
    dsimp only
    split
    · have timed : ((s.setBoom b { s.boom b with auto := .abandoning .active (h.abandonTimer s.params) }).noteOverdue b
          h.overdue).Going b := by
        refine State.Going.noteOverdue ?_ _
        exact going.setBoom going.works.level rfl
      split
      · exact timed.served.endHole timed.works _
      · exact timed.served
    · exact going.moveAbandon h
  | driveHeld =>
    dsimp only
    split
    · exact going.moveAbandon h
    · exact going.served
  | waitFlow => exact going.served

end State.Going

namespace State.Served

variable {s : State} (served : s.Served) {b : Slot}

include served

/-! ## The sample by state -/

/-- The conditions of a sample stop the boom, or its sample goes on. -/
theorem takeConds (works : s.Works b) (h : Hole) (cs : List Cond) {go : State → State}
    (goes : ∀ t : State, t.Served → t.Works b → (s.entryless b → t.entryless b) → (go t).Served) :
    (s.takeConds b h cs go).Served := by
  have marked : (s.setBoom b ((s.boom b).markSeen.raise cs)).Served := served.setContexts
  have works' : (s.setBoom b ((s.boom b).markSeen.raise cs)).Works b := works.setContexts
  unfold State.takeConds
  dsimp only
  split
  · exact (marked.stopInPhase works' h _ _).evaluate
  · exact goes _ marked works' id

/-- A boom whose CYCLE context does not wait for flow has no entry. -/
theorem running_entryless {sub : CycleSub} {h : Hole} (running : (s.boom b).running = some (sub, h))
    (moves : sub = .active ∨ sub = .reEngage) : s.entryless b := by
  obtain ⟨level, auto⟩ := running_context running
  obtain ⟨retract, manual⟩ := level_zero level
  refine served.entryless ?_
  unfold Boom.waitsForFlow
  rw [retract, manual, auto]
  rcases moves with rfl | rfl <;> simp

theorem running_works {sub : CycleSub} {h : Hole} (running : (s.boom b).running = some (sub, h)) : s.Works b := by
  obtain ⟨level, auto⟩ := running_context running
  exact served.works level (by rw [auto]; rfl)

theorem cycleSample {sub : CycleSub} {h : Hole} (running : (s.boom b).running = some (sub, h)) :
    (s.cycleSample b sub h).Served := by
  have works := served.running_works running
  unfold State.cycleSample
  cases sub with
  | active =>
    exact served.takeConds works _ _ fun t held going free =>
      State.Going.phaseSample ⟨held, going, free (served.running_entryless running (.inl rfl))⟩ _
  | reEngage =>
    exact served.takeConds works _ _ fun t held going free =>
      State.Going.engageSample ⟨held, going, free (served.running_entryless running (.inr rfl))⟩ _
  | waitFlow => exact served.takeConds works _ _ fun t held _ _ => held
  | backedOff => exact served.takeConds works _ _ fun t held _ _ => held

/-- A retract at home rests, its flow given back (R161). -/
theorem retractHome {c : RetractCtx} (retract : (s.boom b).retract = some c) (r : RetractCtx) :
    (s.retractHome b r).Served := by
  have away : (s.boom b).level ≠ 0 := by rw [level_two retract]; decide
  refine ((served.reduceBoom b 0).changeBoom ?_).evaluate
  exact (served.reduceBoom b 0).suits_away away (ne_of_eq_of_ne (level_two rfl) (by decide))
    (.inl (reduceBoom_entryless s b 0)) rfl

theorem noteOverdue (was : Bool) : (s.noteOverdue b was).Served := by
  unfold State.noteOverdue
  split
  · exact served.queueStatus b
  · exact served

omit served in
theorem noteOverdue_boom (s : State) (b c : Slot) (was : Bool) : (s.noteOverdue b was).boom c = s.boom c := by
  unfold State.noteOverdue
  split
  · exact queueStatus_boom s b c
  · rfl

theorem retractSample {r : RetractCtx} (retract : (s.boom b).retract = some r) : (s.retractSample b r).Served := by
  have free (moves : r.sub ≠ .waitFlow) : s.entryless b := served.entryless (by
    unfold Boom.waitsForFlow; rw [retract]; exact moves)
  unfold State.retractSample
  cases sub : r.sub with
  | active =>
    dsimp only
    split
    · have timed : ((s.setBoom b { s.boom b with retract := some (r.timer s.params) }).noteOverdue b r.overdue).Served := by
        refine noteOverdue ?_ _
        exact served.setSame (Boom.SameStanding.of_retract retract rfl rfl rfl)
      split
      · exact timed.retractHome (by rw [noteOverdue_boom, State.setBoom_boom]) _
      · exact timed
    · exact served.moveRetract retract (free (by rw [sub]; decide)) r
  | driveHeld =>
    dsimp only
    split
    · exact served.moveRetract retract (free (by rw [sub]; decide)) r
    · exact served
  | waitFlow => exact served
  | retracted => exact served

theorem stopManual {m : ManualCtx} (manual : (s.boom b).manual = some m) : (s.setBoom b ((s.boom b).stopManual m)).Served :=
  served.setSame (Boom.SameStanding.of_manual manual rfl rfl rfl rfl)

theorem manualSample {m : ManualCtx} (manual : (s.boom b).manual = some m) : (s.manualSample b m).Served := by
  unfold State.manualSample
  split
  · exact served
  · exact served.stopManual manual

theorem contextSample : (s.contextSample b).Served := by
  unfold State.contextSample
  split
  · next r retract => exact served.retractSample retract
  · next m retract manual => exact served.manualSample manual
  · next sub h retract manual auto =>
    exact served.cycleSample (running_of_contexts retract manual auto)
  · next sub h retract manual auto =>
    cases sub with
    | waitFlow => exact served
    | active =>
      refine State.Going.abandonSample ⟨served, served.works (level_of_contexts retract manual) (by rw [auto]; rfl),
        served.entryless ?_⟩ _ _
      unfold Boom.waitsForFlow
      rw [retract, manual, auto]
      simp
    | driveHeld =>
      refine State.Going.abandonSample ⟨served, served.works (level_of_contexts retract manual) (by rw [auto]; rfl),
        served.entryless ?_⟩ _ _
      unfold Boom.waitsForFlow
      rw [retract, manual, auto]
      simp
  · refine served.setContexts ?_ ?_ ?_ <;> unfold Boom.observeSample <;> dsimp only <;> split <;> rfl
  all_goals exact served

theorem boomSample (r : Quad Reading) : (s.boomSample b r).Served := by
  refine contextSample (served.setContexts ?_ ?_ ?_) <;> unfold Boom.forgetEligible <;> split <;> rfl

end State.Served

end Sys2Proof.Machine

end

section
/-! SUPPORT. The interventions keep the invariant of flow and lists: pushes, takeovers, retracts, the sweep, and the pops (R153 to
R166). -/

namespace Sys2Proof.Machine

/-- A hole replaced in its context, or the context as it was, leaves the boom standing as it did. -/
theorem Boom.SameStanding.of_rehole {x y : Boom} (auto : y.auto = x.auto ∨ ∃ h, y.auto = x.auto.withHole h)
    (retract : y.retract = x.retract) (manual : y.manual = x.manual) : x.SameStanding y := by
  rcases auto with same | ⟨h, replaced⟩
  · exact Boom.SameStanding.of_contexts same retract manual
  · exact Boom.SameStanding.of_hole replaced retract manual

theorem setAside_rehole (a : Auto) : a.setAside = a ∨ ∃ h, a.setAside = a.withHole h := by
  unfold Auto.setAside
  cases a.hole with
  | none => exact .inl rfl
  | some h => exact .inr ⟨_, rfl⟩

theorem countTakeover_rehole (a : Auto) : a.countTakeover = a ∨ ∃ h, a.countTakeover = a.withHole h := by
  unfold Auto.countTakeover
  cases a.hole with
  | none => exact .inl rfl
  | some h => exact .inr ⟨_, rfl⟩

theorem countRetract_code (a : Auto) : a.countRetract.code = a.code := by
  unfold Auto.countRetract
  cases a <;> rfl

theorem releaseChuck_rehole (a : Auto) : a.releaseChuck = a ∨ ∃ h, a.releaseChuck = a.withHole h := by
  cases a with
  | cycle sub h =>
    unfold Auto.releaseChuck
    dsimp only
    split
    · exact .inr ⟨_, rfl⟩
    · exact .inl rfl
  | exception f h =>
    unfold Auto.releaseChuck
    dsimp only
    split
    · exact .inr ⟨_, rfl⟩
    · exact .inl rfl
  | idle => exact .inl rfl
  | abandoning sub h => exact .inl rfl
  | logWait r => exact .inl rfl
  | observing p => exact .inl rfl

theorem releaseChuck_code (a : Auto) : a.releaseChuck.code = a.code := by
  rcases releaseChuck_rehole a with same | ⟨h, same⟩ <;> rw [same]
  cases a <;> rfl

/-- Setting a boom's work aside leaves it at its level, in a context of the same kind. -/
theorem pushed_standing (x : Boom) : x.SameStanding x.pushed := by
  unfold Boom.pushed
  cases manual : x.manual with
  | some m => exact Boom.SameStanding.of_manual manual rfl rfl rfl rfl
  | none => exact Boom.SameStanding.of_rehole (setAside_rehole x.auto) rfl rfl

/-! ## Booms in use -/

/-- The boom may be worked on by hand: fitted, out of CONFIG. -/
abbrev State.InUse (s : State) (b : Slot) : Prop := s.fits b = true ∧ s.mode ≠ .config

theorem State.InUse.of_books {s t : State} {b : Slot} (used : s.InUse b) (books : s.SameBooks t) : t.InUse b := by
  obtain ⟨fits, mode⟩ := used
  exact ⟨by unfold State.fits; rw [books.store.params]; exact fits, by rw [books.store.mode]; exact mode⟩

/-- A boom in use is written at an intervention level, its level-0 context of the same kind. -/
theorem State.InUse.suits {s : State} {b : Slot} {x : Boom} (used : s.InUse b) (stays : x.level ≠ 0)
    (waits : s.entryless b ∨ x.waitsForFlow) (code : x.auto.code = (s.boom b).auto.code) : s.Suits b x where
  waits := waits
  restful level := absurd level stays
  placed := .inr used
  writes := by rw [code]

theorem waits_of_manual {x : Boom} {m : ManualCtx} (retract : x.retract = none) (manual : x.manual = some m)
    (sub : m.sub = .waitFlow) : x.waitsForFlow := by
  unfold Boom.waitsForFlow
  rw [retract, manual]
  exact sub

theorem waits_of_retract {x : Boom} {r : RetractCtx} (retract : x.retract = some r) (sub : r.sub = .waitFlow) :
    x.waitsForFlow := by
  unfold Boom.waitsForFlow
  rw [retract]
  exact sub

namespace State.Going

variable {s : State} {b : Slot} (going : s.Going b)

include going

/-! ## The pop of a working boom -/

theorem popCycle (sub : CycleSub) (h : Hole) (d : Nat) : (s.popCycle b sub h d).Served := by
  have back : (s.setBoom b { (s.boom b).gapTested h.phase with
      auto := .cycle sub ((h.addMoved d).noteMoved (s.params.movedFar d)) }).Going b := by
    refine going.setBoom ?_ rfl
    refine (level_same ?_ ?_).trans going.works.level <;> unfold Boom.gapTested <;> split <;> rfl
  unfold State.popCycle
  dsimp only
  split
  · exact back.stops _ _ _
  · exact back.served.resume back.works _

theorem popException (f : ExFrame) (h : Hole) (d : Nat) : (s.popException b f h d).Served := by
  unfold State.popException
  dsimp only
  refine (State.Served.reduceBoom ?_ b _).evaluate
  refine State.Going.served (b := b) ?_
  exact going.setBoom going.works.level rfl

end State.Going

namespace State.Served

variable {s : State} (served : s.Served) {b : Slot}

include served

/-! ## The push and the takeover -/

theorem pushBoom (b : Slot) : (s.pushBoom b).Served := (served.withdrawBoom b).setSame (pushed_standing _)

theorem pushBoom_boom : (s.pushBoom b).boom b = (s.boom b).pushed := by
  unfold State.pushBoom
  dsimp only
  rw [State.setBoom_boom, (withdrawBoom_self served b).1]

theorem pushBoom_entryless : (s.pushBoom b).entryless b := (withdrawBoom_self served b).2

/-- A takeover's request for its flow, its boom not at level 2 (R155). -/
theorem manualRequest (used : s.InUse b) (retract : (s.boom b).retract = none) (m : ManualCtx) :
    (s.manualRequest b m).Served := by
  unfold State.manualRequest
  dsimp only
  split
  · refine ((served.reduceBoom b _).changeBoom ?_).evaluate
    exact State.InUse.suits used (ne_of_eq_of_ne (level_of_manual retract rfl) (by decide))
      (.inl (reduceBoom_entryless s b _)) rfl
  · refine served.asks ?_ ?_ _ _
    · exact used.suits (ne_of_eq_of_ne (level_of_manual retract rfl) (by decide))
        (.inr (waits_of_manual retract rfl rfl)) rfl
    · exact waits_of_manual retract rfl rfl

theorem takeoverBoom (used : s.InUse b) (level : (s.boom b).level = 0) : (s.takeoverBoom b).Served := by
  have retract : (s.boom b).retract = none := (level_zero level).1
  have counted : ((s.pushBoom b).setBoom b
      { (s.pushBoom b).boom b with auto := ((s.pushBoom b).boom b).auto.countTakeover }).Served :=
    (served.pushBoom b).setSame (Boom.SameStanding.of_rehole (countTakeover_rehole _) rfl rfl)
  refine counted.manualRequest
    (used.of_books ((State.SameBooks.setBoom _ _ _).after (State.SameBooks.pushBoom s b))) ?_ _
  rw [State.setBoom_boom, served.pushBoom_boom]
  exact (pushed_retract _).trans retract

/-! ## Safety retracts -/

/-- A fresh retract finds its sub-state (R161). -/
theorem retractGo {c : RetractCtx} (retract : (s.boom b).retract = some c) (sub : c.sub = .waitFlow) (r : RetractCtx) :
    (s.retractGo b r).Served := by
  unfold State.retractGo
  split
  · exact served.retractHome retract r
  · split
    · exact (moveRetract (served.reduceBoom b _) retract (reduceBoom_entryless s b _) r).evaluate
    · exact (served.topUpBoom (waits_of_retract retract sub) _ _).evaluate

theorem startRetract (used : s.InUse b) : (s.startRetract b).Served := by
  have used' : (s.pushBoom b).InUse b := used.of_books (State.SameBooks.pushBoom s b)
  unfold State.startRetract
  dsimp only
  refine retractGo ((served.pushBoom b).changeBoom ?_) (by rw [changeBoom_boom]) rfl _
  refine used'.suits (ne_of_eq_of_ne (level_two rfl) (by decide)) (.inl served.pushBoom_entryless) ?_
  exact (countRetract_code _).trans (releaseChuck_code _)

omit served in
/-- What every fitted slot's act keeps, the acts of all of them keep. -/
theorem forFitted_keeps {f : Slot → State → State} {K : State → Prop} (h : ∀ b t, t.fits b = true → K t → K (f b t))
    {s : State} (start : K s) : K (forFitted f s) := by
  have each : ∀ b t, K t → K (if t.fits b then f b t else t) := fun b t k => by
    split
    · next fits => exact h b t fits k
    · exact k
  exact each _ _ (each _ _ (each _ _ (each _ _ start)))

theorem sweep (mode : s.mode ≠ .config) : s.sweep.Served := by
  have both : s.sweep.Served ∧ s.sweep.mode ≠ .config := by
    refine forFitted_keeps (K := fun t => t.Served ∧ t.mode ≠ .config) (fun b t fits ⟨held, other⟩ => ?_) ⟨served, mode⟩
    split
    · exact ⟨held, other⟩
    · exact ⟨held.startRetract ⟨fits, other⟩, by rw [(State.SameBooks.startRetract t b).store.mode]; exact other⟩
  exact both.1

/-! ## The pops -/

/-- A boom without a hole is popped: its flow is given back (R165). -/
theorem popRestful (used : s.InUse b) :
    (((s.changeBoom b (s.boom b).popped).reduceBoom b 0).evaluate).Served := by
  have grant : (s.reduceBoom b 0).grant b = 0 := by rw [reduceBoom_grant]; exact Nat.zero_min _
  rw [changeBoom_reduceBoom]
  refine ((served.reduceBoom b 0).changeBoom ?_).evaluate
  exact { waits := .inl (reduceBoom_entryless s b 0), restful := fun _ _ => grant, placed := .inr used, writes := Iff.rfl }

/-- A boom with a hole is popped: it may work on it again. -/
theorem popWorking (used : s.InUse b) (free : s.entryless b) (hole : (s.boom b).auto.holdsNone = false) :
    (s.changeBoom b (s.boom b).popped).Going b where
  served := served.changeBoom
    { waits := .inl free, restful := fun _ none => absurd (hole.symm.trans none) (by decide), placed := .inr used
      writes := Iff.rfl }
  works := by
    obtain ⟨fits, mode⟩ := used.of_books (State.SameBooks.changeBoom s b (s.boom b).popped)
    exact ⟨fits, mode, by rw [changeBoom_boom]; rfl, by rw [changeBoom_boom]; exact (code_of_hole hole).2⟩
  free := by unfold State.entryless; rw [changeBoom_arbiter]; exact free

theorem popAuto (used : s.InUse b) (free : s.entryless b) : (s.popAuto b).Served := by
  have popped : ((s.changeBoom b (s.boom b).popped).boom b).auto = (s.boom b).auto := by rw [changeBoom_boom]; rfl
  unfold State.popAuto State.popRequest
  dsimp only
  rw [popped]
  cases auto : (s.boom b).auto with
  | cycle sub h => exact (served.popWorking used free (by rw [auto]; rfl)).popCycle sub h _
  | exception f h => exact (served.popWorking used free (by rw [auto]; rfl)).popException f h _
  | abandoning sub h =>
    have going := served.popWorking used free (by rw [auto]; rfl)
    exact going.served.abandonGo going.works _
  | idle => exact served.popRestful used
  | logWait r => exact served.popRestful used
  | observing p => exact served.popRestful used

theorem popRetract (used : s.InUse b) (free : s.entryless b) : (s.popRetract b).Served := by
  unfold State.popRetract
  cases manual : (s.boom b).manual with
  | some m =>
    dsimp only
    refine manualRequest (served.changeBoom ?_) (used.of_books (State.SameBooks.changeBoom s b _))
      (by rw [changeBoom_boom]) m
    exact used.suits (ne_of_eq_of_ne (level_of_manual rfl manual) (by decide)) (.inl free) rfl
  | none => exact served.popAuto used free

end State.Served

end Sys2Proof.Machine

end

section
/-! SUPPORT. The timers, the machine inputs, the mode change and the tick keep the invariant of flow and lists (R57 to R61, R96, R122,
R142, R156, R160, R179, R194). -/

namespace Sys2Proof.Machine

/-- The running hole replaced leaves the boom standing as it did. -/
theorem onHole_standing (x : Boom) (f : Hole → Hole) : x.SameStanding (x.onHole f) := by
  unfold Boom.onHole
  split
  · next sub h running => exact Boom.SameStanding.of_hole (by rw [(running_context running).2]; rfl) rfl rfl
  · exact Boom.SameStanding.refl x

theorem itemDone_standing (x : Boom) (cmd : LoaderCmd) : x.SameStanding (x.itemDone cmd) := by
  have cancelled : x.SameStanding x.cancelLoader := Boom.SameStanding.of_contexts rfl rfl rfl
  cases cmd with
  | push => exact cancelled.trans (onHole_standing _ _)
  | index => exact (cancelled.trans (onHole_standing _ _)).trans (Boom.SameStanding.of_contexts rfl rfl rfl)

theorem stopManual_standing {x : Boom} {m : ManualCtx} (manual : x.manual = some m) : x.SameStanding (x.stopManual m) :=
  Boom.SameStanding.of_manual manual rfl rfl rfl rfl

theorem holdTick_standing (x : Boom) (ps : Params) : x.SameStanding (x.holdTick ps) := by
  unfold Boom.holdTick
  split
  · next m manual =>
    split
    · split
      · exact stopManual_standing manual
      · exact Boom.SameStanding.of_manual manual rfl rfl rfl rfl
    · exact Boom.SameStanding.refl x
  · exact Boom.SameStanding.refl x

/-- An entry timed afresh keeps its requester and its place. -/
theorem retime_sameFlow (s : State) (b : Slot) (due : Bool) : s.SameFlow (s.retime b due) :=
  { State.SameFlow.refl s with
    requesters := by
      unfold State.retime
      rw [List.map_map]
      exact List.map_congr_left fun e _ => by simp only [Function.comp_apply]; split <;> rfl
    places := by
      unfold State.retime
      rw [List.map_map]
      exact List.map_congr_left fun e _ => by simp only [Function.comp_apply]; split <;> rfl }

/-- Entries marked as ahead, or no longer ahead, keep their requesters and places. -/
theorem markAhead_sameFlow (s : State) (old : List WaitEntry) : s.SameFlow { s with arbiter := s.arbiter.markAhead old } :=
  { State.SameFlow.refl s with
    requesters := by
      simp only [Arbiter.markAhead, List.map_map]
      exact List.map_congr_left fun e _ => by simp only [Function.comp_apply, WaitEntry.markAhead]; split <;> rfl
    places := by
      simp only [Arbiter.markAhead, List.map_map]
      exact List.map_congr_left fun e _ => by simp only [Function.comp_apply, WaitEntry.markAhead]; split <;> rfl }

theorem startTick_sameFlow (s : State) (drive : Bool) : s.SameFlow (s.startTick drive) :=
  { State.SameFlow.refl s with
    requesters := by
      simp only [State.startTick, Arbiter.tickComes, List.map_map]
      exact List.map_congr_left fun e _ => rfl
    places := by
      simp only [State.startTick, Arbiter.tickComes, List.map_map]
      exact List.map_congr_left fun e _ => rfl }

namespace State.Served

variable {s : State} (served : s.Served)

include served

/-! ## Stops of a running boom -/

/-- A condition raised stops a running boom, whatever its sub-state, and the arbiter looks again (R134). -/
theorem stopsRunning {b : Slot} {sub : CycleSub} {k : Hole} (running : (s.boom b).running = some (sub, k)) (h : Hole)
    (c : Cond) (n : Nat) : ((s.raise b [c]).stopInPhase b h c n).evaluate.Served :=
  ((served.raise b _).stopInPhase ((served.running_works running).raise _) h c n).evaluate

/-! ## The loader -/

theorem takeJam (b : Slot) : (s.takeJam b).Served := by
  have cancelled : (s.setBoom b (s.boom b).cancelLoader).Served := served.setContexts
  unfold State.takeJam
  dsimp only
  split
  · next sub h running => exact cancelled.stopsRunning running h _ _
  · exact cancelled

theorem takeDone (b : Slot) : (s.takeDone b).Served := by
  unfold State.takeDone
  split
  · exact served.setSame (itemDone_standing _ _)
  · exact served
  · exact served

theorem takeFault (b : Slot) : (s.takeFault b).Served := by
  unfold State.takeFault
  split
  · split
    · exact served.setContexts
    · exact served.takeJam b
  · exact served
  · exact served

/-! ## The timers of one boom -/

theorem loadTimer (b : Slot) : (s.loadTimer b).Served := by
  unfold State.loadTimer
  split
  · split
    · exact served.takeJam b
    · exact served
  · exact served
  · exact served

theorem takeStarved {b : Slot} {sub : CycleSub} {h : Hole} (running : (s.boom b).running = some (sub, h)) (waited : Nat)
    (due : Bool) : (s.takeStarved b h waited due).Served := by
  unfold State.takeStarved
  dsimp only
  split
  · next c _ => exact ((served.raise b _).stopInPhase ((served.running_works running).raise _) h c _).evaluate
  · exact ((served.raise b _).of_same (retime_sameFlow _ b due)).setSame (onHole_standing _ _)

theorem starveTimer (b : Slot) (due : Bool) : (s.starveTimer b due).Served := by
  unfold State.starveTimer
  split
  · next sub h e running _ =>
    split
    · exact served.takeStarved running _ due
    · exact served
  · exact served

theorem manualTimer (b : Slot) : (s.manualTimer b).Served := by
  unfold State.manualTimer
  split
  · exact served
  · exact served.setSame (holdTick_standing _ _)

theorem gelTimer (b : Slot) : (s.gelTimer b).Served := by
  unfold State.gelTimer
  split
  · next sub h auto => exact served.setSame (Boom.SameStanding.of_hole (h := h.gelTick s.clock) (by rw [auto]; rfl) rfl rfl)
  · next f h auto => exact served.setSame (Boom.SameStanding.of_hole (h := h.gelTick s.clock) (by rw [auto]; rfl) rfl rfl)
  · exact served

theorem boomTimers (b : Slot) : (State.boomTimers b s).Served :=
  ((((served.loadTimer b).starveTimer b false).manualTimer b).gelTimer b)

/-! ## Link silence and drive-enable -/

theorem silenceBoom (b : Slot) : (s.silenceBoom b).Served := by
  unfold State.silenceBoom
  split
  · next m _ manual => exact served.stopManual manual
  · next h retract manual auto =>
    have works := served.running_works (running_of_contexts retract manual auto)
    exact (served.raise b _).stopInPhase (works.raise _) h _ _
  · next h retract manual auto =>
    have works := served.running_works (running_of_contexts retract manual auto)
    exact (served.raise b _).stopInPhase (works.raise _) h _ _
  · exact served

theorem enterSilence : s.enterSilence.Served :=
  evaluate (forFitted_keeps (fun b _ _ held => held.silenceBoom b) (served.link _))

theorem silenceTick : s.silenceTick.Served := by
  unfold State.silenceTick
  split
  · exact served
  · exact served.link _

theorem silenceTimer : s.silenceTimer.Served := by
  unfold State.silenceTimer
  dsimp only
  split
  · exact served.silenceTick.enterSilence
  · exact served.silenceTick

theorem readLine (level : Bool) : (s.readLine level).Served := by
  have read : ({ s with retractLine := some level } : State).Served := served.of_same { State.SameFlow.refl s with }
  unfold State.readLine
  dsimp only
  split
  · next rises => exact read.sweep (by rw [show ({ s with retractLine := some level } : State).mode = .run from rises.2.2]; decide)
  · exact read

theorem moveAbandon {b : Slot} {sub : AbandonSub} {k : Hole} (retract : (s.boom b).retract = none)
    (manual : (s.boom b).manual = none) (auto : (s.boom b).auto = .abandoning sub k) (moves : sub ≠ .waitFlow) (h : Hole) :
    (s.moveAbandon b h).Served := by
  refine State.Going.moveAbandon ⟨served, served.works (level_of_contexts retract manual) (by rw [auto]; rfl),
    served.entryless ?_⟩ h
  unfold Boom.waitsForFlow
  rw [retract, manual, auto]
  exact moves

theorem driveFell (b : Slot) : (s.driveFell b).Served := by
  unfold State.driveFell
  split
  · next r retract =>
    split
    · next sub => exact served.moveRetract retract (served.entryless (by unfold Boom.waitsForFlow; rw [retract]; simp [sub])) r
    · exact served
  · next m _ manual => exact served.stopManual manual
  · next h retract manual auto => exact served.stopsRunning (running_of_contexts retract manual auto) h _ _
  · next h retract manual auto => exact served.stopsRunning (running_of_contexts retract manual auto) h _ _
  · next h retract manual auto => exact served.moveAbandon retract manual auto (by decide) h
  · exact served

theorem driveCame (b : Slot) : (s.driveCame b).Served := by
  unfold State.driveCame
  split
  · next r retract =>
    split
    · next sub => exact served.moveRetract retract (served.entryless (by unfold Boom.waitsForFlow; rw [retract]; simp [sub])) r
    · exact served
  · next h retract manual auto => exact served.moveAbandon retract manual auto (by decide) h
  · exact served

/-! ## The mode change -/

/-- A mode change made when every fitted boom is quiescent: no boom holds flow, and in CONFIG every boom is at rest (R179). -/
theorem changeMode (quiet : s.quiescent = true) (m : Mode) : (s.changeMode m).Served := by
  have changed : ({ s with mode := m, requested := none } : State).Served :=
    { served with
      config := fun _ b => by
        by_cases fits : s.fits b = true
        · have all : b ∈ Slot.all := by cases b <;> decide
          have own := List.all_eq_true.1 quiet b all
          simp only [fits, Bool.not_true, Bool.false_or, State.quiet, Bool.and_eq_true, decide_eq_true_eq] at own
          exact own.1
        · exact served.unfitted b (Bool.eq_false_iff.2 fits) }
  have queued : (State.queueModeChange { s with mode := m, requested := none }).Served := changed.link _
  unfold State.changeMode
  dsimp only
  split
  · next sweeps =>
    refine queued.sweep ?_
    change m ≠ .config
    rw [sweeps.1]
    decide
  · exact queued

theorem settleMode : s.settleMode.Served := by
  unfold State.settleMode
  split
  · split
    · next quiet => exact served.changeMode quiet _
    · exact served
  · exact served

theorem noteChuck (b : Slot) : (s.noteChuck b).Served := by
  unfold State.noteChuck
  split
  · exact served
  · exact served.setContexts

theorem settle : s.settle.Served := forFitted_keeps (fun b _ _ held => held.noteChuck b) served.settleMode

/-! ## The tick -/

theorem tick (drive line : Bool) (rs : Four (Quad Reading)) : (s.tick drive line rs).Served := by
  have sampled : (forFitted (State.sampleAndSettle rs) (s.startTick drive)).Served :=
    forFitted_keeps (fun b _ _ held => (held.boomSample (rs.get b)).settle) (served.of_same (startTick_sameFlow s drive))
  have timed : (forFitted State.boomTimers (forFitted (State.sampleAndSettle rs) (s.startTick drive))).Served :=
    forFitted_keeps (fun b _ _ held => held.boomTimers b) sampled
  exact (timed.silenceTimer.readLine line).settle

end State.Served

end Sys2Proof.Machine

end

section
/-! SUPPORT. The timed events and every request keep the invariant of flow and lists (R190; log entry 2). -/

namespace Sys2Proof.Machine

/-- A boom stopped by an event at the tick falling due: the clock is set back, and the entries it placed are marked. -/
theorem atDueTick_served {s : State} {f : State → State} (served : s.Served) (keeps : ∀ t : State, t.Served → (f t).Served) :
    (atDueTick f s).Served := by
  have later : ({ s with clock := s.clock + 1 } : State).Served := served.of_same { State.SameFlow.refl s with }
  have done := (keeps _ later).of_same (markAhead_sameFlow _ s.arbiter.waitList)
  exact done.of_same { State.SameFlow.refl _ with }

namespace State.Served

variable {s : State} (served : s.Served)

include served

/-! ## Timed events -/

theorem stallDue (b : Slot) : (s.stallDue b).Served := by
  unfold State.stallDue
  split
  · next h running =>
    split
    · exact served
    · exact served.stopsRunning running _ _ _
  · exact served

theorem retractDue (b : Slot) : (s.retractDue b).Served := by
  unfold State.retractDue
  split
  · next h running =>
    split
    · exact served
    · exact served.stopsRunning running _ _ _
  · exact served

theorem abandonOverdue (b : Slot) : (s.abandonOverdue b).Served := by
  unfold State.abandonOverdue
  split
  · next h _ auto =>
    split
    · refine noteOverdue ?_ _
      exact served.setSame (Boom.SameStanding.of_hole (by rw [auto]; rfl) rfl rfl)
    · exact served
  · exact served

theorem safeOverdue (b : Slot) : (s.safeOverdue b).Served := by
  unfold State.safeOverdue
  split
  · next r retract =>
    split
    · split
      · refine noteOverdue ?_ _
        exact served.setSame (Boom.SameStanding.of_retract retract rfl rfl rfl)
      · exact served
    · exact served
  · exact served

theorem mixDue (b : Slot) : (s.mixDue b).Served := by
  unfold State.mixDue
  split
  · next h running =>
    split
    · exact served.stopsRunning running _ _ _
    · exact served
  · exact served

theorem holdDue (b : Slot) : (s.holdDue b).Served := by
  unfold State.holdDue
  split
  · next h running =>
    split
    · exact served.endHolding (served.running_works running) h
    · exact served
  · exact served

theorem torqueDue (b : Slot) : (s.torqueDue b).Served := by
  unfold State.torqueDue
  split
  · next h running =>
    split
    · exact served.endTorquing (served.running_works running) h _ _
    · exact served
  · exact served

theorem positionDue (b : Slot) : (s.positionDue b).Served := by
  unfold State.positionDue
  split
  · next h running =>
    split
    · exact served.stopsRunning running _ _ _
    · exact served
  · next h running =>
    split
    · exact served.stopsRunning running _ _ _
    · exact served
  · exact served

theorem manualDue (b : Slot) : (s.manualDue b).Served := by
  unfold State.manualDue
  split
  · next m active =>
    have manual : (s.boom b).manual = some m := by
      unfold Boom.activeManual at active
      split at active
      · cases active
      · exact active
    split
    · split
      · exact served.stopManual manual
      · exact served
    · exact served
  · exact served

theorem intervalDue (b : Slot) : (s.intervalDue b).Served := by
  unfold State.intervalDue
  split
  · split
    · exact served.setContexts
    · exact served
  · exact served.setContexts
  · exact served

theorem silenceExpiry : s.silenceExpiry.Served := by
  unfold State.silenceExpiry
  split
  · exact served.silenceTick.enterSilence
  · exact served

/-! ## The machine inputs -/

theorem setDriveLine (level : Bool) : (s.setDriveLine level).Served := by
  have set : ({ s with driveLine := some level } : State).Served := served.of_same { State.SameFlow.refl s with }
  unfold State.setDriveLine
  dsimp only
  split
  · exact set
  · exact forFitted_keeps (fun b t _ (held : t.Served) => held.setContexts) set

theorem readDrive (level : Bool) {reach : Slot → State → State} (keeps : ∀ b (t : State), t.Served → (reach b t).Served) :
    (s.readDrive level reach).Served := by
  unfold State.readDrive
  split
  · exact forFitted_keeps (fun b t _ held => keeps b t held) (served.of_same { State.SameFlow.refl s with })
  · exact served

theorem driveFall : s.driveFall.Served := by
  unfold State.driveFall
  split
  · exact served.readDrive _ fun b _ held => held.driveFell b
  · exact served.setDriveLine _

theorem driveReturn : s.driveReturn.Served := by
  unfold State.driveReturn
  split
  · exact served.readDrive _ fun b _ held => held.driveCame b
  · exact served.setDriveLine _

theorem lineAssert : s.lineAssert.Served := by
  unfold State.lineAssert
  split
  · exact served.readLine true
  · exact served

theorem lineRelease : s.lineRelease.Served := by
  unfold State.lineRelease
  split
  · exact served.readLine false
  · exact served

/-! ## The parameters (R19, R110) -/

/-- In CONFIG no boom holds flow. -/
theorem total_config (mode : s.mode = .config) : s.arbiter.total = s.arbiter.reserve := by
  have none (b : Slot) : s.arbiter.grants.get b = 0 := by
    obtain ⟨idle, level⟩ := served.config mode b
    exact served.restful b level (by rw [idle]; rfl)
  have g1 : s.arbiter.grants.b1 = 0 := none .s1
  have g2 : s.arbiter.grants.b2 = 0 := none .s2
  have g3 : s.arbiter.grants.b3 = 0 := none .s3
  have g4 : s.arbiter.grants.b4 = 0 := none .s4
  unfold Arbiter.total
  omega

/-- In CONFIG, where no boom is busy, any parameters that leave the reserve its grant may be set. -/
theorem withParams (mode : s.mode = .config) {ps : Params} (room : s.arbiter.reserve ≤ ps.pumpCapacity) :
    ({ s with params := ps } : State).Served :=
  { served with
    capacity := (served.total_config mode).le.trans room
    unfitted := fun b _ => served.config mode b }

/-- In CONFIG a slot is cleared: its boom was at rest, and is (R19). -/
theorem clearSlot (mode : s.mode = .config) (b : Slot) : (s.clearSlot b).Served := by
  obtain ⟨idle, level⟩ := served.config mode b
  have same : (s.boom b).SameStanding Boom.fresh :=
    ⟨level.symm, by rw [idle]; rfl, fun waits => absurd (waits_not_restful waits level) (by rw [idle]; decide)⟩
  have cleared : (s.setBoom b Boom.fresh).Served := served.setSame same
  exact cleared.of_same { State.SameFlow.refl _ with }

theorem refit (mode : s.mode = .config) (old : Params) : (s.refit old).Served := by
  have each : ∀ b (t : State), t.Served ∧ t.mode = .config →
      (if old.fits b = s.params.fits b then t else t.clearSlot b).Served ∧
        (if old.fits b = s.params.fits b then t else t.clearSlot b).mode = .config := by
    rintro b t ⟨held, config⟩
    split
    · exact ⟨held, config⟩
    · exact ⟨held.clearSlot config b, config⟩
  exact (each _ _ (each _ _ (each _ _ (each _ _ ⟨served, mode⟩)))).1

theorem storeParam (mode : s.mode = .config) (p : ParamId) (v : Nat) : (s.storeParam p (s.storedValue p v)).Served := by
  have room : s.arbiter.reserve ≤ (s.params.set p (s.storedValue p v)).pumpCapacity := by
    have stored : (s.params.set p (s.storedValue p v)).pumpCapacity =
        if .pumpCapacity = p then s.storedValue p v else s.params.pumpCapacity :=
      params_get_set s.params p .pumpCapacity (s.storedValue p v)
    rw [stored]
    split
    · next own => subst own; exact Nat.le_max_right _ _
    · exact (served.total_config mode).symm.le.trans served.capacity
  have set : ({ s with params := s.params.set p (s.storedValue p v) } : State).Served := served.withParams mode room
  unfold State.storeParam
  dsimp only
  split
  · exact set.refit mode _
  · exact set.evaluate
  · exact set

end State.Served

end Sys2Proof.Machine

end

section
/-! SUPPORT. Every request keeps the invariant of flow and lists (R190). -/

namespace Sys2Proof.Machine

theorem idleAtZero_iff (x : Boom) : x.idleAtZero = true ↔ x.auto = .idle ∧ x.level = 0 := by
  simp [Boom.idleAtZero]

theorem activeManual_contexts {x : Boom} {m : ManualCtx} (active : x.activeManual = some m) :
    x.retract = none ∧ x.manual = some m := by
  unfold Boom.activeManual at active
  split at active
  · cases active
  · next retract => exact ⟨retract, active⟩

/-- A MANUAL_DRIVE leaves the takeover in its sub-state, and the hole below it in its context. -/
theorem driveManual_standing {x : Boom} {m : ManualCtx} (manual : x.manual = some m) (feed rotation : Int) (c : ChuckArg) :
    x.SameStanding (x.driveManual m feed rotation c) := by
  have chuck : x.SameStanding (x.driveChuck c) := by
    cases c with
    | keep => exact Boom.SameStanding.refl x
    | opened => exact Boom.SameStanding.of_rehole (releaseChuck_rehole x.auto) rfl rfl
    | closed => exact Boom.SameStanding.of_contexts rfl rfl rfl
  have kept : (x.driveChuck c).manual = some m := by cases c <;> exact manual
  exact chuck.trans (Boom.SameStanding.of_manual kept rfl rfl rfl rfl)

namespace State.Served

variable {s : State} (served : s.Served)

include served

/-! ## The plan and the parameters -/

theorem reqSetParam (id : Byte) (value : Word) : (reqSetParam id value s).1.Served := by
  unfold Machine.reqSetParam
  split
  · exact served
  · next mode =>
    split
    · exact served
    · split
      · exact served
      · dsimp only
        split
        · exact served.storeParam (not_not.1 mode) _ _
        · exact served

theorem reqLoadRecipe (slot : Byte) (fields : List Half) : (reqLoadRecipe slot fields s).1.Served := by
  unfold Machine.reqLoadRecipe
  split
  · exact served
  · split
    · exact served
    · dsimp only
      split
      · exact served
      · split
        · exact served.of_same { State.SameFlow.refl s with }
        · exact served

theorem reqClearRecipe (slot : Byte) : (reqClearRecipe slot s).1.Served := by
  unfold Machine.reqClearRecipe
  split
  · exact served
  · split
    · exact served
    · split
      · exact served
      · split
        · exact served
        · exact served.of_same { State.SameFlow.refl s with }

theorem reqQueueHole (boom : Byte) (id : Half) (slot : Byte) (pos : Half) (presence : Byte) (override : Option Half) :
    (reqQueueHole boom id slot pos presence override s).1.Served := by
  unfold Machine.reqQueueHole
  split
  · exact served
  · split
    · exact served
    · split
      · exact served
      · split
        · exact served
        · split
          · exact served
          · split
            · exact served.of_same { State.SameFlow.refl s with }
            · exact served

theorem reqCancelHole (id : Half) : (reqCancelHole id s).1.Served := by
  unfold Machine.reqCancelHole
  split
  · exact served
  · split
    · exact served.of_same { State.SameFlow.refl s with }
    · split <;> exact served

theorem reqFlushQueue (boom : Byte) : (reqFlushQueue boom s).1.Served := by
  unfold Machine.reqFlushQueue
  split
  · exact served
  · split
    · exact served
    · exact served.of_same { State.SameFlow.refl s with }

/-! ## Holes -/

/-- A boom at rest that is asked to start may work on a hole, and has no entry. -/
theorem atRest_going {b : Slot} (fits : s.fits b = true) (mode : s.mode ≠ .config) (idle : (s.boom b).auto = .idle)
    (level : (s.boom b).level = 0) : s.Going b where
  served := served
  works := ⟨fits, mode, level, by rw [idle]; decide⟩
  free := served.entryless fun waits => absurd (waits_not_restful waits level) (by rw [idle]; decide)

theorem reqGo (boom : Byte) : (reqGo boom s).1.Served := by
  unfold Machine.reqGo
  split
  · exact served
  · next b named =>
    split
    · exact served
    · next mode =>
      split
      · exact served
      · split
        · exact served
        · next idle =>
          split
          · exact served
          · split
            · exact served
            · split
              · exact served
              · split
                · exact served
                · obtain ⟨rests, level⟩ := (idleAtZero_iff _).1 (by simpa using idle)
                  have going := served.atRest_going (fits_of_slotOf named) (by rw [not_not.1 mode]; decide) rests level
                  exact going.served.startHole going.works _ _ _

theorem reqAbandon (boom : Byte) : (reqAbandon boom s).1.Served := by
  unfold Machine.reqAbandon
  split
  · exact served
  · next b _ =>
    split
    · next h given =>
      have hole : (s.boom b).level = 0 ∧ (s.boom b).auto.holdsNone = false := by
        unfold Boom.abandonable at given
        split at given
        · next level auto => exact ⟨level, by rw [auto]; rfl⟩
        · next level auto => exact ⟨level, by rw [auto]; rfl⟩
        · cases given
      exact served.abandonHole (served.works hole.1 hole.2) h
    · exact served

theorem reqSetEnables (boom : Byte) (set : Word) : (reqSetEnables boom set s).1.Served := by
  unfold Machine.reqSetEnables
  split
  · exact served
  · split
    · exact served.setContexts
    · exact served

/-! ## RESOLVE -/

/-- CONTINUE, from a state in which the boom may work on its hole (R144, R145). -/
theorem continueFrame {b : Slot} (works : s.Works b) (f : ExFrame) (h : Hole) : (s.continueFrame b f h).Served := by
  have gap (x : Boom) (p : Phase) : (x.gapTested p).auto = x.auto ∧ (x.gapTested p).retract = x.retract ∧
      (x.gapTested p).manual = x.manual := by unfold Boom.gapTested; split <;> exact ⟨rfl, rfl, rfl⟩
  unfold State.continueFrame State.continueNext State.continuePhase
  split
  · obtain ⟨auto, retract, manual⟩ := gap (s.boom b).clearPosted h.phase
    exact (served.setContexts auto retract manual).enterPhase (works.setContexts auto retract manual) _ _
  · split
    · exact served.enterPhase works _ _
    · obtain ⟨auto, retract, manual⟩ := gap (s.boom b) h.phase
      exact (served.setContexts auto retract manual).resume (works.setContexts auto retract manual) _

theorem retryFrame {b : Slot} (works : s.Works b) (h : Hole) (k : RetryKind) : (s.retryFrame b h k).Served := by
  unfold State.retryFrame
  cases k with
  | loader => exact served.resume works _
  | mix => exact served.resume works _
  | retorque =>
    refine enterPhase ?_ ?_ _ _
    · exact served.setContexts
    · exact works.setContexts

theorem resolveOn {b : Slot} (works : s.Works b) (a : Action) (n : Nat) (f : ExFrame) (h : Hole) :
    (resolveOn a n b f h s).1.Served := by
  cases a with
  | resume =>
    unfold Machine.resolveOn resolveContinueOn
    dsimp only
    split
    · exact served
    · exact served.continueFrame works _ _
  | retry =>
    unfold Machine.resolveOn resolveRetryOn
    dsimp only
    split
    · exact served
    · split
      · exact served
      · split
        · exact served
        · exact served.retryFrame works _ _
  | setCartridges =>
    unfold Machine.resolveOn resolveCartridgesOn
    dsimp only
    split
    · exact served
    · split
      · exact served
      · split
        · exact served
        · exact served.continueFrame works _ _
  | abandon => exact served.abandonHole works _

theorem reqResolve (boom action : Byte) (value : Option Byte) : (reqResolve boom action value s).1.Served := by
  unfold Machine.reqResolve
  split
  · exact served
  · next b _ =>
    split
    · exact served
    · split
      · exact served
      · next f h given =>
        have stands : (s.boom b).level = 0 ∧ (s.boom b).auto = .exception f h := by
          unfold Boom.resolvable at given
          split at given
          · next level auto => cases given; exact ⟨level, auto⟩
          · cases given
        exact served.resolveOn (served.works stands.1 (by rw [stands.2]; rfl)) _ _ f h

/-! ## Interventions -/

theorem reqTakeover (boom : Byte) : (reqTakeover boom s).1.Served := by
  unfold Machine.reqTakeover
  split
  · exact served
  · next b named =>
    split
    · exact served
    · next mode =>
      split
      · exact served
      · next one =>
        split
        · exact served
        · next two =>
          have level : (s.boom b).level = 0 := by
            revert one two
            unfold Boom.level
            split <;> simp
          exact served.takeoverBoom ⟨fits_of_slotOf named, by rw [not_not.1 mode]; decide⟩ level

theorem reqManualDrive (boom : Byte) (feed rotation : Half) (chuck : Byte) :
    (reqManualDrive boom feed rotation chuck s).1.Served := by
  unfold Machine.reqManualDrive
  split
  · exact served
  · split
    · exact served
    · split
      · exact served
      · split
        · exact served
        · next m active =>
          obtain ⟨-, manual⟩ := activeManual_contexts active
          change (s.manualDrive _ m _ _ _).Served
          unfold State.manualDrive
          split
          · split
            · exact served.setSame (driveManual_standing manual _ _ _)
            · exact served
          · exact served

theorem reqHandback (boom : Byte) : (reqHandback boom s).1.Served := by
  unfold Machine.reqHandback
  split
  · exact served
  · next b named =>
    split
    · exact served
    · next m active =>
      obtain ⟨retract, manual⟩ := activeManual_contexts active
      have used : s.InUse b := served.inUse (.inr (by rw [level_of_manual retract manual]; decide))
      exact (served.withdrawBoom b).popAuto (used.of_books (State.SameBooks.withdrawBoom s b)) (withdrawBoom_self served b).2

theorem reqSafeRetract (boom : Byte) : (reqSafeRetract boom s).1.Served := by
  unfold Machine.reqSafeRetract
  split
  · exact served
  · next b named =>
    split
    · exact served
    · next mode =>
      split
      · exact served
      · exact served.startRetract ⟨fits_of_slotOf named, by rw [not_not.1 mode]; decide⟩

theorem reqRetractClear (boom : Byte) : (reqRetractClear boom s).1.Served := by
  unfold Machine.reqRetractClear
  split
  · exact served
  · next b named =>
    split
    · exact served
    · next resting =>
      split
      · exact served
      · have rests : ∃ r, (s.boom b).retract = some r ∧ r.sub = .retracted := by
          unfold Boom.retracted at resting
          cases retract : (s.boom b).retract with
          | none => simp [retract] at resting
          | some r => exact ⟨r, rfl, by simpa [retract] using resting⟩
        obtain ⟨r, retract, sub⟩ := rests
        refine served.popRetract (served.inUse (.inr (by rw [level_two retract]; decide))) (served.entryless ?_)
        unfold Boom.waitsForFlow
        rw [retract]
        simp [sub]

/-! ## Flow -/

theorem reqReserveFlow (n : Half) : (reqReserveFlow n s).1.Served := by
  unfold Machine.reqReserveFlow
  split
  · exact served
  · dsimp only
    split
    · exact (served.topUp (r := .reserve) nofun _ _ _).evaluateWith _ _
    · split
      · exact served
      · exact (served.reduce .reserve _).evaluate

theorem reqReleaseFlow : (reqReleaseFlow s).1.Served := by
  unfold Machine.reqReleaseFlow
  split
  · exact served
  · exact (served.reduce .reserve _).evaluate

/-! ## The log and observed holes -/

/-- The oldest record goes and the first waiting writer's takes a place behind the rest: the others wait beside a full log still
(R174). -/
theorem dropRecord {r : BoltRecord} {rest : List BoltRecord} (log : s.log = r :: rest) :
    (State.admitWriter { s with log := rest }).Served := by
  unfold State.admitWriter
  split
  · next none =>
    have free : s.writers = [] := none
    exact { served with logFull := fun some => absurd free some }
  · next b ws first =>
    have writers : s.writers = b :: ws := first
    have full : 48 ≤ rest.length + 1 := by
      have long := served.logFull (by rw [writers]; simp)
      rw [log] at long
      exact long
    obtain ⟨absent, once⟩ := List.nodup_cons.1 (writers ▸ served.writersOnce)
    obtain ⟨w, auto⟩ := (served.writersWait b).1 (by rw [writers]; exact List.mem_cons_self)
    have held : (({ s with log := rest, writers := ws } : State).boom b).auto.heldRecord = some w := by
      change (s.boom b).auto.heldRecord = some w
      rw [auto]; rfl
    dsimp only
    split
    · next w' held' =>
      have used : s.InUse b := served.inUse (.inl (by simp [auto, Auto.code, Auto.view]))
      have emptied : ({ s.setBoom b { s.boom b with auto := .idle } with
          writers := ws, log := rest ++ [{ w' with seq := s.nextSeq }] } : State).Served := by
        refine served.setWriters
          { waits := ?_, restful := fun level _ => served.restful b level (by rw [auto]; rfl), placed := .inr used } once
          (by simp [absent, Auto.code, Auto.view]) (fun c ne => by rw [writers]; simp [ne]) fun _ => by simpa using full
        by_cases waits : (s.boom b).waitsForFlow
        · right
          have away : (s.boom b).level ≠ 0 := fun level => absurd (waits_not_restful waits level) (by simp [auto, Auto.holdsNone])
          revert waits away
          unfold Boom.waitsForFlow Boom.level
          cases (s.boom b).retract <;> cases (s.boom b).manual <;> simp
        · exact .inl (served.entryless waits)
      obtain ⟨q, eq⟩ := changeBoom_link (State.writeRecord { s with log := rest, writers := ws } w') b
        { s.boom b with auto := .idle }
      change (State.changeBoom (State.writeRecord { s with log := rest, writers := ws } w') b
        { s.boom b with auto := .idle }).Served
      rw [eq]
      exact emptied.of_same { State.SameFlow.refl _ with }
    · next none => exact absurd (held.symm.trans none) (by simp)

theorem reqDropRecord : (reqDropRecord s).1.Served := by
  unfold Machine.reqDropRecord
  split
  · exact served
  · next r rest log => exact served.dropRecord log

theorem reqMarkStart (boom : Byte) (id : Half) (slot : Byte) (pos : Half) : (reqMarkStart boom id slot pos s).1.Served := by
  unfold Machine.reqMarkStart
  split
  · exact served
  · next b named =>
    split
    · exact served
    · next mode =>
      split
      · exact served
      · split
        · exact served
        · next idle =>
          split
          · exact served
          · split
            · exact served
            · split
              · exact served
              · obtain ⟨rests, level⟩ := (idleAtZero_iff _).1 (by simpa using idle)
                have going := served.atRest_going (fits_of_slotOf named) (by rw [not_not.1 mode]; decide) rests level
                refine served.changeBoom ?_
                exact { waits := .inl going.free, restful := fun _ _ => served.restful b level (by rw [rests]; rfl)
                        placed := .inr ⟨going.works.fits, going.works.mode⟩
                        writes := ⟨fun code => absurd code (by simp [Boom.startObserving, Auto.code, Auto.view]), fun code => absurd code going.works.code⟩ }

theorem reqMarkEnd (boom : Byte) : (reqMarkEnd boom s).1.Served := by
  unfold Machine.reqMarkEnd
  split
  · exact served
  · next b named =>
    split
    · exact served
    · next mode =>
      split
      · next p level auto =>
        have going : s.Going b := by
          refine ⟨served, ⟨fits_of_slotOf named, by rw [not_not.1 mode]; decide, level, by simp [auto, Auto.code, Auto.view]⟩,
            served.entryless fun waits => absurd (waits_not_restful waits level) (by simp [auto, Auto.holdsNone])⟩
        refine State.Going.offerRecord ?_ ?_ _
        · exact going.setContexts
        · exact served.restful b level (by rw [auto]; rfl)
      · exact served

/-! ## Mode Control -/

theorem reqSetMode (mode : Byte) : (reqSetMode mode s).1.Served := by
  unfold Machine.reqSetMode
  cases Mode.ofCode mode.toNat with
  | none => exact served
  | some m =>
    have asked : ({ s with requested := some m } : State).Served := served.of_same { State.SameFlow.refl s with }
    dsimp only
    split
    · split
      · exact served
      · exact served.of_same { State.SameFlow.refl s with }
    · exact asked.settleMode

end State.Served

end Sys2Proof.Machine

end

section
/-! SUPPORT. Every command keeps the invariant of flow and lists, and O50. -/

namespace Sys2Proof.Machine

namespace State.Served

variable {s : State} (served : s.Served)

include served

/-! ## Requests taken by the link -/

theorem handleRequest (r : Request) : (handleRequest r s).1.Served := by
  cases r with
  | setMode m => exact served.reqSetMode m
  | restart => exact served.link _
  | setParam id v => exact served.reqSetParam id v
  | loadRecipe slot fields => exact served.reqLoadRecipe slot fields
  | clearRecipe slot => exact served.reqClearRecipe slot
  | queueHole b id slot tag presence override => exact served.reqQueueHole b id slot tag presence override
  | cancelHole id => exact served.reqCancelHole id
  | flushQueue b => exact served.reqFlushQueue b
  | go b => exact served.reqGo b
  | abandon b => exact served.reqAbandon b
  | setEnables b w => exact served.reqSetEnables b w
  | resolve b a v => exact served.reqResolve b a v
  | takeover b => exact served.reqTakeover b
  | manualDrive b f r c => exact served.reqManualDrive b f r c
  | handback b => exact served.reqHandback b
  | safeRetract b => exact served.reqSafeRetract b
  | retractClear b => exact served.reqRetractClear b
  | reserveFlow n => exact served.reqReserveFlow n
  | releaseFlow => exact served.reqReleaseFlow
  | dropRecord => exact served.reqDropRecord
  | markStart b id slot tag => exact served.reqMarkStart b id slot tag
  | markEnd b => exact served.reqMarkEnd b
  | getStatus => exact served
  | getFlow => exact served
  | getParam id =>
    change (reqGetParam id s).1.Served
    unfold reqGetParam
    split <;> exact served
  | getRecipe slot =>
    change (reqGetRecipe slot s).1.Served
    unfold reqGetRecipe
    split
    · exact served
    · split <;> exact served
  | getQueue b =>
    change (reqGetQueue b s).1.Served
    unfold reqGetQueue
    split <;> exact served
  | getFrame b =>
    change (reqGetFrame b s).1.Served
    unfold reqGetFrame
    split
    · exact served
    · split <;> exact served
  | getProfile b =>
    change (reqGetProfile b s).1.Served
    unfold reqGetProfile
    split
    · exact served
    · split <;> exact served
  | fetchRecord =>
    change (reqFetchRecord s).1.Served
    unfold reqFetchRecord
    split <;> exact served

theorem handleFrame (f : Frame) : (handleFrame f s).1.Served := by
  unfold Machine.handleFrame
  split
  · exact served
  · exact served
  · exact served.handleRequest _

theorem startNext : s.startNext.Served := by
  obtain ⟨l, eq, -⟩ := startNext_link s
  rw [eq]
  exact served.link l

theorem takeWaiting : s.takeWaiting.Served := by
  unfold State.takeWaiting
  split
  · split
    · exact served
    · next f rest _ _ _ =>
      have taken : ({ s with link := { s.link with waiting := rest } } : State).Served := served.link _
      exact (taken.handleFrame f).settle.link _
  · exact served

theorem serve : s.serve.Served := served.startNext.takeWaiting.startNext.takeWaiting

theorem finish : s.finish.Served := served.settle.serve

omit served in
/-- Every reset leaves the invariant, whatever parameters and recipes it keeps (R185). -/
theorem afterReset (cause : ModeCause) (ps : Params) (recipes : Vector (Option Recipe) 16) (pending : List Instr) :
    ({ State.afterReset cause ps recipes with pending := pending } : State).Served := by
  have fresh (b : Slot) : ({ State.afterReset cause ps recipes with pending := pending } : State).boom b = Boom.fresh := by
    cases b <;> rfl
  exact
    { capacity := Nat.zero_le _
      entries := fun _ mem => absurd mem List.not_mem_nil
      once := List.nodup_nil
      order := List.Pairwise.nil
      restful := fun b _ _ => by cases b <;> rfl
      unfitted := fun b _ => by rw [fresh]; exact ⟨rfl, rfl⟩
      config := fun _ b => by rw [fresh]; exact ⟨rfl, rfl⟩
      writersOnce := List.nodup_nil
      writersWait := fun b => ⟨fun mem => absurd mem List.not_mem_nil, fun ⟨_, held⟩ => by rw [fresh] at held; cases held⟩
      logFull := fun some => absurd rfl some }

theorem transmitEnd : s.transmitEnd.Served := by
  unfold State.transmitEnd
  dsimp only
  split
  · exact afterReset _ _ _ _
  · exact serve (served.startNext.link _)

theorem longFrameArrives (kind tag : Byte) (payload : List Byte) (crc : Half) :
    (s.longFrameArrives kind tag payload crc).Served := by
  have fold : ∀ (l : List Byte) (t : State), t.Served → (l.foldl State.byteArrives t).Served := by
    intro l
    induction l with
    | nil => exact fun _ held => held
    | cons byte l ih => exact fun t held => ih _ (held.link _).finish
  exact fold _ _ (served.link _)

/-! ## Commands -/

theorem boomEvent (b : Slot) {f : State → State} (keeps : ∀ t : State, t.Served → (f t).Served) : (s.boomEvent b f).Served := by
  unfold State.boomEvent
  refine finish ?_
  split
  · exact keeps s served
  · exact served

theorem timedEvent (b : Slot) {f : State → State} (keeps : ∀ t : State, t.Served → (f t).Served) : (s.timedEvent b f).Served :=
  served.boomEvent b fun _ held => atDueTick_served held keeps

theorem requestArrives (tag : Byte) (r : Request) : (s.requestArrives tag r).Served := (served.link _).serve

/-- Every command keeps the invariant: a reset brings it about, and each event keeps it. -/
theorem exec {c : Instr} {t : State} (run : exec c s = .next t) : t.Served := by
  cases c
  case powerOn => cases run; exact afterReset _ _ _ _
  case sampleTick drive line rs => cases run; exact (served.tick drive line rs).serve
  case driveEnableFall => cases run; exact served.driveFall.finish
  case driveEnableReturn => cases run; exact served.driveReturn.finish
  case retractLineAssert => cases run; exact served.lineAssert.finish
  case retractLineRelease => cases run; exact served.lineRelease.finish
  case loaderDone b => cases run; exact served.boomEvent b fun _ held => held.takeDone b
  case loaderFault b => cases run; exact served.boomEvent b fun _ held => held.takeFault b
  case loadTimeout b => cases run; exact served.timedEvent b fun _ held => held.loadTimer b
  case feedStall b => cases run; exact served.timedEvent b fun _ held => held.stallDue b
  case retractTimeout b => cases run; exact served.timedEvent b fun _ held => held.retractDue b
  case abandonRetractOverdue b => cases run; exact served.timedEvent b fun _ held => held.abandonOverdue b
  case safeRetractOverdue b => cases run; exact served.timedEvent b fun _ held => held.safeOverdue b
  case mixShort b => cases run; exact served.timedEvent b fun _ held => held.mixDue b
  case holdTimerElapsed b => cases run; exact served.timedEvent b fun _ held => held.holdDue b
  case torqueTimeout b => cases run; exact served.timedEvent b fun _ held => held.torqueDue b
  case gelLimitReached b => cases run; exact served.timedEvent b fun _ held => held.gelTimer b
  case positionLost b => cases run; exact served.timedEvent b fun _ held => held.positionDue b
  case flowStarved b => cases run; exact served.timedEvent b fun _ held => held.starveTimer b true
  case manualHoldExpiry b => cases run; exact served.timedEvent b fun _ held => held.manualDue b
  case intervalForcedClose b => cases run; exact served.timedEvent b fun _ held => held.intervalDue b
  case linkSilent => cases run; exact (atDueTick_served served fun _ held => held.silenceExpiry).finish
  case frameReceived kind tag payload crc =>
    cases run
    split
    · exact served.longFrameArrives _ _ _ _
    · exact (served.link _).finish
  case frameGapTimeout => cases run; exact (served.link _).finish
  case unknownKind => cases run; exact (served.link _).finish
  case byteReceived => cases run; exact (served.link _).finish
  case frameTransmitEnd => cases run; exact served.transmitEnd
  case warmRestart =>
    cases run
    split
    · exact afterReset _ _ _ _
    · exact served.finish
  all_goals cases run; exact served.requestArrives _ _

theorem step {t : State} (run : step s = .next t) : t.Served := by
  unfold Machine.step at run
  split at run
  · cases run; exact served
  · next c rest _ =>
    have waiting : ({ s with pending := rest } : State).Served := served.of_same { State.SameFlow.refl s with }
    exact waiting.exec run

end State.Served

end Sys2Proof.Machine

end

section
/-! SUPPORT. An evaluation by itself: it keeps the granted flow within the capacity whatever the state, and looks at the head alone
(R109, R118 to R120); and O50. -/

namespace Sys2Proof.Machine

/-! ## No act of an evaluation but a grant raises the granted flow -/

/-- The capacity is the same, and no more flow is granted. -/
def State.GivesNoFlow (s t : State) : Prop :=
  t.params.pumpCapacity = s.params.pumpCapacity ∧ t.arbiter.total ≤ s.arbiter.total

theorem State.GivesNoFlow.safe {s t : State} (less : s.GivesNoFlow t) (safe : s.flowSafe) : t.flowSafe := by
  obtain ⟨capacity, total⟩ := less
  unfold State.flowSafe at safe ⊢
  omega

theorem changeBoom_givesNoFlow (s : State) (b : Slot) (x : Boom) : s.GivesNoFlow (s.changeBoom b x) :=
  ⟨by rw [(State.SameBooks.changeBoom s b x).store.params], by rw [changeBoom_arbiter]⟩

theorem stopBoom_givesNoFlow (s : State) (b : Slot) (h : Hole) (k : FrameKind) (c : Cond) (n : Nat) (p q : Phase) :
    s.GivesNoFlow (s.stopBoom b h k c n p q) :=
  ⟨by rw [(State.SameBooks.stopBoom s b h k c n p q).store.params], by rw [stopBoom_arbiter]; exact reduce_total_le _ _ _⟩

theorem startCycle_givesNoFlow (s : State) (b : Slot) (h : Hole) (now : Bool) : s.GivesNoFlow (s.startCycle b h now) := by
  unfold State.startCycle
  split
  · exact stopBoom_givesNoFlow (s.raise b s.startFaults) b h _ _ _ _ _
  · unfold State.moveOff
    dsimp only
    split <;> exact changeBoom_givesNoFlow s b _

theorem tell_givesNoFlow (s : State) (q : Bool) (r : Requester) : s.GivesNoFlow (s.tell q r) := by
  cases r with
  | reserve =>
    unfold State.tell
    dsimp only
    split <;> exact ⟨rfl, le_rfl⟩
  | boom b =>
    unfold State.tell
    dsimp only
    split
    · split
      · unfold State.moveRetract
        dsimp only
        split <;> exact changeBoom_givesNoFlow s b _
      · exact ⟨rfl, le_rfl⟩
    · exact changeBoom_givesNoFlow s b _
    · exact startCycle_givesNoFlow s b _ _
    · exact startCycle_givesNoFlow s b _ _
    · unfold State.moveAbandon
      dsimp only
      split <;> exact changeBoom_givesNoFlow s b _
    · exact ⟨rfl, le_rfl⟩

theorem awardEntry_safe {s : State} (safe : s.flowSafe) (q : Bool) {e : WaitEntry}
    (fits : e.demand - s.arbiter.grantOf e.requester ≤ s.free) : (s.awardEntry q e).flowSafe :=
  (tell_givesNoFlow { s with arbiter := s.arbiter.award e } q e.requester).safe (award_fits safe fits)

theorem backOff_safe {s : State} (safe : s.flowSafe) {b : Slot} (eligible : s.backable b = true) : (s.backOff b).flowSafe := by
  obtain ⟨h, running, -⟩ := (backable_iff s b).1 eligible
  obtain ⟨q, backed⟩ := backOff_written running
  have total := takeBack_total s b
  have capacity : s.arbiter.total ≤ s.params.pumpCapacity := safe
  rw [backed]
  change (s.arbiter.takeBack s.clock b).total ≤ s.params.pumpCapacity
  omega

theorem backOffUntil_safe (need : Nat) (rs : List Requester) {s : State} (safe : s.flowSafe) :
    (State.backOffUntil need rs s).flowSafe := by
  induction rs generalizing s with
  | nil => exact safe
  | cons r rs ih =>
    unfold State.backOffUntil
    split
    · exact safe
    · split
      · split
        · next eligible => exact ih (backOff_safe safe eligible)
        · exact ih safe
      · exact ih safe

theorem evaluateWith_safe (q : Bool) (n : Nat) {s : State} (safe : s.flowSafe) : (State.evaluateWith q n s).flowSafe := by
  induction n generalizing s with
  | zero => exact safe
  | succ n ih =>
    unfold State.evaluateWith
    split
    · exact safe
    · dsimp only
      split
      · next fits => exact ih (awardEntry_safe safe q fits)
      · split
        · exact ih (backOffUntil_safe _ _ safe)
        · exact safe

/-! ## The head alone -/

/-- The head's award: its demand, and the tail of the grant list (R112, R119). -/
theorem award_head {a : Arbiter} {e : WaitEntry} {rest : List WaitEntry} (list : a.waitList = e :: rest) :
    (match e.requester with
      | .boom b => (a.award e).grants = a.grants.set b e.demand ∧ (a.award e).reserve = a.reserve
      | .reserve => (a.award e).grants = a.grants ∧ (a.award e).reserve = e.demand) ∧
    (a.award e).waitList = rest.filter (fun w => w.requester ≠ e.requester) ∧
    (a.award e).grantList = a.grantList.filter (fun q => q ≠ e.requester) ++ [e.requester] := by
  refine ⟨?_, ?_, ?_⟩
  · cases who : e.requester <;> simp [Arbiter.award, Arbiter.withdraw, Arbiter.setGrant, who]
  · rw [award_waitList, list, List.filter_cons_of_neg (by simp)]
  · simp [Arbiter.award, Arbiter.withdraw]

theorem flowClass_normal (p : Phase) : p.flowClass = .normal ↔ p ≠ .mixing ∧ p ≠ .holding ∧ p ≠ .torquing := by
  cases p <;> decide

/-- Settles O50: an evaluation grants only what fits; every command keeps the invariant, each of its writes by the rule for what it
writes; and an evaluation's looks are the cases of its definition. -/
theorem evaluationStaysWithinCapacity : Obligations.EvaluationStaysWithinCapacity := by
  refine ⟨fun s q n safe => evaluateWith_safe q n safe, fun s t served run => served.step run, fun s quiet => evaluate_nil quiet,
    fun s q n need e rest list demanded => ?_, fun s need b r rs => ⟨fun covered => backOffUntil_covered covered _, fun short =>
      ⟨backOffUntil_reserve short rs, fun spared => backOffUntil_spares short spared rs,
        fun eligible => backOffUntil_takes short eligible rs⟩⟩, fun s => ⟨fun b => ?_, backableFlow_eq s⟩⟩
  · have needed : need = e.demand - s.arbiter.grantOf e.requester := by
      rw [demanded]
      cases e.requester <;> rfl
    subst needed
    refine ⟨fun fits => ?_, fun short urgent room => evaluateWith_backs list short urgent room, fun short held => ?_⟩
    · obtain ⟨granted, waiting, holders⟩ := award_head list
      exact ⟨s.arbiter.award e, evaluateWith_grants list fits, granted, waiting, holders⟩
    · exact ⟨evaluateWith_short list short held _ _, evaluateWith_short list short held _ _, evaluateWith_short list short held _ _⟩
  · rw [backable_iff]
    exact exists_congr fun h => and_congr_right fun _ => flowClass_normal h.phase

end Sys2Proof.Machine

end
